-- ==== Sys2Proof/Word.lean ====
section
/-!
DEFINITION. The words the spec counts and sends: characters of the cabinet line and bytes of the configuration block, timestamps,
moments, ranks, slicer level codes and glyph codes.
-/

namespace Sys2Proof

/-- One character of the cabinet line (R62) or one byte of the configuration block (R184). -/
abbrev Byte := BitVec 8

/-- A timestamp of the free-running tick counter: 32 bits, wrapping (R2). -/
abbrev Stamp := BitVec 32

/-- A moment, in ticks of 1/48 µs since node reset (00_scope, Conventions, Time). -/
abbrev Moment := Nat

/-- A node's rank, 0 to 7 (00_scope, Terms). -/
abbrev Rank := Fin 8

/-- A slicer level code, 0 to 255 (00_scope, Terms). -/
abbrev Code := Fin 256

/-- A glyph code of the overlay, 0 to 63 (R163). -/
abbrev Glyph := Fin 64

/-- A handover number: 8 bits, wrapping from 255 to 0 (00_scope, Terms). -/
abbrev HandoverNumber := BitVec 8

end Sys2Proof
end

