-- ==== Sys2Proof/Syntax.lean ====
section
/-!
DEFINITION. The commands of the NT-6208: one constructor of `Instr` for each row of spec/opcode_table.json, with the operands its
event carries (assumption log 1 and 2).

`dt` is the ticks that have passed since the command before it was taken; a command without `dt` is self-timed and takes place at the
moment its own timer or position gives. `held` is how many ticks the new level of an input has held without change, which the input's
filter tests.
-/

namespace Sys2Proof

/-- The level of the cabinet line: dominant (low) or recessive (high) (04, opening). -/
inductive Level where
  | dominant
  | recessive
  deriving DecidableEq, Repr

/-- A cause of node reset: NRESET low for `held` ticks, or power-on (R178). -/
inductive ResetCause where
  | nresetLow (held : Nat)
  | powerOn
  deriving DecidableEq, Repr

/-- The strap pins RK0 to RK2: `true` reads 1 (left open), `false` reads 0 (tied to ground) (R178). -/
structure Straps where
  rk0 : Bool
  rk1 : Bool
  rk2 : Bool
  deriving DecidableEq, Repr

/-- Which of the three acknowledgements of a try is meant (R179, steps 2, 3 and 5). -/
inductive AckStep where
  | deviceWrite
  | memoryAddress
  | deviceRead
  deriving DecidableEq, Repr

/-- Why a configuration read try fails (R179). `clockHold` carries the length of the hold in ticks. -/
inductive TryFailure where
  | missingAck (step : AckStep)
  | lineLowAtStart
  | clockHold (ticks : Nat)
  deriving DecidableEq, Repr

/-- What ends node reset: the supply within its range for `supply` ticks, NRESET high or not, and the straps as they stand then (R178). -/
structure ResetRelease where
  supply : Nat
  nresetHigh : Bool
  straps : Straps
  deriving DecidableEq, Repr

/-- A failed try: why it fails, and whether both lines of the port read high once the loader has released them, so that they allow a stop
condition (R179). -/
structure FailedTry where
  cause : TryFailure
  linesFree : Bool
  deriving DecidableEq, Repr

/-- A fall of the line: the level 240 ticks after it, at the middle of the start bit that it may begin (R62), and the data bits of the frame
followed that were read since the command before (R71). -/
structure Fall where
  middle : Level
  read : List Bool
  deriving DecidableEq, Repr

/-- A run of consecutive converter samples of one code: the samples of an acquisition window are given as runs, in order (R4). -/
structure SampleRun where
  code : Code
  count : Nat
  deriving DecidableEq, Repr

/-- What spoils the framing of a followed frame (R71). -/
inductive FramingKind where
  | dominantStopBit
  | countTooLarge
  deriving DecidableEq, Repr

/-- A coin channel, numbered after COIN1 and COIN2 (08, opening). -/
inductive Channel where
  | one
  | two
  deriving DecidableEq, Repr

/-- A panel input (R150). -/
inductive PanelInput where
  | player (n : Fin 24)
  | service
  | select
  deriving DecidableEq, Repr

/-- A lamp input of the board (R160). -/
inductive LampInput where
  | bl1
  | bl2
  deriving DecidableEq, Repr

/-- A status lamp output (R182). -/
inductive StatusLamp where
  | st0
  | st1
  | st2
  deriving DecidableEq, Repr

/-- The commands: one constructor per row of spec/opcode_table.json, in the table's order. -/
inductive Instr where
  /-- NODE_RESET (R178): by its cause; written without operands, power-on. -/
  | nodeReset (dt : Nat := 0) (cause : ResetCause := .powerOn)
  /-- NODE_RESET_END (R178). -/
  | nodeResetEnd (dt : Nat) (release : ResetRelease)
  /-- TRY_FAILS (R179). -/
  | tryFails (dt : Nat) (failed : FailedTry)
  /-- PAUSED_EXPIRY (R179). -/
  | pausedExpiry
  /-- BLOCK_READ (R180): the 128 bytes the try yielded. -/
  | blockRead (dt : Nat) (bytes : List Byte)
  /-- ACQUISITION_WINDOW_END (R4): the window's samples, and the input's code when the last one is taken. -/
  | acquisitionWindowEnd (runs : List SampleRun) (level : Code)
  /-- LEADING_EDGE (R2): the code the input has held for `held` ticks. -/
  | leadingEdge (dt held : Nat) (level : Code)
  /-- TRAILING_EDGE (R11): the code the input has held for `held` ticks. -/
  | trailingEdge (dt held : Nat) (level : Code)
  /-- BROAD_DECIDED (R11). -/
  | broadDecided
  /-- TIP_SAMPLE (R6): the code the converter takes. -/
  | tipSample (code : Code)
  /-- REST_SAMPLE (R6): the code the converter takes. -/
  | restSample (code : Code)
  /-- STALL (R14). -/
  | stall
  /-- LOCK_EXPIRY (R15). -/
  | lockExpiry
  /-- BUS_EDGE (R17): the code the bus sense input has held for `held` ticks. -/
  | busEdge (dt held : Nat) (level : Code)
  /-- BUS_SILENT (R17). -/
  | busSilent
  /-- BUS_LINE_JUDGED (R110). -/
  | busLineJudged
  /-- PRESENT (R44): BPRES low for `held` ticks. -/
  | present (dt held : Nat)
  /-- ABSENT (R43): BPRES high for `held` ticks. -/
  | absent (dt held : Nat)
  /-- RESET_HOLD_EXPIRY (R45). -/
  | resetHoldExpiry
  /-- BOOT_LIMIT_EXPIRY (R47). -/
  | bootLimitExpiry
  /-- STALL_GRACE_EXPIRY (R52). -/
  | stallGraceExpiry
  /-- FILL_FIELD_START (R60). -/
  | fillFieldStart
  /-- FILL_LINE_START (R59). -/
  | fillLineStart
  /-- FILL_PULSE_END (R59). -/
  | fillPulseEnd
  /-- LINE_IDLE (R63). -/
  | lineIdle (dt : Nat)
  /-- LOST_ARBITRATION (R67): the head's data bit, 0 the first sent, at which the line read dominant. -/
  | lostArbitration (bit : Nat)
  /-- BIT_CLASH (R68): the character and the bit of it (0 start, 1 to 8 data, 9 stop), and the level read back. -/
  | bitClash (char bit : Nat) (read : Level)
  /-- FRAMING_ERROR (R71). -/
  | framingError (dt : Nat) (kind : FramingKind)
  /-- FRAME_JUDGED (R72): the frame's characters up to its payload and its check, of which the bits already read stand in State, and whether
  the line was dominant in the two bit times before the window. -/
  | frameJudged (contents : List Byte) (check : Byte) (gapDominant : Bool)
  /-- ACK_WINDOW_END (R66): the line at the middles of the window's first nine bit times; a bit of 0 is dominant. -/
  | ackWindowEnd (middles : BitVec 9)
  /-- LINE_STUCK (R79). -/
  | lineStuck (dt : Nat)
  /-- LINE_CLEAR (R81). -/
  | lineClear (dt : Nat)
  /-- HELLO_TAKEN (R86): the oldest entry of the receive queue is taken. -/
  | helloTaken
  /-- SEATED_TAKEN (R109). -/
  | seatedTaken
  /-- BID_TAKEN (R105). -/
  | bidTaken
  /-- OFFER_TAKEN (R117). -/
  | offerTaken
  /-- ANSWER_TAKEN (R120). -/
  | answerTaken
  /-- PASS_TAKEN (R128). -/
  | passTaken
  /-- JOIN_WINDOW_EXPIRY (R100). -/
  | joinWindowExpiry
  /-- BID_WINDOW_EXPIRY (R106). -/
  | bidWindowExpiry
  /-- SEAT_WAIT_EXPIRY (R107). -/
  | seatWaitExpiry
  /-- ANSWER_TIMER_EXPIRY (R121). -/
  | answerTimerExpiry
  /-- COIN_QUIET_EXPIRY (R124). -/
  | coinQuietExpiry
  /-- PASS_TIMER_EXPIRY (R132). -/
  | passTimerExpiry
  /-- CLOSURE (R136): the coin input low for `held` ticks. -/
  | closure (dt held : Nat) (ch : Channel)
  /-- DETECTED_COIN (R137): the coin input high again for `held` ticks. -/
  | detectedCoin (dt held : Nat) (ch : Channel)
  /-- COIN_JAM (R137). -/
  | coinJam (ch : Channel)
  /-- PULSE_TIMER_EXPIRY (R145). -/
  | pulseTimerExpiry (ch : Channel)
  /-- GAP_TIMER_EXPIRY (R145). -/
  | gapTimerExpiry (ch : Channel)
  /-- PRESS (R151): the input low for `held` ticks. -/
  | press (dt held : Nat) (input : PanelInput)
  /-- RELEASE (R151): the input high for `held` ticks. -/
  | release (dt held : Nat) (input : PanelInput)
  /-- LAMP_LEVEL_CHANGE (R161): the lamp input at its new level, LIT or not, for `held` ticks. -/
  | lampLevelChange (dt held : Nat) (lamp : LampInput) (lit : Bool)
  /-- SELECT_HOLD_EXPIRY (R169). -/
  | selectHoldExpiry
  /-- BROWSE_TIMER_EXPIRY (R170). -/
  | browseTimerExpiry
  /-- NOTICE_TIMER_EXPIRY (R172). -/
  | noticeTimerExpiry
  /-- STATUS_LAMP_BLINK (R182). -/
  | statusLampBlink (lamp : StatusLamp)
  /-- LINE_FALL (R63). -/
  | lineFall (dt : Nat) (fall : Fall)
  /-- JAMMED_CLOSURE_END (R137): the coin input high again for `held` ticks. -/
  | jammedClosureEnd (dt held : Nat) (ch : Channel)
  /-- PRESENCE_FIRST_DECISION (R42): BPRES at one level for `held` ticks for the first time since node reset. -/
  | presenceFirstDecision (dt held : Nat)
  deriving DecidableEq, Repr

end Sys2Proof
end

