-- ==== Sys2Proof/Decode.lean ====
section
/-!
DEFINITION. The command that a word spells by the bits of spec/opcode_table.json. No row of the table gives bits (its counts: no row
with fixed bits, no row with fields), so no word spells a command (assumption log 28).
-/

namespace Sys2Proof

/-- The command that the bits `w` of `nbits` bits spell: none, since the table gives no row any bits. -/
def decodeTableWord (_nbits _w : Nat) : Option Instr :=
  none

end Sys2Proof
end

