-- ==== Sys2Proof/Machine/State.lean ====
section
/-!
DEFINITION. The state of the NT-6208, block by block, as plain data, and its value after node reset.

A timer is the moment it runs out, or none while it is stopped (00_scope, Conventions, Time). Quantities counted by the spec are
numbers; their limits are kept by the operations and stated as invariants.
-/

namespace Sys2Proof.Machine

/-- A timer: the moment at which it expires, or none while it is stopped. -/
abbrev Timer := Option Moment

/-! ## Configuration -/

/-- Sync polarity (R1). -/
inductive Polarity where
  | negative
  | positive
  deriving DecidableEq, Repr

/-- Slicer mode (R1). -/
inductive SlicerMode where
  | adaptive
  | fixed
  deriving DecidableEq, Repr

/-- Source of an edge line (R153). -/
inductive MapSource where
  | player (n : Fin 24)
  | service
  | none
  deriving DecidableEq, Repr

/-- Mode of an edge line (R153). -/
inductive MapMode where
  | off
  | lowActive
  | highActive
  deriving DecidableEq, Repr

/-- One entry of the map table (R153). -/
structure MapEntry where
  source : MapSource
  mode : MapMode
  deriving DecidableEq, Repr

/-- The player lines of the four menu keys (R152). -/
structure MenuKeys where
  up : Fin 24
  down : Fin 24
  pick : Fin 24
  back : Fin 24
  deriving DecidableEq, Repr

/-- The overlay's configured quantities D, H0, V0 and s (R166). -/
structure OverlayConfig where
  dots : Nat
  h0 : Nat
  v0 : Nat
  scale : Nat
  deriving DecidableEq, Repr

/-- The quantities in use from LOAD END on: those of the valid block, or the defaults (R181). `map`, `keys` and `overlay` are none
without a valid block (R154, R152, R181). -/
structure Quantities where
  mode : SlicerMode
  fixedThreshold : Nat
  fixedPolarity : Polarity
  smin : Nat
  smax : Nat
  maskUnits : Nat
  l16Tolerance : Nat
  settleFields : Nat
  l16Min : Nat
  l16Max : Nat
  hlMin : Nat
  hlMax : Nat
  interlaceAllowed : Bool
  wMax : Nat
  resetHoldMs : Nat
  bootLimitS : Nat
  autoRecovery : Bool
  title : List Glyph
  map : Option (Vector MapEntry 24)
  keys : Option MenuKeys
  panelFilterMs : Nat
  coinFilterMs : Nat
  coinPulseMs : Nat
  coinGapMs : Nat
  coinActiveHigh : Bool
  overlay : Option OverlayConfig
  deriving DecidableEq, Repr

/-- The loader's states (R179). -/
inductive LoadState where
  | held
  | reading
  | paused
  | endedValid
  | endedInvalid
  deriving DecidableEq, Repr

/-- The causes that keep node reset in force: NRESET low, and the hold of the part itself at power-on (R178). -/
structure ResetCauses where
  pin : Bool
  power : Bool
  deriving DecidableEq, Repr

/-- The configuration port: released, in a try that began at `start`, or forming the stop condition after a failed try from `start` on
(R179). -/
inductive Port where
  | released
  | reading (start : Moment)
  | stopping (start : Moment)
  deriving DecidableEq, Repr

/-- The configuration loader (R179, R180), with what the start of the node leaves for the other blocks: the causes of node reset, the
moment node reset ended, from which the filters of presence and bus sense run (R17, R41), and the moment the load ended, from which the
coin unit and the control mapper sample (R136, R150, R160). -/
structure Loader where
  load : LoadState
  tries : Nat
  pause : Timer
  copy : Option (List Byte)
  port : Port
  causes : ResetCauses
  resetEnded : Option Moment
  loadEnded : Option Moment
  deriving DecidableEq, Repr

/-! ## Sync acquisition -/

/-- A logic sync: sync-active or at rest (R2). -/
inductive SyncLevel where
  | syncActive
  | rest
  deriving DecidableEq, Repr

/-- The slicer's states (R1). -/
inductive SlicerState where
  | waiting
  | acquiring
  | locked
  deriving DecidableEq, Repr

/-- Counts and sums of an acquisition window, per level (R4). -/
structure AcqTotals where
  lowCount : Nat
  lowSum : Nat
  highCount : Nat
  highSum : Nat
  deriving DecidableEq, Repr

/-- The open pair: tip sample taken, rest sample awaited 384 ticks after the trailing edge (R6). -/
structure OpenPair where
  tip : Code
  trail : Moment
  deriving DecidableEq, Repr

/-- The sync slicer (R10). -/
structure Slicer where
  mode : SlicerState
  rest : Nat
  tip : Nat
  threshold : Nat
  polarity : Polarity
  acq : AcqTotals
  windowEnd : Timer
  pair : Option OpenPair
  lowSwing : Bool
  highSwing : Bool
  logicSync : SyncLevel
  deriving DecidableEq, Repr

/-- The classifier's states (R11). -/
inductive ClassifierState where
  | active
  | quiet
  deriving DecidableEq, Repr

/-- The pulse in progress: its leading edge, whether already BROAD, whether the resume pulse, and its tip sample (R16, R15, R6). -/
structure Pulse where
  lead : Moment
  broad : Bool
  resume : Bool
  tip : Option Code
  deriving DecidableEq, Repr

/-- The pulse classifier (R16). `ageFrom` is the moment the field age counts from, none while it is stopped. -/
structure Classifier where
  state : ClassifierState
  pulse : Option Pulse
  lineCount : Nat
  oddCount : Nat
  ageFrom : Option Moment
  stallTimer : Timer
  lockExpiry : Timer
  deriving DecidableEq, Repr

/-- The bus silence states (R17). -/
inductive Silence where
  | live
  | silent
  deriving DecidableEq, Repr

/-- Bus sense (R17, R18). `output` is the filtered output of the bus-sense slicer, high or not. -/
structure BusSense where
  output : Bool
  silence : Silence
  silenceTimer : Timer
  pulse : Option Moment
  deriving DecidableEq, Repr

/-! ## Timing signatures -/

/-- A signature (R33). -/
structure Signature where
  l16 : Nat
  hl : Nat
  w : Nat
  polarity : Polarity
  deriving DecidableEq, Repr

/-- The window verdict IN or OUT (R34). -/
inductive Verdict where
  | inWindow
  | outOfWindow
  deriving DecidableEq, Repr

/-- A signature with its verdict (R33). -/
structure JudgedSignature where
  sig : Signature
  verdict : Verdict
  deriving DecidableEq, Repr

/-- A field record (R25). The odd count of a complete record is 0. -/
inductive FieldRecord where
  | incomplete
  | complete (sig : Signature) (f : Nat)
  deriving DecidableEq, Repr

/-- The phases of the measurement cycle (R19): PARTIAL, MASKING, COLLECTING, FULL. -/
inductive CyclePhase where
  | partialCycle
  | masking
  | collecting
  | full
  deriving DecidableEq, Repr

/-- The timing measurement unit (R39). -/
structure Tmu where
  phase : CyclePhase
  fieldStart : Option Stamp
  hits : List Stamp
  width : Option Nat
  mark : Bool
  ring : List FieldRecord
  stable : Nat
  drift : Nat
  current : Option JudgedSignature
  reference : Option Signature
  deriving DecidableEq, Repr

/-! ## Board supervision and fill sync -/

/-- The board states (R40), in the order of their codes 0 to 6 (R183). -/
inductive BoardState where
  | vacant
  | resetting
  | settling
  | ready
  | offWindow
  | stalled
  | failed
  deriving DecidableEq, Repr

/-- The board supervisor (R55). -/
structure Supervisor where
  board : BoardState
  brst : Bool
  present : Bool
  decided : Bool
  loadPeriod : Bool
  attempts : Nat
  resetHold : Timer
  bootLimit : Timer
  stallGrace : Timer
  offWindow : Bool
  boardFailed : Bool
  deriving DecidableEq, Repr

/-- An analog switch (R97). -/
inductive SwitchState where
  | isOpen
  | isClosed
  deriving DecidableEq, Repr

/-- The sync source (03, section 3.2). -/
inductive SyncSource where
  | board
  | fill
  deriving DecidableEq, Repr

/-- The output switch with its contention check (R61, R97, R110). -/
structure OutputSwitch where
  video : SwitchState
  audio : SwitchState
  source : SyncSource
  fillBlack : Bool
  passBlack : Bool
  armed : Option Stamp
  ownEdges : List Moment
  awaiting : List Moment
  mismatches : Nat
  counted : Option Moment
  deriving DecidableEq, Repr

/-- The fill sync generator (R61). `longer` is the field parity; `figures` are those of the field in progress. -/
structure FillGenerator where
  active : Bool
  start : Option Moment
  line : Nat
  longer : Bool
  figures : Option Signature
  sync : SyncLevel
  deriving DecidableEq, Repr

/-! ## The cabinet line -/

/-- The frame kinds (R65). -/
inductive FrameKind where
  | pass
  | answer
  | offer
  | seated
  | bid
  | hello
  deriving DecidableEq, Repr

/-- The target of a frame: one rank or ALL (R64). -/
inductive Target where
  | rank (r : Rank)
  | all
  deriving DecidableEq, Repr

/-- The reason an ANSWER carries (R65). -/
inductive AnswerReason where
  | none
  | notReady
  | busy
  | lineFault
  deriving DecidableEq, Repr

/-- The kind of a frame with its payload fields (R65). `yes` is the verdict of an ANSWER. -/
inductive Body where
  | pass (n : HandoverNumber) (c1 c2 : Nat)
  | answer (n : HandoverNumber) (yes : Bool) (reason : AnswerReason) (board : BoardState)
  | offer (n : HandoverNumber)
  | seated
  | bid (board : BoardState)
  | hello (holding reply : Bool) (board : BoardState) (l16 hl : Nat) (title : List Glyph)
  deriving DecidableEq, Repr

/-- A frame as the screen protocol engine gives it: target, kind and payload (R76). -/
structure Frame where
  target : Target
  body : Body
  deriving DecidableEq, Repr

/-- An entry of the receive queue (R75); its kind and count are those of `frame`. -/
structure RxEntry where
  sender : Rank
  frame : Frame
  held : Bool
  deriving DecidableEq, Repr

/-- The line controller's modes (R70). -/
inductive LineMode where
  | off
  | running
  | mute
  deriving DecidableEq, Repr

/-- What the line controller is doing with the wire (R63, R71, R82).
`blind`: it follows nothing and counts no gap (mode OFF, or stuck flag set).
`gap`: it counts the idle gap from a moment; a fall before the gap has ended is followed as a receiver.
`spoilt`: it has discarded a frame and follows nothing until the line is idle.
`idle`: the gap is met.
`following`: it reads a frame whose check has not come; by its count of the character in progress the frame's first start bit stands
at `start` (R62), `read` are the data bits of the characters read so far (R67, R71), and `begun` how many characters' start bits it has
seen fall: with all of them read it waits for the next fall (R62). While the node sends, it reads its own.
`window`: the frame has been judged and its acknowledge window runs from `start`; `taken` if this node took it. -/
inductive LinePhase where
  | blind
  | gap (since : Moment)
  | spoilt (since : Moment)
  | idle
  | following (start : Moment) (read : List Bool) (begun : Nat)
  | window (start : Moment) (taken : Bool)
  deriving DecidableEq, Repr

/-- The line controller (R82). `sending` is the moment of the first start bit of the frame in transmission while it is being sent;
`acking` the start of the window in which this node sends ACK; `stretch` the moment from which the present dominant or recessive
stretch is counted. -/
structure LineController where
  mode : LineMode
  phase : LinePhase
  sending : Option Moment
  acking : Option Moment
  txq : List Frame
  attempts : Nat
  rxq : List RxEntry
  clash : Nat
  checkError : Nat
  shortFrame : Nat
  overrun : Nat
  stuck : Bool
  stretch : Option Moment
  lineStuck : Bool
  rankClash : Bool
  deriving DecidableEq, Repr

/-! ## The screen protocol engine and the roster -/

/-- The roles (00_scope, Terms; R96). -/
inductive Role where
  | startup
  | withdrawn
  | standby
  | bidding
  | holding
  | offering
  | passing
  | accepted
  deriving DecidableEq, Repr

/-- Why a node is WITHDRAWN (R101). -/
inductive WithdrawalReason where
  | noConfig
  | rankClash
  deriving DecidableEq, Repr

/-- A pending request (R98): kind and target, and for a HELLO whether the request that set it was a requesting HELLO (R93). -/
structure PendingRequest where
  kind : FrameKind
  target : Target
  reply : Bool
  deriving DecidableEq, Repr

/-- An answer record (R115). -/
structure AnswerRecord where
  number : HandoverNumber
  yes : Bool
  reason : AnswerReason
  deriving DecidableEq, Repr

/-- A sender rank with a handover number (R115: accepted offer, last pass taken). -/
structure OfferKey where
  sender : Rank
  number : HandoverNumber
  deriving DecidableEq, Repr

/-- The screen protocol engine (R114, R115). `firstHello`: the first HELLO has been enqueued (R91). `recoveryHello`: the HELLO that
the last LINE CLEAR enqueued has not been reported (R133). -/
structure Spe where
  role : Role
  view : Option Rank
  withdrawal : Option WithdrawalReason
  bidSet : List Rank
  joinWindow : Timer
  bidWindow : Timer
  seatWait : Timer
  requests : List PendingRequest
  firstHello : Bool
  number : HandoverNumber
  target : Option Rank
  answerTimer : Timer
  coinQuiet : Timer
  quietCap : Option Moment
  passIssued : Bool
  frozen : Option (Nat × Nat)
  accepted : Option OfferKey
  passTimer : Timer
  lastPass : Option OfferKey
  answers : Vector (Option AnswerRecord) 8
  recovering : Bool
  recoveryHello : Bool
  deriving DecidableEq, Repr

/-- Presence of a roster entry (R83). -/
inductive Presence where
  | unknown
  | present
  | silent
  deriving DecidableEq, Repr

/-- A roster entry (R83). -/
structure RosterEntry where
  presence : Presence
  board : Option BoardState
  title : Option (List Glyph)
  holding : Bool
  deriving DecidableEq, Repr

/-! ## Coins -/

/-- The coin duty (R138). -/
inductive CoinDuty where
  | own
  | carrying
  | late
  | none
  deriving DecidableEq, Repr

/-- A channel's delivery state (R145). -/
inductive Delivery where
  | idle
  | pulse
  | gap
  deriving DecidableEq, Repr

/-- A closure in progress (R136, R137). -/
structure Closure where
  start : Moment
  jammed : Bool
  deriving DecidableEq, Repr

/-- One coin channel (R149). `timer` is the pulse timer in PULSE and the gap timer in GAP. -/
structure CoinChannel where
  closed : Bool
  closure : Option Closure
  pending : Nat
  carried : Nat
  late : Nat
  delivery : Delivery
  timer : Timer
  jam : Bool
  deriving DecidableEq, Repr

/-- The coin unit (R149). `cblk`: CBLK is asserted. -/
structure CoinUnit where
  dormant : Bool
  duty : CoinDuty
  one : CoinChannel
  two : CoinChannel
  overflow : Bool
  lateCoins : Bool
  cblk : Bool
  deriving DecidableEq, Repr

/-! ## Panel -/

/-- The control mapper (R162). Panel inputs are numbered PL0 to PL23, then SERVICE, then SELECT. `active`: the edge line is driven at
its mode's active level. -/
structure Mapper where
  dormant : Bool
  pressed : Vector Bool 26
  latch : Vector Bool 26
  following : Bool
  seen : Vector Bool 24
  active : Vector Bool 24
  lit1 : Bool
  lit2 : Bool
  lp1 : Bool
  lp2 : Bool
  deriving DecidableEq, Repr

/-! ## Overlay, menu and status lamps -/

/-- One cell of the cell memory (R163). -/
structure Cell where
  glyph : Glyph
  colour : Fin 8
  background : Bool
  deriving DecidableEq, Repr

/-- The line count, with the start of the line in progress and floor(HL / 2) of the reference at the field start (R165, R166). -/
structure LineCount where
  n : Nat
  start : Moment
  fieldLines : Nat
  deriving DecidableEq, Repr

/-- What the line in progress draws: the reference's L16 and the row of cells, both as read at the line start, and the glyph line y
(R164, R166). -/
structure DrawnRow where
  l16 : Nat
  glyphLine : Fin 10
  cells : Vector Cell 24
  deriving DecidableEq, Repr

/-- The overlay generator (R177). -/
structure Overlay where
  cells : Vector Cell 240
  count : Option LineCount
  draw : Bool
  row : Option DrawnRow
  deriving DecidableEq, Repr

/-- The menu states (R167). -/
inductive MenuState where
  | closed
  | browse
  | wait
  | notice
  | service
  deriving DecidableEq, Repr

/-- The notice texts (R172). -/
inductive Notice where
  | switching
  | notReady
  | busy
  | lineFault
  | noAnswer
  | switchFailed
  | boardFailed
  deriving DecidableEq, Repr

/-- The menu controller (R177). -/
structure Menu where
  state : MenuState
  cursor : Rank
  notice : Option Notice
  noticeTimer : Timer
  browseTimer : Timer
  selectTimer : Timer
  deriving DecidableEq, Repr

/-- The patterns of a status lamp (R182). -/
inductive LampPattern where
  | dark
  | steady
  | slow
  | fast
  deriving DecidableEq, Repr

/-- A status lamp: its pattern, whether it is lit, and the end of its blink phase (R182). -/
structure Lamp where
  pattern : LampPattern
  lit : Bool
  phaseEnd : Timer
  deriving DecidableEq, Repr

/-- The three status lamps (R182). -/
structure StatusLamps where
  st0 : Lamp
  st1 : Lamp
  st2 : Lamp
  deriving DecidableEq, Repr

/-- The state of the node. `now` and `pending` are the model's own (assumption log 2 and 32); the timestamp counter of R2 is `now`
modulo 2³². -/
structure State where
  now : Moment
  rank : Rank
  cfg : Option Quantities
  cfl : Loader
  ssl : Slicer
  pcl : Classifier
  bus : BusSense
  tmu : Tmu
  bsv : Supervisor
  osw : OutputSwitch
  fsg : FillGenerator
  lct : LineController
  spe : Spe
  roster : Vector RosterEntry 8
  cnu : CoinUnit
  cmp : Mapper
  ovg : Overlay
  mnu : Menu
  lamps : StatusLamps
  pending : List Instr
  deriving DecidableEq, Repr

/-- Nothing in the spec stops the part: it states no event after which the node does not go on. No meaning faults (safe). -/
inductive Fault where
  deriving DecidableEq, Repr

/-- Why a command has no meaning. -/
inductive Refusal where
  /-- Raised by `exec` alone, for a command that has no meaning yet; safe, since nothing is claimed of it. -/
  | notModelled (mnemonic : String)
  deriving DecidableEq, Repr

/-! ## After node reset -/

/-- A coin channel after node reset (R149). -/
def CoinChannel.reset : CoinChannel :=
  { closed := false, closure := none, pending := 0, carried := 0, late := 0, delivery := .idle, timer := none, jam := false }

/-- A peer entry after node reset (R95). -/
def RosterEntry.reset : RosterEntry :=
  { presence := .unknown, board := none, title := none, holding := false }

/-- A cell after node reset (R163). -/
def Cell.reset : Cell :=
  { glyph := 0, colour := 7, background := false }

/-- A status lamp during node reset (R182). -/
def Lamp.reset : Lamp :=
  { pattern := .dark, lit := false, phaseEnd := none }

/-- The node while node reset is in force: every block at the reset value its chapter gives (R178; R10, R16, R17, R39, R55, R61, R82,
R95, R114, R115, R149, R162, R177, R179), in the node reset of power-on (assumption log 4). The rank, the try count and the output of
the bus-sense slicer are the model's choice (assumption log 5, 6 and 37). -/
def State.reset : State where
  now := 0
  rank := 0
  cfg := none
  cfl :=
    { load := .held, tries := 0, pause := none, copy := none, port := .released, causes := { pin := false, power := true },
      resetEnded := none, loadEnded := none }
  ssl :=
    { mode := .waiting, rest := 128, tip := 128, threshold := 128, polarity := .negative,
      acq := { lowCount := 0, lowSum := 0, highCount := 0, highSum := 0 }, windowEnd := none, pair := none,
      lowSwing := false, highSwing := false, logicSync := .rest }
  pcl :=
    { state := .quiet, pulse := none, lineCount := 0, oddCount := 0, ageFrom := none, stallTimer := none, lockExpiry := none }
  bus := { output := false, silence := .silent, silenceTimer := none, pulse := none }
  tmu :=
    { phase := .partialCycle, fieldStart := none, hits := [], width := none, mark := false, ring := [], stable := 0, drift := 0,
      current := none, reference := none }
  bsv :=
    { board := .resetting, brst := true, present := false, decided := false, loadPeriod := true, attempts := 0,
      resetHold := none, bootLimit := none, stallGrace := none, offWindow := false, boardFailed := false }
  osw :=
    { video := .isOpen, audio := .isOpen, source := .board, fillBlack := false, passBlack := false, armed := none,
      ownEdges := [], awaiting := [], mismatches := 0, counted := none }
  fsg := { active := false, start := none, line := 0, longer := false, figures := none, sync := .rest }
  lct :=
    { mode := .off, phase := .blind, sending := none, acking := none, txq := [], attempts := 0, rxq := [],
      clash := 0, checkError := 0, shortFrame := 0, overrun := 0, stuck := false, stretch := none,
      lineStuck := false, rankClash := false }
  spe :=
    { role := .startup, view := none, withdrawal := none, bidSet := [], joinWindow := none, bidWindow := none, seatWait := none,
      requests := [], firstHello := false, number := 0, target := none, answerTimer := none, coinQuiet := none, quietCap := none,
      passIssued := false, frozen := none, accepted := none, passTimer := none, lastPass := none,
      answers := Vector.replicate 8 none, recovering := false, recoveryHello := false }
  roster := Vector.replicate 8 RosterEntry.reset
  cnu :=
    { dormant := true, duty := .none, one := CoinChannel.reset, two := CoinChannel.reset, overflow := false, lateCoins := false,
      cblk := true }
  cmp :=
    { dormant := true, pressed := Vector.replicate 26 false, latch := Vector.replicate 26 false, following := false,
      seen := Vector.replicate 24 false, active := Vector.replicate 24 false, lit1 := false, lit2 := false,
      lp1 := false, lp2 := false }
  ovg := { cells := Vector.replicate 240 Cell.reset, count := none, draw := false, row := none }
  mnu := { state := .closed, cursor := 0, notice := none, noticeTimer := none, browseTimer := none, selectTimer := none }
  lamps := { st0 := Lamp.reset, st1 := Lamp.reset, st2 := Lamp.reset }
  pending := []

end Sys2Proof.Machine
end

