-- ==== Sys2Proof/Machine/Ops.lean ====
section
/-!
DEFINITION. Shared operations: the clock and the timers, timestamps, saturating counts, the configured quantities in use, and reading
and writing the parts of State that are found by a key.
-/

namespace Sys2Proof.Machine

/-! ## Outcomes -/

/-- The outcome type of every meaning. -/
abbrev Result := Host.Outcome State Fault Refusal

/-! ## The clock (00_scope, Conventions, Time; R2) -/

/-- Ticks in one millisecond: the tick is 1/48 µs. -/
def ticksPerMs : Nat := 48000

/-- A duration in milliseconds, in ticks. -/
def ms (n : Nat) : Nat := n * ticksPerMs

/-- A bit time of the cabinet line, in ticks (R62). -/
def bitTime : Nat := 480

/-- `n` ticks pass; the timestamp counter counts them, while node reset is in force as well (R2; assumption log 43). -/
def State.elapse (s : State) (n : Nat) : State :=
  { s with now := s.now + n }

/-- Time passes up to the moment `m`, if it has not been reached. -/
def State.advanceTo (s : State) (m : Moment) : State :=
  { s with now := max s.now m }

/-- The timer that runs out `d` ticks from now. -/
def State.after (s : State) (d : Nat) : Timer :=
  some (s.now + d)

/-- The timestamp of a moment: the 32-bit counter, wrapping (R2). -/
def stampOf (m : Moment) : Stamp :=
  BitVec.ofNat 32 m

/-- Every difference of two timestamps is taken modulo 2³² (R2). -/
def stampDiff (later earlier : Stamp) : Nat :=
  (later - earlier).toNat

/-- The difference of the timestamps of two moments (R2). -/
def ticksBetween (later earlier : Moment) : Nat :=
  stampDiff (stampOf later) (stampOf earlier)

/-- The timestamp counter: 0 at the first instant of node reset (R2, R16). That it counts while node reset is still in force, and so is
not 0 at its end, is the model's choice (assumption log 43). -/
def State.timestamp (s : State) : Stamp :=
  stampOf s.now

/-- What an expiry does: if the timer runs, the time left on it passes and `act` follows; a stopped timer does not expire
(assumption log 2 and 3). -/
def State.onExpiry (s : State) (t : Timer) (act : State → State) : State :=
  match t with
  | some due => act (s.advanceTo due)
  | none => s

/-! ## Counts -/

/-- A count that saturates holds its limit when incremented there (00_scope, Conventions, Arithmetic). -/
def satInc (limit n : Nat) : Nat :=
  if n < limit then n + 1 else limit

/-- Half of a swing and the like, truncated (R3). -/
def half (n : Nat) : Nat := n / 2

/-! ## Configured quantities -/

/-- The defaults: what each block uses when the load ends without a valid block (R181; R1, R19, R40, R135, R150). -/
def defaultQuantities : Quantities where
  mode := .adaptive
  fixedThreshold := 128
  fixedPolarity := .negative
  smin := 4
  smax := 250
  maskUnits := 108
  l16Tolerance := 32
  settleFields := 8
  l16Min := 46080
  l16Max := 52224
  hlMin := 480
  hlMax := 640
  interlaceAllowed := true
  wMax := 384
  resetHoldMs := 250
  bootLimitS := 15
  autoRecovery := true
  title := []
  map := none
  keys := none
  panelFilterMs := 4
  coinFilterMs := 10
  coinPulseMs := 50
  coinGapMs := 50
  coinActiveHigh := false
  overlay := none

/-- The quantities in use. Before the load ends none are chosen and no block reads one: the slicer is WAITING, the coin unit and the
mapper are dormant, no timer runs. -/
def State.quantities (s : State) : Quantities :=
  s.cfg.getD defaultQuantities

/-! ## Parts found by a key -/

/-- The channel `ch` of the coin unit. -/
def CoinUnit.chan (u : CoinUnit) : Channel → CoinChannel
  | .one => u.one
  | .two => u.two

/-- The coin unit with channel `ch` replaced. -/
def CoinUnit.setChan (u : CoinUnit) (ch : Channel) (c : CoinChannel) : CoinUnit :=
  match ch with
  | .one => { u with one := c }
  | .two => { u with two := c }

/-- The place of a panel input among the 26 (R150). -/
def panelIndex : PanelInput → Fin 26
  | .player n => ⟨n.val, by omega⟩
  | .service => 24
  | .select => 25

/-- The place of the input an edge line follows (R153). -/
def sourceIndex : MapSource → Option (Fin 26)
  | .player n => some (panelIndex (.player n))
  | .service => some (panelIndex .service)
  | .none => none

/-- The status lamp `l`. -/
def StatusLamps.lamp (u : StatusLamps) : StatusLamp → Lamp
  | .st0 => u.st0
  | .st1 => u.st1
  | .st2 => u.st2

/-- The status lamps with lamp `l` replaced. -/
def StatusLamps.setLamp (u : StatusLamps) (l : StatusLamp) (x : Lamp) : StatusLamps :=
  match l with
  | .st0 => { u with st0 := x }
  | .st1 => { u with st1 := x }
  | .st2 => { u with st2 := x }

end Sys2Proof.Machine
end

