-- ==== Sys2Proof/Machine/Block.lean ====
section
/-!
DEFINITION. The configuration block: its layout (R184), its validity (R180), and the quantities a valid block gives.
-/

namespace Sys2Proof.Machine

/-- Byte `i` of the block. -/
def blockByte (b : List Byte) (i : Nat) : Nat :=
  (b.getD i 0).toNat

/-- The quantity of two bytes at `i`, the higher byte first (R184). -/
def blockWord (b : List Byte) (i : Nat) : Nat :=
  256 * blockByte b i + blockByte b (i + 1)

/-- Every byte from `i` on, `n` of them, satisfies `p`. -/
def allBytes (b : List Byte) (i n : Nat) (p : Nat → Bool) : Bool :=
  (List.range n).all (fun k => p (blockByte b (i + k)))

/-- `lo ≤ x ≤ hi`. -/
def inRange (lo hi x : Nat) : Bool :=
  decide (lo ≤ x) && decide (x ≤ hi)

/-- The sum of the block's bytes modulo 256 (R180). -/
def blockSum (b : List Byte) : Nat :=
  (b.map BitVec.toNat).sum % 256

/-- The marker, the layout version and the sum (R180). -/
def blockMarked (b : List Byte) : Bool :=
  blockByte b 0 == 78 && blockByte b 1 == 84 && blockByte b 2 == 1 && blockSum b == 0

/-- The fields of the slicer, the measurement unit and the board supervisor are in range (R184, bytes 3 to 24). -/
def blockTimingInRange (b : List Byte) : Bool :=
  inRange 0 1 (blockByte b 3) && inRange 0 1 (blockByte b 5) &&
  inRange 4 250 (blockByte b 6) && inRange 4 250 (blockByte b 7) &&
  inRange 2 15 (blockByte b 10) &&
  inRange 0 65520 (blockWord b 11) && inRange 0 65520 (blockWord b 13) &&
  inRange 0 1022 (blockWord b 15) && inRange 0 1022 (blockWord b 17) &&
  inRange 0 1 (blockByte b 19) && inRange 134 384 (blockWord b 20) &&
  inRange 1 100 (blockByte b 22) && inRange 1 60 (blockByte b 23) && inRange 0 1 (blockByte b 24)

/-- The title is in range: glyph codes within its length and 0 beyond it (R180, R184, bytes 25 to 45). -/
def blockTitleInRange (b : List Byte) : Bool :=
  inRange 0 20 (blockByte b 25) &&
  (List.range 20).all (fun k =>
    if k < blockByte b 25 then inRange 0 63 (blockByte b (26 + k)) else blockByte b (26 + k) == 0)

/-- The map, the menu keys, the filters, the coin unit and the overlay are in range (R184, bytes 46 to 107). -/
def blockPanelInRange (b : List Byte) : Bool :=
  allBytes b 46 24 (inRange 0 25) && allBytes b 70 24 (inRange 0 2) && allBytes b 94 4 (inRange 0 23) &&
  inRange 1 15 (blockByte b 98) && inRange 5 50 (blockByte b 99) && inRange 20 200 (blockByte b 100) &&
  inRange 20 200 (blockByte b 101) && inRange 0 1 (blockByte b 102) && inRange 256 640 (blockWord b 103) &&
  inRange 1 2 (blockByte b 107)

/-- The pairs of limits are ordered and the four menu keys differ (R180). -/
def blockConsistent (b : List Byte) : Bool :=
  decide (blockByte b 6 ≤ blockByte b 7) && decide (blockWord b 11 ≤ blockWord b 13) &&
  decide (blockWord b 15 ≤ blockWord b 17) &&
  decide ([blockByte b 94, blockByte b 95, blockByte b 96, blockByte b 97].Nodup)

/-- Every unused byte holds 0 (R180, R184, bytes 108 to 126). -/
def blockUnusedClear (b : List Byte) : Bool :=
  allBytes b 108 19 (· == 0)

/-- Whether a block read whole is valid (R180). -/
def blockValid (b : List Byte) : Bool :=
  decide (b.length = 128) && blockMarked b && blockTimingInRange b && blockTitleInRange b && blockPanelInRange b &&
    blockConsistent b && blockUnusedClear b

/-- The source code of an edge line (R184). -/
def sourceOfCode (n : Nat) : MapSource :=
  if h : n < 24 then .player ⟨n, h⟩ else if n = 24 then .service else .none

/-- The mode code of an edge line (R184). -/
def modeOfCode (n : Nat) : MapMode :=
  if n = 1 then .lowActive else if n = 2 then .highActive else .off

/-- The map table of the block: sources from byte 46, modes from byte 70 (R184). -/
def blockMap (b : List Byte) : Vector MapEntry 24 :=
  Vector.ofFn (fun k => { source := sourceOfCode (blockByte b (46 + k.val)), mode := modeOfCode (blockByte b (70 + k.val)) })

/-- The title of the block, as long as its length says (R184). -/
def blockTitle (b : List Byte) : List Glyph :=
  (List.range (blockByte b 25)).map (fun k => Fin.ofNat 64 (blockByte b (26 + k)))

/-- The quantities a valid block gives (R184). -/
def blockQuantities (b : List Byte) : Quantities where
  mode := if blockByte b 3 = 0 then .adaptive else .fixed
  fixedThreshold := blockByte b 4
  fixedPolarity := if blockByte b 5 = 0 then .negative else .positive
  smin := blockByte b 6
  smax := blockByte b 7
  maskUnits := blockByte b 8
  l16Tolerance := blockByte b 9
  settleFields := blockByte b 10
  l16Min := blockWord b 11
  l16Max := blockWord b 13
  hlMin := blockWord b 15
  hlMax := blockWord b 17
  interlaceAllowed := blockByte b 19 == 1
  wMax := blockWord b 20
  resetHoldMs := 10 * blockByte b 22
  bootLimitS := blockByte b 23
  autoRecovery := blockByte b 24 == 1
  title := blockTitle b
  map := some (blockMap b)
  keys := some
    { up := Fin.ofNat 24 (blockByte b 94), down := Fin.ofNat 24 (blockByte b 95),
      pick := Fin.ofNat 24 (blockByte b 96), back := Fin.ofNat 24 (blockByte b 97) }
  panelFilterMs := blockByte b 98
  coinFilterMs := blockByte b 99
  coinPulseMs := blockByte b 100
  coinGapMs := blockByte b 101
  coinActiveHigh := blockByte b 102 == 1
  overlay := some
    { dots := blockWord b 103, h0 := blockByte b 105, v0 := blockByte b 106, scale := blockByte b 107 }

end Sys2Proof.Machine
end

