-- ==== Sys2Proof/Machine/Frames.lean ====
section
/-!
DEFINITION. Frames of the cabinet line: kinds, codes and payload layouts (R64, R65, R183), the check (R64), writing a frame as
characters and reading characters as a frame.
-/

namespace Sys2Proof.Machine

/-- The kind of a body. -/
def Body.kind : Body → FrameKind
  | .pass _ _ _ => .pass
  | .answer _ _ _ _ => .answer
  | .offer _ => .offer
  | .seated => .seated
  | .bid _ => .bid
  | .hello _ _ _ _ _ _ => .hello

/-- The kind of a frame. -/
def Frame.kind (f : Frame) : FrameKind := f.body.kind

/-- The kind codes (R65). -/
def kindCode : FrameKind → Nat
  | .pass => 1
  | .answer => 2
  | .offer => 3
  | .seated => 4
  | .bid => 5
  | .hello => 6

/-- A frame of a kind whose target is one rank is addressed (R65). -/
def Frame.addressed (f : Frame) : Bool :=
  match f.target with
  | .rank _ => true
  | .all => false

/-- Whether a target suits a kind (R65). -/
def targetSuits : FrameKind → Target → Bool
  | .pass, .rank _ => true
  | .answer, .rank _ => true
  | .offer, .rank _ => true
  | .seated, .all => true
  | .bid, .all => true
  | .hello, .all => true
  | _, _ => false

/-- The board state codes (R183). -/
def boardCode : BoardState → Nat
  | .vacant => 0
  | .resetting => 1
  | .settling => 2
  | .ready => 3
  | .offWindow => 4
  | .stalled => 5
  | .failed => 6

/-- The board state of a code, none outside 0 to 6 (R183). -/
def boardOfCode : Nat → Option BoardState
  | 0 => some .vacant
  | 1 => some .resetting
  | 2 => some .settling
  | 3 => some .ready
  | 4 => some .offWindow
  | 5 => some .stalled
  | 6 => some .failed
  | _ => none

/-- The reason codes of an ANSWER (R183). -/
def reasonCode : AnswerReason → Nat
  | .none => 0
  | .notReady => 1
  | .busy => 2
  | .lineFault => 3

/-- The reason of a code, none outside 0 to 3 (R183). -/
def reasonOfCode : Nat → Option AnswerReason
  | 0 => some .none
  | 1 => some .notReady
  | 2 => some .busy
  | 3 => some .lineFault
  | _ => Option.none

/-- A number as one character. -/
def char8 (n : Nat) : Byte := BitVec.ofNat 8 n

/-- A number as two characters, the higher first (R183). -/
def char16 (n : Nat) : List Byte := [char8 (n / 256), char8 n]

/-- Two characters as a number, the higher first (R183). -/
def num16 (hi lo : Byte) : Nat := 256 * hi.toNat + lo.toNat

/-- The payload characters of a body, in the order its kind defines (R65, R183). -/
def bodyChars : Body → List Byte
  | .pass n c1 c2 => [n, char8 c1, char8 c2]
  | .answer n yes reason board => [n, char8 yes.toNat, char8 (reasonCode reason), char8 (boardCode board)]
  | .offer n => [n]
  | .seated => []
  | .bid board => [char8 (boardCode board)]
  | .hello holding reply board l16 hl title =>
    char8 (holding.toNat + 2 * reply.toNat) :: char8 (boardCode board) ::
      (char16 l16 ++ char16 hl ++ char8 title.length :: title.map (fun g => char8 g.val))

/-- The count of a frame (R64, R75). -/
def Frame.count (f : Frame) : Nat := (bodyChars f.body).length

/-- The target character: a rank, or 15 for ALL (R183). -/
def targetChar : Target → Byte
  | .rank r => char8 r.val
  | .all => 15#8

/-- The head character: kind code times 16, plus the rank (R64). -/
def headChar (sender : Rank) (k : FrameKind) : Byte :=
  char8 (16 * kindCode k + sender.val)

/-- One step of the check register: x⁸ + x² + x + 1, the most significant bit of the character first (R64). -/
def crcBit (reg : Byte) (bit : Bool) : Byte :=
  if reg.msb != bit then (reg <<< 1) ^^^ 7#8 else reg <<< 1

/-- The bits of a character, the most significant first (R62). -/
def charBits (c : Byte) : List Bool :=
  [c.getLsbD 7, c.getLsbD 6, c.getLsbD 5, c.getLsbD 4, c.getLsbD 3, c.getLsbD 2, c.getLsbD 1, c.getLsbD 0]

/-- The check of a sequence of characters: a register of eight bits that starts at 0 and takes the bits in order (R64). -/
def crc8 (chars : List Byte) : Byte :=
  (chars.flatMap charBits).foldl crcBit 0#8

/-- Head, target, count and payload of a frame. -/
def frameContents (sender : Rank) (f : Frame) : List Byte :=
  headChar sender f.kind :: targetChar f.target :: char8 f.count :: bodyChars f.body

/-- The characters of a frame, head to check (R64). -/
def frameChars (sender : Rank) (f : Frame) : List Byte :=
  frameContents sender f ++ [crc8 (frameContents sender f)]

/-- The target of a character: 0 to 7 or 15 (R183). -/
def readTarget (c : Byte) : Option Target :=
  if h : c.toNat < 8 then some (.rank ⟨c.toNat, h⟩)
  else if c.toNat = 15 then some .all
  else none

/-- The kind of a code 1 to 6 (R65). -/
def readKind : Nat → Option FrameKind
  | 1 => some .pass
  | 2 => some .answer
  | 3 => some .offer
  | 4 => some .seated
  | 5 => some .bid
  | 6 => some .hello
  | _ => none

/-- The head: kind code in bits 7 to 4, bit 3 zero, rank in bits 2 to 0 (R183). -/
def readHead (c : Byte) : Option (FrameKind × Rank) :=
  if h : c.toNat % 16 < 8 then
    (readKind (c.toNat / 16)).map (fun k => (k, ⟨c.toNat % 16, h⟩))
  else none

/-- A title: 0 to 20 glyph codes 0 to 63, as many as its length says (R183). -/
def readTitle (length : Byte) (chars : List Byte) : Option (List Glyph) :=
  if length.toNat ≤ 20 ∧ chars.length = length.toNat ∧ chars.all (fun c => decide (c.toNat < 64)) then
    some (chars.map (fun c => Fin.ofNat 64 c.toNat))
  else none

/-- The payload of a kind, each field in the set the table gives it (R65, R183). -/
def readBody (k : FrameKind) (payload : List Byte) : Option Body :=
  match k, payload with
  | .pass, [n, c1, c2] =>
    if c1.toNat ≤ 31 ∧ c2.toNat ≤ 31 then some (.pass n c1.toNat c2.toNat) else none
  | .answer, [n, v, r, b] =>
    if v.toNat ≤ 1 then
      match reasonOfCode r.toNat, boardOfCode b.toNat with
      | some reason, some board => some (.answer n (v.toNat == 1) reason board)
      | _, _ => none
    else none
  | .offer, [n] => some (.offer n)
  | .seated, [] => some .seated
  | .bid, [b] => (boardOfCode b.toNat).map .bid
  | .hello, flags :: b :: l1 :: l0 :: h1 :: h0 :: len :: chars =>
    if flags.toNat ≤ 3 ∧ num16 l1 l0 ≤ 65520 ∧ num16 h1 h0 ≤ 1023 then
      match boardOfCode b.toNat, readTitle len chars with
      | some board, some title =>
        some (.hello (flags.getLsbD 0) (flags.getLsbD 1) board (num16 l1 l0) (num16 h1 h0) title)
      | _, _ => none
    else none
  | _, _ => none

/-- The characters head, target, count and payload as a well-formed frame and its sender's rank, or none (R65). -/
def readFrame (chars : List Byte) : Option (Rank × Frame) :=
  match chars with
  | head :: target :: count :: payload =>
    match readHead head, readTarget target with
    | some (k, sender), some t =>
      if targetSuits k t ∧ payload.length = count.toNat then
        (readBody k payload).map (fun b => (sender, { target := t, body := b }))
      else none
    | _, _ => none
  | _ => none

/-- A frame whose fields hold values of the sets R65 gives: what a node sends. -/
def Frame.admissible (f : Frame) : Bool :=
  targetSuits f.kind f.target &&
  match f.body with
  | .pass _ c1 c2 => decide (c1 ≤ 31) && decide (c2 ≤ 31)
  | .hello _ _ _ l16 hl title => decide (l16 ≤ 65520) && decide (hl ≤ 1023) && decide (title.length ≤ 20)
  | .answer _ _ _ _ => true
  | .offer _ => true
  | .seated => true
  | .bid _ => true

/-- The level a data bit is sent at: 0 dominant, 1 recessive (R62). -/
def bitLevel (b : Bool) : Level :=
  if b then .recessive else .dominant

/-- The level of bit time `i` of a character: start, eight data bits, stop (R62, R183). -/
def charLevel (c : Byte) (i : Nat) : Level :=
  if i = 0 then .dominant
  else if i ≤ 8 then bitLevel ((charBits c).getD (i - 1) true)
  else .recessive

/-- The data bits of a frame that lie before bit time `i` of character `k` (R62, R67, R71). -/
def bitsBefore (chars : List Byte) (k i : Nat) : List Bool :=
  (chars.take k).flatMap charBits ++ (charBits (chars.getD k 0#8)).take (i - 1)

/-- The data bit read at bit time `i` of a character; its start and stop bits are none (R62). -/
def bitRead (i : Nat) (read : Level) : List Bool :=
  if 1 ≤ i ∧ i ≤ 8 then [decide (read = .recessive)] else []

/-- The level the sender drives at bit `i` of character `k` of a frame; released beyond it. -/
def frameLevel (chars : List Byte) (k i : Nat) : Level :=
  match chars[k]? with
  | some c => charLevel c i
  | none => .recessive

end Sys2Proof.Machine
end

