-- ==== Sys2Proof/Machine/LineOps.lean ====
section
/-!
DEFINITION. The line controller: the transmit queue and enqueueing (R76, R77, R80), beginning a frame (R63), modes (R70), the tests of
reception (R72, R73).
-/

namespace Sys2Proof.Machine

/-- The idle gap: twelve bit times (R63). -/
def idleGap : Nat := 12 * bitTime

/-- The length of the acknowledge window: one character time (R66). -/
def ackWindow : Nat := 10 * bitTime

/-- Where the acknowledge window of a frame of `n` characters begins whose first start bit stands at `start`: the characters follow each
other without a space, and two bit times after the check's stop bit (R62, R66). -/
def windowStart (start : Moment) (n : Nat) : Moment :=
  start + (10 * n + 2) * bitTime

/-- A line dominant for 2 ms is stuck (R79). -/
def stuckTime : Nat := ms 2

/-- A line recessive for 10 ms is clear (R81). -/
def clearTime : Nat := ms 10

/-- How many frames or entries a queue holds (R75, R76). -/
def queueLimit : Nat := 4

/-- The answers to an enqueue (R76, R80). -/
inductive EnqueueAnswer where
  | accepted
  | replaced
  | refused
  | reported
  deriving DecidableEq, Repr

/-- Whether two frames have the same kind and the same target (R76). -/
def Frame.sameSlot (f g : Frame) : Bool :=
  f.kind == g.kind && f.target == g.target

/-- The frame takes the place of the first waiting one of its kind and target (R76). -/
def replaceWaiting (f : Frame) : List Frame → List Frame
  | [] => []
  | g :: rest => if g.sameSlot f then f :: rest else g :: replaceWaiting f rest

/-- The queue after a replacement: the head is in transmission and is never replaced (R76). -/
def replaceInQueue (f : Frame) : List Frame → List Frame
  | [] => []
  | head :: waiting => head :: replaceWaiting f waiting

/-- Whether a waiting frame has the kind and target of `f` (R76). -/
def waitingMatch (f : Frame) (q : List Frame) : Bool :=
  q.tail.any (·.sameSlot f)

/-- How an enqueue is answered (R76, R80). -/
def LineController.answerTo (l : LineController) (f : Frame) : EnqueueAnswer :=
  match l.mode with
  | .off => .refused
  | .mute => .refused
  | .running =>
    if l.stuck then .reported
    else if waitingMatch f l.txq then .replaced
    else if l.txq.length < queueLimit then .accepted
    else .refused

/-- The head of the transmit queue is begun now: its first start bit is driven, and the node follows its own frame (R63, R71). -/
def LineController.beginFrame (l : LineController) (now : Moment) : LineController :=
  { l with phase := .following now [] 1, sending := some now, stretch := some now }

/-- On an idle line a node with a frame that may send begins it (R63). -/
def LineController.beginIfReady (l : LineController) (now : Moment) : LineController :=
  match l.phase, l.mode, l.txq with
  | .idle, .running, _ :: _ => if l.stuck then l else l.beginFrame now
  | _, _, _ => l

/-- The queue's side of an enqueue (R76). A frame that becomes the head of the queue has attempt count 0, and is begun at once if the
line is idle (R63, R81). -/
def LineController.enqueue (l : LineController) (now : Moment) (f : Frame) : LineController :=
  match l.answerTo f with
  | .accepted =>
    { l with txq := l.txq ++ [f], attempts := if l.txq.isEmpty then 0 else l.attempts }.beginIfReady now
  | .replaced => { l with txq := replaceInQueue f l.txq }
  | .refused => l
  | .reported => l

/-- The head leaves the queue, and the oldest waiting frame becomes the head with attempt count 0 (R77). -/
def LineController.dropHead (l : LineController) : LineController :=
  { l with txq := l.txq.tail, attempts := 0 }

/-- Entering MUTE from RUNNING: the line is released, the transmit queue is emptied without reports (R70). That the frame in its window
stays followed, the idle gap is counted from the window's end and the stuck timing runs on is the model's choice (assumption log 44). -/
def LineController.mute (l : LineController) : LineController :=
  { l with mode := .mute, sending := none, acking := none, txq := [], attempts := 0 }

/-- The MUTE command: in OFF and in MUTE it changes nothing (R70). -/
def LineController.muteCommand (l : LineController) : LineController :=
  match l.mode with
  | .running => l.mute
  | .off => l
  | .mute => l

/-- LOAD END at the line controller: RUNNING or MUTE, the idle gap counted and the stuck detection started from this moment (R70). -/
def LineController.loadEnd (l : LineController) (now : Moment) (valid : Bool) : LineController :=
  { l with mode := if valid then .running else .mute, phase := .gap now, stretch := some now }

/-- A discarded frame: the node follows nothing until the line is idle (R71). -/
def LineController.discard (l : LineController) (now : Moment) : LineController :=
  { l with phase := .spoilt now }

/-- The four error counters saturate at 255 (R78). -/
def countError (n : Nat) : Nat := satInc 255 n

/-- The outcome of the reception tests (R72). -/
inductive Judgement where
  | passedOver
  | refusedCheck
  | rankClash
  | refusedOverrun
  | taken (sender : Rank) (frame : Frame)
  deriving DecidableEq, Repr

/-- The number that data bits spell, the most significant first (R62). -/
def bitsNumber (bits : List Bool) : Nat :=
  bits.foldl (fun n b => 2 * n + b.toNat) 0

/-- Whether the data bits read are those of a whole frame: head, target, count, as many payload characters as the count gives, and check
(R64, R71). -/
def frameComplete (bits : List Bool) : Bool :=
  decide (24 ≤ bits.length) && decide (8 * (4 + bitsNumber ((bits.drop 16).take 8)) ≤ bits.length)

/-- A character of which the first bits, `read`, have been read already, and the rest is that of `c` (R67, R71). -/
def readChar (read : List Bool) (c : Byte) : Byte :=
  BitVec.ofNat 8 (bitsNumber (read ++ (charBits c).drop read.length))

/-- The characters of a frame of which the data bits `read` have been read already: a node goes on from the point it had reached (R67,
R71). -/
def readChars (read : List Bool) : List Byte → List Byte
  | [] => []
  | c :: rest => readChar (read.take 8) c :: readChars (read.drop 8) rest

/-- The tests of R72 after the first two, in order: check, form, own rank, target, room. -/
def judgeContents (rank : Rank) (rxCount : Nat) (chars : List Byte) : Judgement :=
  if chars.getLast? ≠ some (crc8 chars.dropLast) then .refusedCheck
  else
    match readFrame chars.dropLast with
    | none => .refusedCheck
    | some (sender, frame) =>
      if sender = rank then .rankClash
      else if frame.target ≠ .rank rank ∧ frame.target ≠ .all then .passedOver
      else if queueLimit ≤ rxCount then .refusedOverrun
      else .taken sender frame

/-- The reception tests, the first that applies deciding (R72): a frame the node sent itself whole is passed over; a dominant level in
the two bit times before the window refuses it. -/
def LineController.judge (l : LineController) (rank : Rank) (read : List Bool) (chars : List Byte) (gapDominant : Bool) : Judgement :=
  if l.sending.isSome then .passedOver
  else if gapDominant then .refusedCheck
  else judgeContents rank l.rxq.length (readChars read chars)

/-- The held entry ceases to be held (R72). -/
def releaseHeld (q : List RxEntry) : List RxEntry :=
  q.map (fun e => { e with held := false })

/-- The end of a frame the node followed that far: the idle gap is counted from here (R63, R66). -/
def LineController.frameEnd (l : LineController) (now : Moment) : LineController :=
  { l with phase := .gap now, sending := none, acking := none, rxq := releaseHeld l.rxq }

end Sys2Proof.Machine
end

