-- ==== Sys2Proof/Machine/Coins.lean ====
section
/-!
DEFINITION. The coin unit: duty (R138), counts (R139 to R144), delivery (R145, R146) and the coin-block line (R147).
-/

namespace Sys2Proof.Machine

/-- The largest count (R140). -/
def coinLimit : Nat := 31

/-- The jam limit: 250 ms (R135, R137). -/
def jamLimit : Nat := ms 250

/-- An increase of a count, held at 31 (R140). -/
def addCoins (count more : Nat) : Nat :=
  min coinLimit (count + more)

/-- Whether an increase would take the count above 31 (R140). -/
def coinsOverflow (count more : Nat) : Bool :=
  decide (coinLimit < count + more)

/-- The duty a role gives (R138). -/
def dutyOf : Role → CoinDuty
  | .holding => .own
  | .offering => .own
  | .passing => .carrying
  | .startup => .none
  | .withdrawn => .none
  | .standby => .none
  | .bidding => .none
  | .accepted => .none

/-- Whether CBLK is asserted (R147). -/
def cblkAsserted (dormant : Bool) (role : Role) (view : Option Rank) (board : BoardState) : Bool :=
  dormant ||
    match role with
    | .startup => true
    | .bidding => true
    | .passing => true
    | .accepted => true
    | .standby => view.isNone
    | .holding => board != .ready
    | .offering => board != .ready
    | .withdrawn => false

/-- The coin unit decides the drive of CBLK again (R147). -/
def State.decideCblk (s : State) : State :=
  { s with cnu := { s.cnu with cblk := cblkAsserted s.cnu.dormant s.spe.role s.spe.view s.bsv.board } }

/-- The IDLE check of a channel: with a coin pending and the board READY it enters PULSE (R145). A dormant unit delivers nothing
(R135). -/
def State.idleCheck (s : State) (ch : Channel) : State :=
  let c := s.cnu.chan ch
  if s.cnu.dormant = false ∧ c.delivery = .idle ∧ 0 < c.pending ∧ s.bsv.board = .ready then
    { s with cnu := s.cnu.setChan ch { c with delivery := .pulse, timer := s.after (ms s.quantities.coinPulseMs) } }
  else s

/-- A pulse is cut short: the channel enters GAP with the gap timer started, and its coin stays owed (R146). -/
def State.cutPulse (s : State) (ch : Channel) : State :=
  let c := s.cnu.chan ch
  match c.delivery with
  | .pulse => { s with cnu := s.cnu.setChan ch { c with delivery := .gap, timer := s.after (ms s.quantities.coinGapMs) } }
  | _ => s

/-- An increase of a channel's pending count, saturating, and the IDLE check it may pass (R140, R145). -/
def State.addPending (s : State) (ch : Channel) (more : Nat) : State :=
  let c := s.cnu.chan ch
  { s with cnu := { s.cnu.setChan ch { c with pending := addCoins c.pending more } with
      overflow := s.cnu.overflow || coinsOverflow c.pending more } }.idleCheck ch

/-- An increase of a channel's carried count by one (R139, R140). -/
def State.addCarried (s : State) (ch : Channel) : State :=
  let c := s.cnu.chan ch
  { s with cnu := { s.cnu.setChan ch { c with carried := addCoins c.carried 1 } with
      overflow := s.cnu.overflow || coinsOverflow c.carried 1 } }

/-- An increase of a channel's late count by one (R139, R140). -/
def State.addLate (s : State) (ch : Channel) : State :=
  let c := s.cnu.chan ch
  { s with cnu := { s.cnu.setChan ch { c with late := addCoins c.late 1 } with
      overflow := s.cnu.overflow || coinsOverflow c.late 1 } }

/-- A role handed to the coin unit: duty and CBLK (R138, R147). -/
def State.coinRole (s : State) (role : Role) : State :=
  { s with cnu := { s.cnu with duty := dutyOf role } }.decideCblk

/-- A board state handed to the coin unit: delivery starts or is cut, and CBLK is decided again (R145 to R147). -/
def State.coinBoard (s : State) (board : BoardState) : State :=
  match board with
  | .ready => ((s.idleCheck .one).idleCheck .two).decideCblk
  | _ => ((s.cutPulse .one).cutPulse .two).decideCblk

/-- The present carried counts (R141). -/
def CoinUnit.carriedCounts (u : CoinUnit) : Nat × Nat :=
  (u.one.carried, u.two.carried)

/-- Freeze: the duty becomes LATE; the carried counts keep their values (R141). -/
def State.coinFreeze (s : State) : State :=
  { s with cnu := { s.cnu with duty := .late } }

/-- The carried and late counts of both channels become 0. -/
def CoinUnit.clearTravelling (u : CoinUnit) : CoinUnit :=
  { u with one := { u.one with carried := 0, late := 0 }, two := { u.two with carried := 0, late := 0 } }

/-- The PASS has been delivered: LATE COINS if a late count is above 0, then the travelling counts are cleared (R142). -/
def State.coinDelivered (s : State) : State :=
  { s with cnu := { s.cnu.clearTravelling with
      lateCoins := s.cnu.lateCoins || decide (0 < s.cnu.one.late) || decide (0 < s.cnu.two.late) } }

/-- One channel of a failed handover: carried, then late, return to pending (R143). -/
def State.returnCoins (s : State) (ch : Channel) : State :=
  (s.addPending ch (s.cnu.chan ch).carried).addPending ch (s.cnu.chan ch).late

/-- The handover has failed: the counts of both channels return to pending, and the travelling counts are cleared (R143). -/
def State.coinFailed (s : State) : State :=
  let s := (s.returnCoins .one).returnCoins .two
  { s with cnu := s.cnu.clearTravelling }

/-- The target seats: the PASS's carried counts join the pending counts (R144). -/
def State.coinSeated (s : State) (c1 c2 : Nat) : State :=
  (s.addPending .one c1).addPending .two c2

/-- The coin unit takes LOAD END: sampling starts, EC1 and EC2 take their idle level, and the checks apply (R135, R136, R145,
R147). -/
def State.coinLoadEnd (s : State) : State :=
  (({ s with cnu := { s.cnu with dormant := false } }.idleCheck .one).idleCheck .two).decideCblk

end Sys2Proof.Machine
end

