-- ==== Sys2Proof/Machine/Panel.lean ====
section
/-!
DEFINITION. The control mapper: PARKED and FOLLOWING (R155, R156), release-before-press (R157, R158), the press latches (R151) and the
lamp mirror (R161).
-/

namespace Sys2Proof.Machine

/-- The map table in force, if one is loaded (R153, R154). -/
def State.mapTable (s : State) : Option (Vector MapEntry 24) :=
  s.quantities.map

/-- The conditions of FOLLOWING, while a map table is loaded (R155). -/
def State.shouldFollow (s : State) : Bool :=
  s.mapTable.isSome && s.spe.role == .holding && s.mnu.state == .closed &&
    s.bsv.board != .resetting && s.bsv.board != .vacant

/-- Whether an edge line of this entry can be active (R153): it has a source and is driven. -/
def MapEntry.drives (e : MapEntry) : Bool :=
  e.source != .none && e.mode != .off

/-- The level of the input an entry follows. -/
def Mapper.sourcePressed (m : Mapper) (e : MapEntry) : Bool :=
  match sourceIndex e.source with
  | some i => m.pressed[i]
  | none => false

/-- The release-seen flags at an entry to FOLLOWING (R157): set if the source is RELEASED, and on a line with source NONE or mode
OFF. -/
def Mapper.entryFlags (m : Mapper) (map : Vector MapEntry 24) : Vector Bool 24 :=
  Vector.ofFn (fun k => !map[k].drives || !m.sourcePressed map[k])

/-- The lines while FOLLOWING: active when the flag is set and the source PRESSED (R158). -/
def Mapper.followLines (m : Mapper) (map : Vector MapEntry 24) : Vector Bool 24 :=
  Vector.ofFn (fun k => map[k].drives && m.seen[k] && m.sourcePressed map[k])

/-- No line active, or no flag set. -/
def noLines : Vector Bool 24 := Vector.replicate 24 false

/-- Entering FOLLOWING (R157). -/
def Mapper.enterFollowing (m : Mapper) (map : Vector MapEntry 24) : Mapper :=
  let flagged := { m with following := true, seen := m.entryFlags map }
  { flagged with active := flagged.followLines map }

/-- Entering PARKED: every line at its parked level and every flag clear (R156). -/
def Mapper.park (m : Mapper) : Mapper :=
  { m with following := false, seen := noLines, active := noLines }

/-- Whether the lamps are mirrored (R161). -/
def State.mirrors (s : State) : Bool :=
  s.mapTable.isSome && s.spe.role == .holding && s.mnu.state == .closed

/-- The drive of LP1 and LP2 (R161). -/
def State.mirrorLamps (s : State) : State :=
  { s with cmp := { s.cmp with lp1 := s.mirrors && s.cmp.lit1, lp2 := s.mirrors && s.cmp.lit2 } }

/-- The mapper decides PARKED or FOLLOWING again; an entry is a change (R155 to R157). -/
def State.decideMapper (s : State) : State :=
  match s.shouldFollow, s.cmp.following, s.mapTable with
  | true, false, some map => { s with cmp := s.cmp.enterFollowing map }
  | false, true, _ => { s with cmp := s.cmp.park }
  | _, _, _ => s

/-- A role, a menu state or a board state handed to the mapper: state and mirror are decided again (R155, R161). -/
def State.mapperDecides (s : State) : State :=
  s.decideMapper.mirrorLamps

/-- The press latch of an input, set, cleared or consumed (R151). -/
def State.setLatch (s : State) (i : PanelInput) (v : Bool) : State :=
  { s with cmp := { s.cmp with latch := s.cmp.latch.set (panelIndex i) v } }

/-- Whether an input's press latch is set. -/
def State.latched (s : State) (i : PanelInput) : Bool :=
  s.cmp.latch[panelIndex i]

/-- A filtered level changes: the level, and the edge lines whose source it is (R151, R158). -/
def State.pressLines (s : State) (i : PanelInput) : State :=
  let m := { s.cmp with pressed := s.cmp.pressed.set (panelIndex i) true }
  match s.cmp.following, s.mapTable with
  | true, some map => { s with cmp := { m with active := m.followLines map } }
  | _, _ => { s with cmp := m }

/-- A release: the flags of the lines whose source it is are set and the lines go inactive (R158). -/
def State.releaseLines (s : State) (i : PanelInput) : State :=
  let m := { s.cmp with pressed := s.cmp.pressed.set (panelIndex i) false }
  match s.cmp.following, s.mapTable with
  | true, some map =>
    let flagged := { m with
      seen := Vector.ofFn (fun k => m.seen[k] || decide (sourceIndex map[k].source = some (panelIndex i))) }
    { s with cmp := { flagged with active := flagged.followLines map } }
  | _, _ => { s with cmp := m }

/-- The mapper takes LOAD END: sampling begins (R150). -/
def State.mapperLoadEnd (s : State) : State :=
  { s with cmp := { s.cmp with dormant := false } }.mapperDecides

end Sys2Proof.Machine
end

