-- ==== Sys2Proof/Machine/Roster.lean ====
section
/-!
DEFINITION. The peer roster (R83 to R89) and the game list (R94, R170).
-/

namespace Sys2Proof.Machine

/-- The roles in which a node holds the screen: HOLDING, OFFERING, PASSING (R84, R97). -/
def holdsScreen : Role → Bool
  | .holding => true
  | .offering => true
  | .passing => true
  | .startup => false
  | .withdrawn => false
  | .standby => false
  | .bidding => false
  | .accepted => false

/-- The configured title, absent while it has length 0 or no valid block was loaded (R84). -/
def State.ownTitle (s : State) : Option (List Glyph) :=
  match s.quantities.title with
  | [] => none
  | title => some title

/-- The own entry follows the node's own state at every moment (R84). -/
def State.ownEntry (s : State) : RosterEntry :=
  { presence := .present, board := some s.bsv.board, title := s.ownTitle, holding := holdsScreen s.spe.role }

/-- The roster entry of a rank (R83, R84). -/
def State.entry (s : State) (r : Rank) : RosterEntry :=
  if r = s.rank then s.ownEntry else s.roster[r]

/-- The roster with the peer entry of `r` replaced; the own entry is not learnt (R84). -/
def State.setEntry (s : State) (r : Rank) (e : RosterEntry) : State :=
  if r = s.rank then s else { s with roster := s.roster.set r e }

/-- A frame taken from `r`, or an addressed frame to it delivered, makes it PRESENT (R85, R89). -/
def State.rosterPresent (s : State) (r : Rank) : State :=
  s.setEntry r { s.roster[r] with presence := .present }

/-- An addressed frame to `r` reported UNDELIVERED makes it SILENT (R89); a cursor on it moves to the own entry (R170). -/
def State.rosterSilent (s : State) (r : Rank) : State :=
  let s := s.setEntry r { s.roster[r] with presence := .silent }
  if r ≠ s.rank ∧ s.mnu.cursor = r then { s with mnu := { s.mnu with cursor := s.rank } } else s

/-- The board state carried by a frame of `r` (R86, R87). -/
def State.rosterBoard (s : State) (r : Rank) (board : BoardState) : State :=
  s.setEntry r { s.roster[r] with board := some board }

/-- The title a HELLO of `r` carries; one of length 0 makes it absent (R86). -/
def State.rosterTitle (s : State) (r : Rank) (title : List Glyph) : State :=
  s.setEntry r { s.roster[r] with title := if title.isEmpty then none else some title }

/-- A claim of `r`: its holding field becomes YES and that of every other peer entry NO (R88). -/
def State.rosterClaim (s : State) (r : Rank) : State :=
  { s with roster := Vector.ofFn (fun k : Fin 8 => { s.roster[k] with holding := decide (k = r) }) }

/-- A HELLO of `r` with the holding flag clear (R88). -/
def State.rosterRelease (s : State) (r : Rank) : State :=
  s.setEntry r { s.roster[r] with holding := false }

/-- What a taken frame does to the roster, before the protocol acts on it (R85 to R88). -/
def State.rosterTake (s : State) (r : Rank) (body : Body) : State :=
  let s := s.rosterPresent r
  match body with
  | .hello holding _ board _ _ title =>
    let s := (s.rosterBoard r board).rosterTitle r title
    if holding then s.rosterClaim r else s.rosterRelease r
  | .bid board => s.rosterBoard r board
  | .answer _ _ _ board => s.rosterBoard r board
  | .seated => s.rosterClaim r
  | .offer _ => s
  | .pass _ _ _ => s

/-- Whether a rank is on the game list: the own entry and every PRESENT peer (R94, R170). -/
def State.listed (s : State) (r : Rank) : Bool :=
  (s.entry r).presence == .present

/-- All ranks in order. -/
def allRanks : List Rank := [0, 1, 2, 3, 4, 5, 6, 7]

/-- The game list, in rank order (R94). -/
def State.gameList (s : State) : List Rank :=
  allRanks.filter s.listed

/-- The next listed rank below `r`, or `r` at the lowest (R170, UP). -/
def State.listedBelow (s : State) (r : Rank) : Rank :=
  ((s.gameList.filter (fun k => decide (k < r))).getLast?).getD r

/-- The next listed rank above `r`, or `r` at the highest (R170, DOWN). -/
def State.listedAbove (s : State) (r : Rank) : Rank :=
  ((s.gameList.filter (fun k => decide (r < k))).head?).getD r

end Sys2Proof.Machine
end

