-- ==== Sys2Proof/Machine/MenuOps.lean ====
section
/-!
DEFINITION. The menu controller's states, timers and notices (R167 to R172), as far as they hand nothing to the screen protocol engine
or the board supervisor.
-/

namespace Sys2Proof.Machine

/-- The browse timer: 20 s (R170). -/
def browseTime : Nat := ms 20000

/-- The notice timer: 3 s (R172). -/
def noticeTime : Nat := ms 3000

/-- The select hold timer: 800 ms (R169). -/
def selectHold : Nat := ms 800

/-- A menu state is entered, and a change of it is handed to the mapper (R167). The overlay generator reads it at each line start
(R164). -/
def State.setMenu (s : State) (st : MenuState) : State :=
  if s.mnu.state = st then s
  else { s with mnu := { s.mnu with state := st } }.mapperDecides

/-- The menu enters CLOSED: the notice text is cleared and the browse and notice timers stop (R167, R172; assumption log 25). -/
def State.closeMenu (s : State) : State :=
  { s with mnu := { s.mnu with notice := none, noticeTimer := none, browseTimer := none } }.setMenu .closed

/-- The menu enters BROWSE: the browse timer starts (R170). -/
def State.enterBrowse (s : State) : State :=
  { s with mnu := { s.mnu with browseTimer := s.after browseTime } }.setMenu .browse

/-- The menu enters BROWSE with the cursor on the own entry (R169, R175). -/
def State.openBrowse (s : State) : State :=
  { s with mnu := { s.mnu with cursor := s.rank } }.enterBrowse

/-- A timed notice text is set and its timer starts at 3 s (R172). -/
def State.timedNotice (s : State) (n : Notice) : State :=
  { s with mnu := { s.mnu with notice := some n, noticeTimer := s.after noticeTime } }

/-- The menu enters NOTICE with a text for 3 s (R171). -/
def State.enterNotice (s : State) (n : Notice) : State :=
  (s.timedNotice n).setMenu .notice

/-- The menu enters WAIT: browse and notice timers stop, the text is SWITCHING (R171). -/
def State.enterWait (s : State) : State :=
  { s with mnu := { s.mnu with notice := some .switching, noticeTimer := none, browseTimer := none } }.setMenu .wait

/-- The menu enters SERVICE: the browse timer stops (R170). -/
def State.enterService (s : State) : State :=
  { s with mnu := { s.mnu with browseTimer := none } }.setMenu .service

/-- A role handed to the menu controller: any role that does not hold the screen closes the menu (R167). -/
def State.menuRole (s : State) (role : Role) : State :=
  if holdsScreen role then s else s.closeMenu

/-- FAILED handed to the menu controller (R169). -/
def State.menuBoardFailed (s : State) : State :=
  match s.mnu.state with
  | .closed => if s.spe.role = .holding then s.openBrowse.timedNotice .boardFailed else s
  | .browse => s.timedNotice .boardFailed
  | .notice => s.timedNotice .boardFailed
  | .wait => s
  | .service => s

/-- A board state handed to the menu controller: FAILED alone acts on it (R169). -/
def State.menuBoard (s : State) (board : BoardState) : State :=
  match board with
  | .failed => s.menuBoardFailed
  | _ => s

/-- HANDOVER FAILED with its reason: the menu in WAIT enters NOTICE with the reason as its text (R134, R171). -/
def State.menuHandoverFailed (s : State) (reason : Notice) : State :=
  match s.mnu.state with
  | .wait => s.enterNotice reason
  | _ => s

/-- HANDOVER COMPLETE: the menu enters CLOSED (R134, R171). -/
def State.menuHandoverComplete (s : State) : State :=
  match s.mnu.state with
  | .wait => s.closeMenu
  | _ => s

end Sys2Proof.Machine
end

