-- ==== Sys2Proof/Config.lean ====
section
/-!
DEFINITION. The free values: what the spec leaves open although the part goes on. They have no body, so nothing can be proved of the
value they stand for. Every configured quantity of the part is read from its configuration block (R184) and stands in State.
-/

namespace Sys2Proof.Config

/-- Free value (assumption log 8): whether the bus-sense slicer's output is high when the bus CSYNC sense input stands at exactly code
70. R17 gives the threshold and does not say to which side the threshold itself belongs. -/
opaque busHighAtThreshold : Bool

/-- Free value (assumption log 9): the dots of the fixed internal glyph table, by code, dot x and line y. R163 names the characters and
does not give their dots; what it does say of them is in `Sys2Proof.Machine.glyphDot`. -/
opaque glyphRom : Glyph → Fin 8 → Fin 10 → Bool

/-- Free value (assumption log 15): which of the reasons NOT READY, BUSY and LINE FAULT the menu is told when an ANSWER NO carries reason
NONE, for which no rule states the notice (R120, R183). -/
opaque noticeOfNoReason : Fin 3

end Sys2Proof.Config
end

