-- ==== Sys2Proof/Machine/Operands.lean ====
section
/-!
DEFINITION. What the operands of the commands say: straps, sample runs, the filters of the inputs, the comparators, the readings of an
acknowledge window.
-/

namespace Sys2Proof.Machine

/-- RK0 plus twice RK1 plus four times RK2 (R178). -/
def strapRank (p : Straps) : Rank :=
  Fin.ofNat 8 (p.rk0.toNat + 2 * p.rk1.toNat + 4 * p.rk2.toNat)

/-- Counts and sums of a window's samples: a code of 128 or more is high (R4). -/
def tallyRuns (runs : List SampleRun) (start : AcqTotals) : AcqTotals :=
  runs.foldl
    (fun t r =>
      if 128 ≤ r.code.val then
        { t with highCount := t.highCount + r.count, highSum := t.highSum + r.code.val * r.count }
      else
        { t with lowCount := t.lowCount + r.count, lowSum := t.lowSum + r.code.val * r.count })
    start

/-- How many samples an acquisition window has (R4). -/
def windowSamples : Nat := 20000

/-- The number of samples the runs give. -/
def runsTotal (runs : List SampleRun) : Nat :=
  (runs.map (·.count)).sum

/-- The slicer filter: a change becomes an edge once the new level has held for 12 ticks (R2, R17). -/
def edgeFilter : Nat := 12

/-- How long an input has held its level since sampling began at `since`: a filter counts nothing before it (R41, R136, R150,
R160). -/
def State.steadyFor (s : State) (since : Option Moment) (held : Nat) : Nat :=
  match since with
  | some m => min held (s.now - m)
  | none => 0

/-- NRESET resets the node once it has been low for 10 µs; power-on always does (R178). -/
def resetCounts : ResetCause → Bool
  | .nresetLow held => decide (480 ≤ held)
  | .powerOn => true

/-- A cause joins those that keep node reset in force (R178). -/
def ResetCauses.add (c : ResetCauses) : ResetCause → ResetCauses
  | .nresetLow _ => { c with pin := true }
  | .powerOn => { c with power := true }

/-- How long the supply must have been within its range for the hold at power-on to end: 20 ms (R178). -/
def supplyHold : Nat := ms 20

/-- The causes that persist with NRESET high or not, and the supply within its range for `supply` ticks (R178). -/
def ResetCauses.after (c : ResetCauses) (supply : Nat) (nresetHigh : Bool) : ResetCauses :=
  { pin := c.pin && !nresetHigh, power := c.power && decide (supply < supplyHold) }

/-- The presence filter: 20 ms (R41). -/
def presenceFilter : Nat := ms 20

/-- The lamp filter: 1 ms (R160). -/
def lampFilter : Nat := ms 1

/-- The panel filter time in use (R150). -/
def State.panelFilter (s : State) : Nat :=
  ms s.quantities.panelFilterMs

/-- The coin filter time in use (R135). -/
def State.coinFilter (s : State) : Nat :=
  ms s.quantities.coinFilterMs

/-- The slicer's comparator (R2). -/
def comparatorActive (polarity : Polarity) (threshold : Nat) (level : Code) : Bool :=
  match polarity with
  | .negative => decide (level.val ≤ threshold)
  | .positive => decide (threshold ≤ level.val)

/-- The comparator output of the board slicer for an input at `level`. -/
def Slicer.compare (sl : Slicer) (level : Code) : SyncLevel :=
  if comparatorActive sl.polarity sl.threshold level then .syncActive else .rest

/-- The bus-sense slicer's output for an input at `level`: its threshold is code 70; the side of code 70 itself is a free value
(R17; assumption log 8). -/
def busHigh (level : Code) : Bool :=
  if level.val < 70 then false
  else if 70 < level.val then true
  else Config.busHighAtThreshold

/-- Whether a bus level is the sync-active level of a polarity: NEGATIVE sync is low (R1, R18). -/
def busActive (polarity : Polarity) (high : Bool) : Bool :=
  match polarity with
  | .negative => !high
  | .positive => high

/-- The frame is acknowledged if the line is dominant at all nine middles (R66). -/
def acknowledged (middles : BitVec 9) : Bool :=
  middles == 0#9

/-- A clock hold fails a try when it is longer than 1 ms; the other causes always do (R179). -/
def failureCounts : TryFailure → Bool
  | .missingAck _ => true
  | .lineLowAtStart => true
  | .clockHold ticks => decide (ms 1 < ticks)

end Sys2Proof.Machine
end

