-- ==== Sys2Proof/Machine/Slicer.lean ====
section
/-!
DEFINITION. Operations of the sync slicer: the threshold from rest and tip (R3), locking (R5), tracking (R7), entering ACQUIRING
(R4).
-/

namespace Sys2Proof.Machine

/-- The absolute difference of two numbers. -/
def absDiff (a b : Nat) : Nat :=
  if a ≤ b then b - a else a - b

/-- The swing used: the swing held within the limits (R3, steps 1 to 4). -/
def swingUsed (smin smax swing : Nat) : Nat :=
  if swing < smin then smin else if smax < swing then smax else swing

/-- The threshold: B less or plus half the swing used, held within 0 to 255 (R3, steps 5 and 6). -/
def thresholdOf (polarity : Polarity) (rest used : Nat) : Nat :=
  match polarity with
  | .negative => min 255 (rest - half used)
  | .positive => min 255 (rest + half used)

/-- Deriving the threshold, with its latched faults (R3). -/
def Slicer.deriveThreshold (sl : Slicer) (q : Quantities) : Slicer :=
  let swing := absDiff sl.tip sl.rest
  { sl with
    threshold := thresholdOf sl.polarity sl.rest (swingUsed q.smin q.smax swing)
    lowSwing := sl.lowSwing || decide (swing < q.smin)
    highSwing := sl.highSwing || (!decide (swing < q.smin) && decide (q.smax < swing)) }

/-- The samples of the minority level; equal counts fail the window in any case (R4). -/
def AcqTotals.minority (t : AcqTotals) : Nat :=
  min t.lowCount t.highCount

/-- Whether the window succeeds: the minority level holds at least 100 and at most 4,999 samples (R4). -/
def AcqTotals.succeeds (t : AcqTotals) : Bool :=
  decide (100 ≤ t.minority) && decide (t.minority ≤ 4999)

/-- The window's counts and sums, cleared (R4). -/
def AcqTotals.cleared : AcqTotals :=
  { lowCount := 0, lowSum := 0, highCount := 0, highSum := 0 }

/-- The polarity, tip and rest levels that a successful window seeds, with the threshold derived from them (R5). -/
def Slicer.seed (sl : Slicer) (q : Quantities) : Slicer :=
  let lowMean := sl.acq.lowSum / sl.acq.lowCount
  let highMean := sl.acq.highSum / sl.acq.highCount
  let seeded :=
    if sl.acq.lowCount < sl.acq.highCount then
      { sl with polarity := .negative, tip := lowMean, rest := highMean }
    else
      { sl with polarity := .positive, tip := highMean, rest := lowMean }
  seeded.deriveThreshold q

/-- A tracked level moves toward a sample by one eighth of the difference, truncated toward zero (R7). -/
def trackEighth (level : Nat) (sample : Code) : Nat :=
  ((level : Int) + ((sample.val : Int) - (level : Int)).tdiv 8).toNat

/-- A complete pair moves T toward p and B toward r, and the threshold is derived anew (R7). -/
def Slicer.track (sl : Slicer) (q : Quantities) (p r : Code) : Slicer :=
  { sl with tip := trackEighth sl.tip p, rest := trackEighth sl.rest r, pair := none }.deriveThreshold q

/-- How long an acquisition window lasts: 20,000 samples, one every 48 ticks (R4). -/
def acquisitionWindow : Nat := 20000 * 48

/-- How long the stall timer and the lock expiry run: 40 ms, 1,920,000 ticks (R14, R15). -/
def stallTime : Nat := 1920000

/-- Entering ACQUIRING opens a window with counts and sums cleared; the open pair is dropped and no edge reaches the classifier
(R4, R2). The logic sync is held at rest meanwhile (assumption log 7). -/
def State.enterAcquiring (s : State) : State :=
  { s with
    ssl := { s.ssl with
      mode := .acquiring, acq := AcqTotals.cleared, windowEnd := s.after acquisitionWindow, pair := none, logicSync := .rest }
    pcl := { s.pcl with lockExpiry := none } }

/-- A failed window is followed at once by a fresh one, with all counts and sums cleared (R4). -/
def State.freshWindow (s : State) : State :=
  { s with ssl := { s.ssl with acq := AcqTotals.cleared, windowEnd := s.after acquisitionWindow } }

/-- The slicer locks after a successful window: polarity, levels and threshold are seeded, the classifier stays QUIET and the lock
expiry runs (R5, R15). A sync-active interval at the moment of lock is not credited: the logic sync already stands active. -/
def State.lockFromWindow (s : State) (level : Code) : State :=
  let seeded := { s.ssl.seed s.quantities with mode := SlicerState.locked, windowEnd := none, pair := none }
  { s with
    ssl := { seeded with logicSync := seeded.compare level }
    pcl := { s.pcl with lockExpiry := s.after stallTime } }

/-- FIXED mode: LOCKED with the configured threshold and polarity (R1, R9). That the logic sync stays at rest, so that a sync-active
interval already in progress is credited with a leading edge, is the model's choice (assumption log 41). -/
def State.lockFixed (s : State) : State :=
  { s with
    ssl := { s.ssl with
      mode := .locked, threshold := s.quantities.fixedThreshold, polarity := s.quantities.fixedPolarity } }

/-- The slicer takes LOAD END (R1, R181). -/
def State.slicerLoadEnd (s : State) : State :=
  match s.quantities.mode with
  | .adaptive => s.enterAcquiring
  | .fixed => s.lockFixed

end Sys2Proof.Machine
end

