-- ==== Sys2Proof/Machine/Timing.lean ====
section
/-!
DEFINITION. Operations of the timing measurement unit: the measurement cycle (R19 to R24), field records and their arithmetic (R25 to
R29), ring, stability and counts (R30 to R32), signatures and the window verdict (R33 to R36).
-/

namespace Sys2Proof.Machine

/-- The field age saturates here (R12). -/
def ageLimit : Nat := 4194304

/-- A field age of `n` elapsed ticks (R12). -/
def saturatedAge (n : Nat) : Nat := min n ageLimit

/-- HL: half-lines per field, rounded to the nearest with a half rounded up, at most 1023 (R28). -/
def halfLines (f l16 : Nat) : Nat :=
  min 1023 ((64 * f + l16) / (2 * l16))

/-- Interlaced if HL is odd (R29). -/
def Signature.interlaced (sig : Signature) : Bool :=
  sig.hl % 2 == 1

/-- A LINE event in the cycle (R21, R22): `stamp` is the pulse's leading edge. -/
def Tmu.lineEvent (t : Tmu) (q : Quantities) (stamp : Stamp) (width : Nat) : Tmu :=
  match t.phase with
  | .partialCycle => t
  | .full => t
  | .masking =>
    if stampDiff stamp (t.fieldStart.getD 0#32) < 256 * q.maskUnits then t
    else { t with phase := .collecting, hits := [stamp], width := some width }
  | .collecting =>
    let interval := stampDiff stamp (t.hits.getLast?.getD stamp)
    { t with
      hits := t.hits ++ [stamp]
      mark := t.mark || decide (4095 < interval)
      phase := if 16 ≤ t.hits.length then .full else .collecting }

/-- The record a FIELD START with this odd count and field age closes the cycle with (R20, R25 to R28). -/
def Tmu.closeRecord (t : Tmu) (odd age : Nat) (polarity : Polarity) : FieldRecord :=
  match t.phase, t.hits.head?, t.hits.getLast?, t.width with
  | .full, some first, some last, some w =>
    if t.mark || decide (ageLimit ≤ age) || odd != 0 then .incomplete
    else
      let l16 := stampDiff last first
      .complete { l16 := l16, hl := halfLines age l16, w := w, polarity := polarity } age
  | _, _, _, _ => .incomplete

/-- Whether a record joining behind `predecessor` is stable (R31). -/
def recordStable (q : Quantities) (predecessor : Option FieldRecord) (record : FieldRecord) : Bool :=
  match predecessor, record with
  | some (.complete a _), .complete b _ =>
    decide (absDiff a.l16 b.l16 ≤ q.l16Tolerance) && decide (a.hl = b.hl) && decide (absDiff a.w b.w ≤ 12)
  | _, _ => false

/-- The ring with a record joined as its newest; the oldest of four is dropped (R30). -/
def pushRecord (ring : List FieldRecord) (record : FieldRecord) : List FieldRecord :=
  if 4 ≤ ring.length then (ring ++ [record]).drop (ring.length - 3) else ring ++ [record]

/-- The window verdict on a signature (R34). -/
def windowVerdict (q : Quantities) (sig : Signature) : Verdict :=
  if q.l16Min ≤ sig.l16 ∧ sig.l16 ≤ q.l16Max ∧ q.hlMin ≤ sig.hl ∧ sig.hl ≤ q.hlMax ∧
      (sig.interlaced = false ∨ q.interlaceAllowed = true) ∧ sig.w ≤ q.wMax then .inWindow
  else .outOfWindow

/-- What the measurement unit raises to the board supervisor (R32, R33). -/
inductive TmuEvent where
  | newSignature (verdict : Verdict)
  | drift
  deriving DecidableEq, Repr

/-- Whether a new signature is copied to the reference: IN, with the board in SETTLING, READY or OFF_WINDOW (R36). -/
def copiesReference (verdict : Verdict) (board : BoardState) : Bool :=
  match verdict, board with
  | .inWindow, .settling => true
  | .inWindow, .ready => true
  | .inWindow, .offWindow => true
  | _, _ => false

/-- The unit with a record joined: ring, judgement and counts (R30 to R32). -/
def Tmu.join (t : Tmu) (q : Quantities) (record : FieldRecord) : Tmu :=
  if recordStable q t.ring.getLast? record then
    { t with ring := pushRecord t.ring record, stable := satInc 15 t.stable, drift := 0 }
  else
    { t with ring := pushRecord t.ring record, stable := 0, drift := satInc 3 t.drift }

/-- What joining a record raises: DRIFT when an unstable record takes the drift count from 2 to 3 (R32). -/
def Tmu.driftRaised (t : Tmu) (q : Quantities) (record : FieldRecord) : Bool :=
  !recordStable q t.ring.getLast? record && t.drift == 2

/-- The new signature that joining a record gives, if any (R33). -/
def Tmu.newSignature (t : Tmu) (q : Quantities) (record : FieldRecord) : Option Signature :=
  match record with
  | .complete sig _ =>
    if recordStable q t.ring.getLast? record ∧ q.settleFields ≤ satInc 15 t.stable then some sig else none
  | .incomplete => none

/-- The unit with a new signature taken as current, and copied to the reference where R36 requires it (R33, R36). -/
def Tmu.takeSignature (t : Tmu) (q : Quantities) (board : BoardState) (sig : Signature) : Tmu :=
  { t with
    current := some { sig := sig, verdict := windowVerdict q sig }
    reference := if copiesReference (windowVerdict q sig) board then some sig else t.reference }

/-- Arming a new cycle at a FIELD START (R20). -/
def Tmu.arm (t : Tmu) (stamp : Stamp) : Tmu :=
  { t with phase := .masking, fieldStart := some stamp, hits := [], width := none, mark := false }

/-- The unit after taking a FIELD START, closing the cycle in progress and arming a new one (R20). -/
def Tmu.fieldStartTaken (t : Tmu) (q : Quantities) (board : BoardState) (stamp : Stamp) (odd age : Nat) (polarity : Polarity) : Tmu :=
  let record := t.closeRecord odd age polarity
  let joined := t.join q record
  match t.newSignature q record with
  | some sig => (joined.takeSignature q board sig).arm stamp
  | none => joined.arm stamp

/-- What the taking of a FIELD START raises to the board supervisor (R32, R33). -/
def Tmu.fieldStartRaises (t : Tmu) (q : Quantities) (odd age : Nat) (polarity : Polarity) : Option TmuEvent :=
  let record := t.closeRecord odd age polarity
  match t.newSignature q record with
  | some sig => some (.newSignature (windowVerdict q sig))
  | none => if t.driftRaised q record then some .drift else none

/-- Abandoning the cycle: PARTIAL, with nothing held (R23, R24). -/
def Tmu.abandon (t : Tmu) : Tmu :=
  { t with phase := .partialCycle, fieldStart := none, hits := [], width := none, mark := false }

/-- STALL at the measurement unit (R23). -/
def Tmu.stall (t : Tmu) : Tmu :=
  { t.abandon with stable := 0 }

/-- RESUME at the measurement unit: it acts on the phase alone (R23, R39). -/
def Tmu.resume (t : Tmu) : Tmu :=
  { t with phase := .partialCycle }

/-- CLEAR at the measurement unit: everything but the reference (R24). -/
def Tmu.clear (t : Tmu) : Tmu :=
  { t.abandon with ring := [], stable := 0, drift := 0, current := none }

/-- CLEAR issued by the board supervisor (R24). -/
def State.clearTmu (s : State) : State :=
  { s with tmu := s.tmu.clear }

end Sys2Proof.Machine
end

