-- ==== Sys2Proof/Machine/Render.lean ====
section
/-!
DEFINITION. What the cell memory holds: glyphs (R163), the notice line (R172), the game list (R173) and the service page (R174).
-/

namespace Sys2Proof.Machine

/-! ## Glyphs (R163) -/

/-- The glyph code of a character: space, letters, digits, punctuation and brackets (R163). -/
def glyphOf (c : Char) : Glyph :=
  if 65 ≤ c.toNat ∧ c.toNat ≤ 90 then Fin.ofNat 64 (c.toNat - 64)
  else if 48 ≤ c.toNat ∧ c.toNat ≤ 57 then Fin.ofNat 64 (c.toNat - 21)
  else
    match ['.', ',', ':', '-', '/', '\'', '!', '?', '(', ')', '+', '=', '*', '#', '&', '<', '>'].idxOf? c with
    | some i => Fin.ofNat 64 (37 + i)
    | none => if c = '[' then 62 else if c = ']' then 63 else 0

/-- A text as glyph codes. -/
def glyphText (text : List Char) : List Glyph := text.map glyphOf

/-- The glyph of a decimal digit. -/
def digitGlyph (d : Nat) : Glyph := Fin.ofNat 64 (27 + d % 10)

/-- The marks of R163. -/
def cursorMark : Glyph := 54
def holdMark : Glyph := 55
def readyMark : Glyph := 56
def waitMark : Glyph := 57
def rangeMark : Glyph := 58
def faultMark : Glyph := 59
def emptyMark : Glyph := 60

/-- The lit dots of a glyph: what R163 says of them, and the internal table beyond it (assumption log 9). The letter, digit and
punctuation glyphs, the brackets among them, leave dot 7 and lines 8 and 9 unlit. -/
def glyphDot (g : Glyph) (x : Fin 8) (y : Fin 10) : Bool :=
  if g = 0 then false
  else if g = 61 then true
  else if (g.val ≤ 53 ∨ 62 ≤ g.val) ∧ (x = 7 ∨ 8 ≤ y.val) then false
  else Config.glyphRom g x y

/-! ## Numbers -/

/-- The decimal digits of a number, the last first, at most five. -/
def digitsRev (n : Nat) : List Nat :=
  if n < 10 then [n]
  else if n < 100 then [n % 10, n / 10]
  else if n < 1000 then [n % 10, n / 10 % 10, n / 100]
  else if n < 10000 then [n % 10, n / 10 % 10, n / 100 % 10, n / 1000]
  else [n % 10, n / 10 % 10, n / 100 % 10, n / 1000 % 10, n / 10000 % 10]

/-- A number in decimal, without leading spaces. -/
def numberText (n : Nat) : List Glyph :=
  (digitsRev n).reverse.map digitGlyph

/-- A number in decimal, right-aligned in `width` columns with leading spaces (R174). -/
def numberRight (width n : Nat) : List Glyph :=
  List.replicate (width - (numberText n).length) 0 ++ numberText n

/-! ## Rows of glyphs -/

/-- A text placed from a column on. -/
structure Piece where
  column : Nat
  text : List Glyph

/-- The glyph a row of pieces has at a column: a cell that no piece fills holds a space. -/
def pieceGlyph (pieces : List Piece) (column : Nat) : Glyph :=
  match pieces.find? (fun p => decide (p.column ≤ column) && decide (column < p.column + p.text.length)) with
  | some p => p.text.getD (column - p.column) 0
  | none => 0

/-! ## The notice line (R172) -/

/-- The text of a notice (R172). -/
def noticeText : Notice → List Glyph
  | .switching => glyphText ['S', 'W', 'I', 'T', 'C', 'H', 'I', 'N', 'G']
  | .notReady => glyphText ['N', 'O', 'T', ' ', 'R', 'E', 'A', 'D', 'Y']
  | .busy => glyphText ['B', 'U', 'S', 'Y']
  | .lineFault => glyphText ['L', 'I', 'N', 'E', ' ', 'F', 'A', 'U', 'L', 'T']
  | .noAnswer => glyphText ['N', 'O', ' ', 'A', 'N', 'S', 'W', 'E', 'R']
  | .switchFailed => glyphText ['S', 'W', 'I', 'T', 'C', 'H', ' ', 'F', 'A', 'I', 'L', 'E', 'D']
  | .boardFailed => glyphText ['B', 'O', 'A', 'R', 'D', ' ', 'F', 'A', 'I', 'L', 'E', 'D']

/-- The colour of a notice (R172). -/
def noticeColour : Notice → Fin 8
  | .switching => 7
  | .notReady => 4
  | .busy => 4
  | .lineFault => 4
  | .noAnswer => 4
  | .switchFailed => 4
  | .boardFailed => 4

/-- What row 9 shows: the notice text if one is set, otherwise NO SIGNAL while fill is active, otherwise nothing (R172). -/
def State.noticeLine (s : State) : Option (List Glyph × Fin 8) :=
  match s.mnu.notice with
  | some n => some (noticeText n, noticeColour n)
  | none =>
    if s.fsg.active then some (glyphText ['N', 'O', ' ', 'S', 'I', 'G', 'N', 'A', 'L'], 6) else none

/-- A cell of row 9, which has background set whenever a menu is open (R172 to R174). The colour 7 of a blank row's spaces is the model's
choice (assumption log 40). -/
def State.noticeCell (s : State) (menuOpen : Bool) (column : Nat) : Cell :=
  match s.noticeLine with
  | some (text, colour) => { glyph := text.getD column 0, colour := colour, background := true }
  | none => { glyph := 0, colour := 7, background := menuOpen }

/-! ## The game list (R173) -/

/-- The state mark of an entry, by the first row of the table that applies (R173). -/
def stateMark (e : RosterEntry) : Glyph :=
  if e.holding then holdMark
  else
    match e.board with
    | some .ready => readyMark
    | some .resetting => waitMark
    | some .settling => waitMark
    | some .offWindow => rangeMark
    | some .stalled => faultMark
    | some .failed => faultMark
    | some .vacant => emptyMark
    | none => glyphOf '?'

/-- What is shown for an entry's title: the title, or BOARD and the rank digit while it is absent (R173). -/
def shownTitle (r : Rank) (e : RosterEntry) : List Glyph :=
  match e.title with
  | some title => title
  | none => glyphText ['B', 'O', 'A', 'R', 'D', ' '] ++ [digitGlyph r.val]

/-- The glyph at a column of an entry's row (R173). -/
def State.entryGlyph (s : State) (r : Rank) (column : Nat) : Glyph :=
  if column = 0 then (if s.mnu.cursor = r then cursorMark else 0)
  else if column = 1 then digitGlyph r.val
  else if column = 2 then 0
  else if column < 23 then (shownTitle r (s.entry r)).getD (column - 3) 0
  else stateMark (s.entry r)

/-- A cell of rows 0 to 8 of the game list (R173). The colour 7 of the spaces beside SELECT GAME and of the rows beyond the list is the
model's choice (assumption log 40). -/
def State.listCell (s : State) (row column : Nat) : Cell :=
  if row = 0 then
    { glyph := (glyphText ['S', 'E', 'L', 'E', 'C', 'T', ' ', 'G', 'A', 'M', 'E']).getD column 0, colour := 7, background := true }
  else
    match s.gameList[row - 1]? with
    | some r =>
      { glyph := s.entryGlyph r column, colour := if s.mnu.cursor = r then 6 else 7, background := true }
    | none => { glyph := 0, colour := 7, background := true }

/-! ## The service page (R174) -/

/-- Row 1: the current signature. -/
def signaturePieces (current : Option JudgedSignature) : List Piece :=
  { column := 0, text := glyphText ['S', 'I', 'G'] } ::
  match current with
  | none => [{ column := 4, text := glyphText ['N', 'O', 'N', 'E'] }]
  | some j =>
    [{ column := 4, text := numberRight 5 j.sig.l16 }, { column := 10, text := numberRight 4 j.sig.hl },
     { column := 15, text := numberRight 3 j.sig.w },
     { column := 19, text := glyphText [if j.sig.interlaced then 'I' else 'P'] },
     { column := 21, text := match j.verdict with
        | .inWindow => glyphText ['I', 'N']
        | .outOfWindow => glyphText ['O', 'U', 'T'] }]

/-- Lines per field, HL / 2, with .5 for an odd HL (R29). -/
def linesPerField (hl : Nat) : List Glyph :=
  numberText (hl / 2) ++ (if hl % 2 = 1 then glyphText ['.', '5'] else [])

/-- The mark of a field record: C or I (R174). -/
def recordMark : FieldRecord → Glyph
  | .incomplete => glyphOf 'I'
  | .complete _ _ => glyphOf 'C'

/-- Row 2: lines per field and the ring (R174, R30). The lines are right-aligned in columns 6 to 10. -/
def ringPieces (t : Tmu) : List Piece :=
  let lines := match t.current with
    | none => []
    | some j => linesPerField j.sig.hl
  [{ column := 0, text := glyphText ['L', 'I', 'N', 'E', 'S'] },
   { column := 6, text := List.replicate (5 - lines.length) 0 ++ lines },
   { column := 12, text := glyphText ['R', 'I', 'N', 'G'] },
   { column := 17, text := t.ring.map recordMark }]

/-- The board state by name, OFF_WINDOW written OFF WINDOW (R174). -/
def boardName : BoardState → List Glyph
  | .vacant => glyphText ['V', 'A', 'C', 'A', 'N', 'T']
  | .resetting => glyphText ['R', 'E', 'S', 'E', 'T', 'T', 'I', 'N', 'G']
  | .settling => glyphText ['S', 'E', 'T', 'T', 'L', 'I', 'N', 'G']
  | .ready => glyphText ['R', 'E', 'A', 'D', 'Y']
  | .offWindow => glyphText ['O', 'F', 'F', ' ', 'W', 'I', 'N', 'D', 'O', 'W']
  | .stalled => glyphText ['S', 'T', 'A', 'L', 'L', 'E', 'D']
  | .failed => glyphText ['F', 'A', 'I', 'L', 'E', 'D']

/-- Row 3: the board. -/
def boardPieces (b : Supervisor) : List Piece :=
  [{ column := 0, text := glyphText ['B', 'O', 'A', 'R', 'D'] }, { column := 6, text := boardName b.board },
   { column := 17, text := glyphOf 'A' :: [digitGlyph b.attempts] },
   { column := 20, text := [glyphOf (if b.present then 'P' else 'A')] }]

/-- The presence mark of an entry: P, U or S; the own entry's place holds an asterisk (R174). -/
def State.presenceMark (s : State) (r : Rank) : Glyph :=
  if r = s.rank then glyphOf '*'
  else
    match (s.entry r).presence with
    | .present => glyphOf 'P'
    | .unknown => glyphOf 'U'
    | .silent => glyphOf 'S'

/-- Row 5: the line counters, each after its letter (R174). -/
def counterPieces (l : LineController) : List Piece :=
  [{ column := 0, text := glyphText ['L', 'I', 'N', 'E'] },
   { column := 5, text := glyphOf 'C' :: numberRight 3 l.clash },
   { column := 10, text := glyphOf 'E' :: numberRight 3 l.checkError },
   { column := 15, text := glyphOf 'S' :: numberRight 3 l.shortFrame },
   { column := 20, text := glyphOf 'O' :: numberRight 3 l.overrun }]

/-- A fault code at a column while its latch is set (R174). -/
def faultPiece (latch : Bool) (column : Nat) (code : List Char) : Piece :=
  { column := column, text := if latch then glyphText code else [] }

/-- The pieces of a row of the service page, rows 0 to 8 (R174). -/
def State.servicePieces (s : State) (row : Nat) : List Piece :=
  match row with
  | 0 => [{ column := 0, text := glyphText ['S', 'E', 'R', 'V', 'I', 'C', 'E', ' ', 'R', 'A', 'N', 'K'] },
          { column := 13, text := [digitGlyph s.rank.val] }]
  | 1 => signaturePieces s.tmu.current
  | 2 => ringPieces s.tmu
  | 3 => boardPieces s.bsv
  | 4 => [{ column := 0, text := glyphText ['R', 'O', 'S', 'T', 'E', 'R'] },
          { column := 7, text := allRanks.map s.presenceMark }]
  | 5 => counterPieces s.lct
  | 6 => [faultPiece s.ssl.lowSwing 0 ['L', 'S', 'W', 'G'], faultPiece s.ssl.highSwing 5 ['H', 'S', 'W', 'G'],
          faultPiece s.bsv.offWindow 10 ['O', 'F', 'F', 'W'], faultPiece s.bsv.boardFailed 15 ['B', 'F', 'A', 'L'],
          faultPiece s.lct.lineStuck 20 ['L', 'S', 'T', 'K']]
  | 7 => [faultPiece s.cnu.one.jam 0 ['J', 'A', 'M', '1'], faultPiece s.cnu.two.jam 5 ['J', 'A', 'M', '2'],
          faultPiece s.cnu.overflow 10 ['C', 'O', 'V', 'F'], faultPiece s.cnu.lateCoins 15 ['L', 'A', 'T', 'E']]
  | 8 => [{ column := 0, text := [cursorMark] },
          { column := 2, text := glyphText ['R', 'E', 'S', 'E', 'T', ' ', 'B', 'O', 'A', 'R', 'D'] }]
  | _ => []

/-- A cell of rows 0 to 8 of the service page (R174). -/
def State.serviceCell (s : State) (row column : Nat) : Cell :=
  { glyph := pieceGlyph (s.servicePieces row) column, colour := if row = 8 then 6 else 7, background := true }

/-! ## The cell memory (R163, R173, R174) -/

/-- What the menu controller writes into a cell. While CLOSED, rows 0 to 8 hold spaces with background clear (R173); their colour 7 is the
model's choice (assumption log 40). -/
def State.cellContent (s : State) (row column : Nat) : Cell :=
  match s.mnu.state with
  | .closed => if row = 9 then s.noticeCell false column else Cell.reset
  | .browse => if row = 9 then s.noticeCell true column else s.listCell row column
  | .wait => if row = 9 then s.noticeCell true column else s.listCell row column
  | .notice => if row = 9 then s.noticeCell true column else s.listCell row column
  | .service => if row = 9 then s.noticeCell true column else s.serviceCell row column

/-- A row of the grid as the menu controller writes it. -/
def State.rowContent (s : State) (row : Nat) : Vector Cell 24 :=
  Vector.ofFn (fun c => s.cellContent row c.val)

/-- The cell memory follows the menu controller's state and the blocks it shows (R173, R174): 10 rows of 24 columns, row by row. -/
def State.refreshCells (s : State) : State :=
  { s with ovg := { s.ovg with cells := Vector.ofFn (fun i => s.cellContent (i.val / 24) (i.val % 24)) } }

end Sys2Proof.Machine
end

