-- ==== Sys2Proof/Machine/Drawing.lean ====
section
/-!
DEFINITION. The overlay generator: line starts and the line count (R165), the drawing decision (R164), dot and line placement (R166).
-/

namespace Sys2Proof.Machine

/-- Lines per field of the reference, floor(HL / 2) (R166). -/
def State.referenceLines (s : State) : Nat :=
  match s.tmu.reference with
  | some r => r.hl / 2
  | none => 0

/-- The glyph line of the grid, 10r + y, that field line `n` shows, if the grid reaches it (R166, Rows): n = V0 + s(10r + y) + j. -/
def gridLine (o : OverlayConfig) (n : Nat) : Option Nat :=
  if n < o.v0 then none
  else if (n - o.v0) / o.scale < 100 then some ((n - o.v0) / o.scale)
  else none

/-- The decision of a line start: the switch is closed, the menu is not CLOSED or the notice line is not blank, and the reference is
present (R164). -/
def State.drawsLine (s : State) : Bool :=
  s.osw.video == .isClosed && (s.mnu.state != .closed || s.noticeLine.isSome) && s.tmu.reference.isSome

/-- What field line `n` draws: the row's cells as they are at this moment, and the glyph line. Lines 0, 1 and 2, and lines of
floor(HL / 2) or more, are clipped (R164, R166). -/
def State.rowDrawn (s : State) (n fieldLines : Nat) : Option DrawnRow :=
  match s.quantities.overlay, s.tmu.reference with
  | some o, some r =>
    if n < 3 ∨ fieldLines ≤ n then none
    else (gridLine o n).map (fun g => { l16 := r.l16, glyphLine := Fin.ofNat 10 (g % 10), cells := s.rowContent (g / 10) })
  | _, _ => none

/-- Line `n` begins at `start`: the count, the decision and what it draws (R164, R165). -/
def State.beginLine (s : State) (n : Nat) (start : Moment) (fieldLines : Nat) : State :=
  { s with ovg := { s.ovg with
    count := some { n := n, start := start, fieldLines := fieldLines }
    draw := s.drawsLine
    row := if s.drawsLine then s.rowDrawn n fieldLines else none } }

/-- A field start of the source in use: line 0 begins (R165). While the switch is open nothing is counted. -/
def State.overlayFieldStart (s : State) (start : Moment) : State :=
  match s.osw.video with
  | .isClosed => s.beginLine 0 start s.referenceLines
  | .isOpen => s

/-- A later line start of the source in use; none is counted before the first field start (R165). -/
def State.overlayLineStart (s : State) (start : Moment) : State :=
  match s.osw.video, s.ovg.count with
  | .isClosed, some c => s.beginLine (satInc 1023 c.n) start c.fieldLines
  | _, _ => s

/-- A leading edge of the board's logic sync is a line start while the source is BOARD, if it lies at least floor(3 × L16 / 64) ticks
after the previous line start (R165). -/
def State.overlayBoardEdge (s : State) (lead : Moment) : State :=
  match s.osw.source, s.ovg.count, s.tmu.reference with
  | .board, some c, some r =>
    if 3 * r.l16 / 64 ≤ ticksBetween lead c.start then s.overlayLineStart lead else s
  | _, _, _ => s

/-- A FIELD START while the source is BOARD (R165). -/
def State.overlayBoardField (s : State) (lead : Moment) : State :=
  match s.osw.source with
  | .board => s.overlayFieldStart lead
  | .fill => s

/-- The overlay counts nothing and draws nothing while the switch is open; at a closing the count waits for the next field start
(R164, R165). -/
def State.overlayStop (s : State) : State :=
  { s with ovg := { s.ovg with count := none, draw := false, row := none } }

/-! ## What the dots show (R164, R166) -/

/-- The tick after the line start at which overlay dot `k` begins: floor(k × L16 / (16 × D)) (R166). -/
def dotStart (l16 dots k : Nat) : Nat :=
  k * l16 / (16 * dots)

/-- The overlay dot in progress `t` ticks after the line start, the last that has begun: none from floor(L16 / 16) ticks on, where dot
D - 1 ends (R166). -/
def dotAt (l16 dots t : Nat) : Option Nat :=
  if t < l16 / 16 then some (((t + 1) * (16 * dots) - 1) / l16) else none

/-- What an overlay dot puts on bus RGB: nothing of its own, black, or a colour (R164). -/
inductive DotOutput where
  | picture
  | black
  | colour (c : Fin 8)
  deriving DecidableEq, Repr

/-- What overlay dot `k` of the line in progress puts on bus RGB: glyph dot x of column c falls on k = H0 + 8c + x, and dots of D or
more are clipped (R164, R166). -/
def State.dotOutput (s : State) (k : Nat) : DotOutput :=
  match s.ovg.row, s.quantities.overlay with
  | some row, some o =>
    if s.ovg.draw = false ∨ k < o.h0 ∨ o.dots ≤ k then .picture
    else
      match row.cells[(k - o.h0) / 8]? with
      | some cell =>
        if glyphDot cell.glyph (Fin.ofNat 8 ((k - o.h0) % 8)) row.glyphLine then .colour cell.colour
        else if cell.background then .black
        else .picture
      | none => .picture
  | _, _ => .picture

end Sys2Proof.Machine
end

