-- ==== Sys2Proof/Machine/Output.lean ====
section
/-!
DEFINITION. The output switch and the fill sync generator: closing and opening (R56, R97), fill fields and lines (R59, R60), cutover
(R57), return (R58), and the contention check (R110).
-/

namespace Sys2Proof.Machine

/-! ## Fill fields -/

/-- The number of lines of a fill field: HL / 2, or for an odd HL floor(HL / 2) and one more in turn (R60). -/
def fillLines (hl : Nat) (longer : Bool) : Nat :=
  if hl % 2 = 0 then hl / 2 else hl / 2 + longer.toNat

/-- The tick after the field start at which line `n` begins: floor(n × L16 / 16) (R59). -/
def fillLineOffset (l16 n : Nat) : Nat :=
  n * l16 / 16

/-- A fill field begins: the figures of the reference are taken, the vertical pulse begins, and the overlay counts from it (R59, R60).
Without a reference the generator has no figures and produces nothing (R37). -/
def State.beginFillField (s : State) (start : Moment) (longer : Bool) : State :=
  match s.tmu.reference with
  | some r =>
    { s with fsg := { s.fsg with
        start := some start, line := 0, longer := longer, figures := some r, sync := .syncActive } }.overlayFieldStart start
  | none =>
    { s with fsg := { s.fsg with start := some start, line := 0, longer := longer, figures := none, sync := .rest } }

/-- The source becomes FILL: the active flag is set, bus RGB is forced to black, and the first fill field begins (R56, R57). Its field
has floor(HL / 2) lines (R60). -/
def State.startFill (s : State) (start : Moment) : State :=
  { s with
    osw := { s.osw with source := .fill, fillBlack := true, armed := none }
    fsg := { s.fsg with active := true } }.beginFillField start false

/-- The generator stops and its active flag is cleared (R56, R58). What its other items hold while it is stopped is the model's choice:
no start, line 0, no figures, the fill sync at rest, and the parity as it was (assumption log 39). -/
def FillGenerator.stopped (f : FillGenerator) : FillGenerator :=
  { f with active := false, start := none, line := 0, figures := none, sync := .rest }

/-- When the next fill line starts, while the field has one (R59). -/
def State.fillLineDue (s : State) : Option Moment :=
  match s.fsg.active, s.fsg.start, s.fsg.figures with
  | true, some start, some f =>
    if s.fsg.line + 1 < fillLines f.hl s.fsg.longer then some (start + fillLineOffset f.l16 (s.fsg.line + 1)) else none
  | _, _, _ => none

/-- When the next fill field starts, once the last line of this one has begun (R59). -/
def State.fillFieldDue (s : State) : Option Moment :=
  match s.fsg.active, s.fsg.start, s.fsg.figures with
  | true, some start, some f =>
    if fillLines f.hl s.fsg.longer ≤ s.fsg.line + 1 then
      some (start + fillLineOffset f.l16 (fillLines f.hl s.fsg.longer))
    else none
  | _, _, _ => none

/-- When the fill line pulse in progress ends: W ticks after its leading edge, on lines 4 onward (R59). -/
def State.fillPulseDue (s : State) : Option Moment :=
  match s.fsg.active, s.fsg.start, s.fsg.figures with
  | true, some start, some f =>
    if 4 ≤ s.fsg.line ∧ s.fsg.sync = .syncActive then some (start + fillLineOffset f.l16 s.fsg.line + f.w) else none
  | _, _, _ => none

/-! ## The contention check (R110) -/

/-- Own line edges are kept for 512 ticks (R110). -/
def keptEdges (now : Moment) (edges : List Moment) : List Moment :=
  edges.filter (fun e => decide (now ≤ e + 512))

/-- An own line edge at `lead`, while the switch is closed (R110). -/
def State.ownEdge (s : State) (lead : Moment) : State :=
  match s.osw.video with
  | .isClosed => { s with osw := { s.osw with ownEdges := keptEdges s.now s.osw.ownEdges ++ [lead] } }
  | .isOpen => s

/-- An own line edge of the board's sync: while the source is BOARD (R110). -/
def State.ownBoardEdge (s : State) (lead : Moment) : State :=
  match s.osw.source with
  | .board => s.ownEdge lead
  | .fill => s

/-- Matched: some own line edge lies within 24 ticks of `b`, before or after it (R110). -/
def busLineMatched (own : List Moment) (b : Moment) : Bool :=
  own.any (fun e => decide (ticksBetween e b ≤ 24) || decide (ticksBetween b e ≤ 24))

/-- How long after its leading edge a bus line is judged (R110). -/
def judgeDelay : Nat := 420

/-- A mismatched bus line at `b` belongs to the same line as the counted one if it lies less than floor(L16 / 32) ticks after it
(R110). -/
def sameLine (l16 : Nat) (counted : Option Moment) (b : Moment) : Bool :=
  match counted with
  | some c => decide (ticksBetween b c < l16 / 32)
  | none => false

/-- The check with nothing kept: at node reset, at an opening and at a closing (R110). -/
def OutputSwitch.forget (o : OutputSwitch) : OutputSwitch :=
  { o with ownEdges := [], awaiting := [], mismatches := 0, counted := none }

/-! ## The switches -/

/-- The video switch closes, and the source is chosen from the board state: BOARD if READY, otherwise FILL from this moment (R56,
R97). The overlay count begins at the next field start (R165). -/
def State.closeVideo (s : State) : State :=
  let s := { s with
    osw := { s.osw.forget with video := .isClosed, source := .board, fillBlack := false, armed := none }
    fsg := s.fsg.stopped
    bus := { s.bus with pulse := none } }.overlayStop
  match s.bsv.board with
  | .ready => s
  | _ => s.startFill s.now

/-- The video switch opens: the bus is disconnected, fill stops, a pending return is forgotten, and what the contention check and the
bus classifier held is dropped (R18, R56, R110, R164). That the source of an open switch is BOARD is the model's choice (assumption
log 39). -/
def State.openVideo (s : State) : State :=
  { s with
    osw := { s.osw.forget with video := .isOpen, source := .board, fillBlack := false, armed := none }
    fsg := s.fsg.stopped
    bus := { s.bus with pulse := none } }.overlayStop

/-- The switches follow the role (R97). -/
def State.switchesFollow (s : State) (role : Role) : State :=
  let s := match holdsScreen role, s.osw.video with
    | true, .isOpen => s.closeVideo
    | false, .isClosed => s.openVideo
    | _, _ => s
  { s with osw := { s.osw with
    audio := match role with
      | .holding => .isClosed
      | .offering => .isClosed
      | _ => .isOpen
    passBlack := decide (role = .passing) } }

/-- When the first fill field of a cutover begins: at the leading edge of the FIELD START in whose taking the board entered SETTLING or
OFF_WINDOW, and at this moment for every other state (R57). -/
def State.cutoverStart (s : State) (board : BoardState) (field : Option Moment) : Moment :=
  match board with
  | .settling => field.getD s.now
  | .offWindow => field.getD s.now
  | .vacant => s.now
  | .resetting => s.now
  | .ready => s.now
  | .stalled => s.now
  | .failed => s.now

/-- A change of board state under source BOARD: leaving READY turns the source to FILL (R57). -/
def State.cutover (s : State) (board : BoardState) (field : Option Moment) : State :=
  if board = .ready then s else s.startFill (s.cutoverStart board field)

/-- A change of board state under source FILL: an entry to READY arms a return with the FIELD START that caused it, leaving READY forgets
it (R58). -/
def State.armReturn (s : State) (board : BoardState) (field : Option Moment) : State :=
  { s with osw := { s.osw with armed := if board = .ready then field.map stampOf else none } }

/-- A change of board state at the output switch, which acts on it while the video switch is closed (R57, R58). -/
def State.outputBoard (s : State) (board : BoardState) (field : Option Moment) : State :=
  match s.osw.video, s.osw.source with
  | .isOpen, _ => s
  | .isClosed, .board => s.cutover board field
  | .isClosed, .fill => s.armReturn board field

/-- A FIELD START of the board at the output switch: the first whose timestamp differs from the armed one performs the return (R58). -/
def State.outputField (s : State) (lead : Moment) : State :=
  match s.osw.video, s.osw.source, s.osw.armed with
  | .isClosed, .fill, some stamp =>
    if stampOf lead = stamp then s
    else
      { s with
        osw := { s.osw with source := .board, fillBlack := false, armed := none }
        fsg := s.fsg.stopped }
  | _, _, _ => s

/-- The polarity of the sync the node drives: the slicer's for BOARD, that of the fill for FILL (R18, R56). -/
def State.drivenPolarity (s : State) : Polarity :=
  match s.osw.source, s.fsg.figures with
  | .fill, some f => f.polarity
  | _, _ => s.ssl.polarity

end Sys2Proof.Machine
end

