-- ==== Sys2Proof/Machine/RoleOps.lean ====
section
/-!
DEFINITION. A change of role and of holder view, handed to the blocks that follow them (R96), and what the screen protocol engine's own
state loses when a role ends (R98, R104, R107, R115).
-/

namespace Sys2Proof.Machine

/-- Whether a pending request still serves the role (R98, R119): a BID only BIDDING, a SEATED only the roles that hold the screen, an
OFFER only OFFERING, a PASS only PASSING; ANSWER and HELLO are kept. -/
def PendingRequest.serves (r : PendingRequest) (role : Role) : Bool :=
  match r.kind with
  | .bid => role == .bidding
  | .seated => holdsScreen role
  | .offer => role == .offering
  | .pass => role == .passing
  | .answer => true
  | .hello => true

/-- The engine in a new role: the timers and marks that the role does not keep are stopped and cleared (R98, R104, R107, R115). -/
def Spe.enterRole (e : Spe) (role : Role) : Spe :=
  { e with
    role := role
    joinWindow := if role = .startup then e.joinWindow else none
    seatWait := if role = .standby then e.seatWait else none
    bidWindow := if role = .bidding then e.bidWindow else none
    bidSet := if role = .bidding then e.bidSet else []
    requests := e.requests.filter (·.serves role)
    answerTimer := if role = .offering then e.answerTimer else none
    coinQuiet := if role = .passing then e.coinQuiet else none
    quietCap := if role = .passing then e.quietCap else none
    target := if role = .offering ∨ role = .passing then e.target else none
    passIssued := if role = .offering ∨ role = .passing then e.passIssued else false
    frozen := if role = .offering ∨ role = .passing then e.frozen else none
    passTimer := if role = .accepted then e.passTimer else none
    accepted := if role = .accepted then e.accepted else none }

/-- The blocks that a role is handed to act on it: output switch, coin unit, control mapper, menu controller (R96). The overlay
generator and ST0 read the role and the menu themselves. -/
def State.handRole (s : State) (role : Role) : State :=
  (((s.switchesFollow role).coinRole role).mapperDecides).menuRole role

/-- A change of role: the engine enters it and hands it on (R96). Entering the role it is in is no change. -/
def State.setRole (s : State) (role : Role) : State :=
  if s.spe.role = role then s
  else { s with spe := s.spe.enterRole role }.handRole role

/-- A change of holder view, handed to the coin unit (R96). -/
def State.setView (s : State) (view : Option Rank) : State :=
  { s with spe := { s.spe with view := view } }.decideCblk

end Sys2Proof.Machine
end

