-- ==== Sys2Proof/Machine/Report.lean ====
section
/-!
DEFINITION. Reports of transmitted frames at the screen protocol engine (R89, R105, R118, R121, R126, R127, R133) and the ends of a
handover at the holder.
-/

namespace Sys2Proof.Machine

/-- The reports (R69). -/
inductive Report where
  | delivered
  | undelivered
  | unheard
  deriving DecidableEq, Repr

/-- The bid window: 50 ms (R104). -/
def bidWindowTime : Nat := ms 50

/-- The pass timer: 1000 ms (R115). -/
def passTime : Nat := ms 1000

/-- A holder's handover is over and it returns to HOLDING; the menu is told the reason (R120, R121, R133, R134). -/
def State.offerFails (s : State) (reason : Notice) : State :=
  (s.setRole .holding).menuHandoverFailed reason

/-- The first steps of a failure in PASSING: the coin quiet timer stops, a pending PASS is dropped, mark, frozen counts and target are
cleared, and the coin unit is told (R127). -/
def State.passFails (s : State) : State :=
  { s with spe := { s.spe with
      coinQuiet := none, quietCap := none, passIssued := false, frozen := none, target := none
      requests := s.spe.requests.filter (fun r => r.kind != FrameKind.pass) } }.coinFailed

/-- The handover fails at the holder, which returns to HOLDING (R127). -/
def State.handoverFails (s : State) (reason : Notice) : State :=
  s.passFails.offerFails reason

/-- The handover is complete at the holder: STANDBY naming the target, the coin unit told, the menu told (R126). -/
def State.handoverCompletes (s : State) (t : Rank) : State :=
  ((({ s with spe := { s.spe with view := some t } }).setRole .standby).coinDelivered).menuHandoverComplete

/-- What a report does to the roster: an addressed frame alone has an effect (R89). -/
def State.rosterReport (s : State) (rep : Report) (f : Frame) : State :=
  match f.target, rep with
  | .rank r, .delivered => s.rosterPresent r
  | .rank r, .undelivered => s.rosterSilent r
  | _, _ => s

/-- The report of the HELLO that LINE CLEAR enqueued clears line recovering (R133). -/
def State.recoveryReport (s : State) (f : Frame) : State :=
  match f.body with
  | .hello _ true _ _ _ _ =>
    if s.spe.recoveryHello then { s with spe := { s.spe with recovering := false, recoveryHello := false } } else s
  | _ => s

/-- What a report does by role: the own BID in BIDDING (R105), the OFFER of this handover in OFFERING (R121), its PASS in PASSING
(R126, R127), an ANSWER YES with the accepted number in ACCEPTED (R118). Every other report acts on the roster alone. -/
def State.roleReport (s : State) (rep : Report) (f : Frame) : State :=
  match s.spe.role, f.body with
  | .bidding, .bid _ => { s with spe := { s.spe with bidWindow := s.after bidWindowTime } }
  | .offering, .offer n =>
    if rep = .undelivered ∧ n = s.spe.number ∧ f.target = (s.spe.target.map Target.rank).getD .all then
      s.offerFails .noAnswer
    else s
  | .passing, .pass n _ _ =>
    match s.spe.target with
    | some t =>
      if n = s.spe.number ∧ f.target = .rank t then
        match rep with
        | .delivered => s.handoverCompletes t
        | .undelivered => s.handoverFails .switchFailed
        | .unheard => s
      else s
    | none => s
  | .accepted, .answer n true _ _ =>
    match s.spe.accepted with
    | some key => if n = key.number then { s with spe := { s.spe with passTimer := s.after passTime } } else s
    | none => s
  | _, _ => s

/-- A report handed to the screen protocol engine: the roster first, then the protocol (R85, R89). -/
def State.report (s : State) (rep : Report) (f : Frame) : State :=
  ((s.rosterReport rep f).recoveryReport f).roleReport rep f

/-- The report of a frame that was not delivered: UNDELIVERED if addressed, UNHEARD if broadcast (R69, R79, R80). -/
def failedReport (f : Frame) : Report :=
  if f.addressed then .undelivered else .unheard

end Sys2Proof.Machine
end

