-- ==== Sys2Proof/Machine/Send.lean ====
section
/-!
DEFINITION. Sending at the screen protocol engine: building frames (R90, R98, R119), enqueueing with pending requests (R98), SPACE, and
the reports of the line controller that free the queue (R69, R77, R79).
-/

namespace Sys2Proof.Machine

/-- The frame of a request, built from the state at this moment (R90, R98, R119). -/
def State.buildBody (s : State) (r : PendingRequest) : Body :=
  match r.kind with
  | .bid => .bid s.bsv.board
  | .seated => .seated
  | .offer => .offer s.spe.number
  | .pass => .pass s.spe.number ((s.spe.frozen.getD (0, 0)).1) ((s.spe.frozen.getD (0, 0)).2)
  | .answer =>
    match r.target with
    | .rank k =>
      match s.spe.answers[k] with
      | some a => .answer a.number a.yes a.reason s.bsv.board
      | none => .answer 0 false .none s.bsv.board
    | .all => .answer 0 false .none s.bsv.board
  | .hello =>
    .hello (holdsScreen s.spe.role) r.reply s.bsv.board
      ((s.tmu.current.map (·.sig.l16)).getD 0) ((s.tmu.current.map (·.sig.hl)).getD 0) s.quantities.title

/-- The frame of a request. -/
def State.buildFrame (s : State) (r : PendingRequest) : Frame :=
  { target := r.target, body := s.buildBody r }

/-- How the line controller would answer the enqueue of a request now. -/
def State.answerTo (s : State) (r : PendingRequest) : EnqueueAnswer :=
  s.lct.answerTo (s.buildFrame r)

/-- The frame of a request is enqueued; while the stuck flag is set it is reported at once (R76, R80). -/
def State.tryEnqueue (s : State) (r : PendingRequest) : State :=
  let f := s.buildFrame r
  match s.answerTo r with
  | .reported => s.report (failedReport f) f
  | _ => { s with lct := s.lct.enqueue s.now f }

/-- A refused request is recorded, once for each kind and target, in order of refusal (R98). -/
def Spe.recordRequest (e : Spe) (r : PendingRequest) : Spe :=
  if e.requests.any (fun q => q.kind == r.kind && q.target == r.target) then e
  else { e with requests := e.requests ++ [r] }

/-- The engine sends a frame: it is enqueued, or recorded as a pending request where it is refused (R98). -/
def State.send (s : State) (r : PendingRequest) : State :=
  match s.answerTo r with
  | .refused => { s with spe := s.spe.recordRequest r }
  | _ => s.tryEnqueue r

/-- A request is cleared (R98). -/
def Spe.clearRequest (e : Spe) (r : PendingRequest) : Spe :=
  { e with requests := e.requests.filter (fun q => q != r) }

/-- The pending requests in order, each enqueued and cleared, up to the first that is refused; one that was dropped meanwhile is not
sent (R98). -/
def State.drainRequests (s : State) : List PendingRequest → State
  | [] => s
  | r :: rest =>
    if r ∈ s.spe.requests then
      match s.answerTo r with
      | .refused => s
      | _ => ({ s with spe := s.spe.clearRequest r }.tryEnqueue r).drainRequests rest
    else s.drainRequests rest

/-- SPACE handed to the screen protocol engine (R77, R98). -/
def State.space (s : State) : State :=
  s.drainRequests s.spe.requests

/-- The head of the transmit queue is reported and leaves it; a report that takes the queue from four frames to three is followed by
SPACE (R69, R77). -/
def State.reportHead (s : State) (rep : Report) : State :=
  match s.lct.txq with
  | [] => s
  | f :: _ =>
    let reported := { s with lct := s.lct.dropHead }.report rep f
    if s.lct.txq.length = queueLimit then reported.space else reported

/-- The queue's frames are reported in order: addressed UNDELIVERED, broadcast UNHEARD (R79). -/
def State.reportAll (s : State) : List Frame → State
  | [] => s
  | f :: rest => (s.report (failedReport f) f).reportAll rest

/-- The requests the engine makes. -/
def helloRequest (reply : Bool) : PendingRequest := { kind := .hello, target := .all, reply := reply }
def bidRequest : PendingRequest := { kind := .bid, target := .all, reply := false }
def seatedRequest : PendingRequest := { kind := .seated, target := .all, reply := false }
def offerRequest (t : Rank) : PendingRequest := { kind := .offer, target := .rank t, reply := false }
def answerRequest (h : Rank) : PendingRequest := { kind := .answer, target := .rank h, reply := false }
def passRequest (t : Rank) : PendingRequest := { kind := .pass, target := .rank t, reply := false }

end Sys2Proof.Machine
end

