-- ==== Sys2Proof/Machine/Screen.lean ====
section
/-!
DEFINITION. The screen protocol engine: the bid check and bidding (R102 to R107), claims and releases (R100, R103, R105, R109, R122),
withdrawal (R101), the bus events (R100, R103), PICK (R116), answers to offers (R117, R118), and the changes of board state handed to
it (R91, R102).
-/

namespace Sys2Proof.Machine

/-- The join window: 300 ms (R99). -/
def joinTime : Nat := ms 300

/-- The seat wait: 200 ms (R106). -/
def seatWaitTime : Nat := ms 200

/-- The answer timer: 250 ms (R115). -/
def answerTime : Nat := ms 250

/-- The coin quiet timer: 150 ms (R123). -/
def quietTime : Nat := ms 150

/-- The coin quiet cap: 800 ms after entry to PASSING (R123). -/
def quietCapTime : Nat := ms 800

/-- A rank joins a bid set if absent (R104). -/
def joinBidSet (set : List Rank) (r : Rank) : List Rank :=
  if r ∈ set then set else set ++ [r]

/-- The node begins to bid: BIDDING with view NONE, the bid set its own rank and that of the BID it joins, BID enqueued, the bid window
of 50 ms (R104). -/
def State.beginBid (s : State) (joined : Option Rank) : State :=
  let s := ({ s with spe := { s.spe with view := none } }).setRole .bidding
  let set := match joined with
    | some r => joinBidSet [s.rank] r
    | none => [s.rank]
  let s := { s with spe := { s.spe with bidSet := set } }.send bidRequest
  { s with spe := { s.spe with bidWindow := s.after bidWindowTime } }

/-- Whether the bid check passes (R102). -/
def State.bidCheckPasses (s : State) : Bool :=
  s.spe.role == .standby && s.spe.view.isNone && s.bsv.board == .ready && !s.lct.stuck && s.spe.seatWait.isNone

/-- The bid check (R102). -/
def State.bidCheck (s : State) : State :=
  if s.bidCheckPasses then s.beginBid none else s

/-- The holder yields to a lower rank: STANDBY naming it, both switches open (R109, R122). -/
def State.yieldTo (s : State) (l : Rank) : State :=
  { s with spe := { s.spe with view := some l } }.setRole .standby

/-- A claim of rank `r`: a SEATED, or a HELLO with the holding flag set (R100, R103, R105, R109, R122, R125, R131). -/
def State.claim (s : State) (r : Rank) : State :=
  match s.spe.role with
  | .startup => s.setView (some r)
  | .standby => { s with spe := { s.spe with seatWait := none } }.setView (some r)
  | .bidding => { s with spe := { s.spe with view := some r } }.setRole .standby
  | .holding => if r < s.rank then s.yieldTo r else s.send seatedRequest
  | .offering => if r < s.rank then s.yieldTo r else s.send seatedRequest
  | .passing => s
  | .accepted => s
  | .withdrawn => s

/-- A HELLO of rank `r` with the holding flag clear (R100, R103, R105, R125). That in ACCEPTED one from the holder leaves the view as it
is, is the model's choice (assumption log 42). -/
def State.release (s : State) (r : Rank) : State :=
  if s.spe.view = some r then
    match s.spe.role with
    | .startup => s.setView none
    | .standby => (s.setView none).bidCheck
    | _ => s
  else s

/-- A BID of rank `r` (R100, R103, R105, R109, R122, R125, R131). -/
def State.bidHeard (s : State) (r : Rank) : State :=
  match s.spe.role with
  | .standby =>
    if s.spe.view.isNone ∧ s.bsv.board = .ready ∧ s.lct.stuck = false then s.beginBid (some r) else s
  | .bidding =>
    { s with spe := { s.spe with bidSet := joinBidSet s.spe.bidSet r, bidWindow := s.after bidWindowTime } }
  | .holding => s.send seatedRequest
  | .offering => s.send seatedRequest
  | .startup => s
  | .passing => s
  | .accepted => s
  | .withdrawn => s

/-- BUS SILENT at the engine (R100, R103, R105, R108, R125, R131). -/
def State.speBusSilent (s : State) : State :=
  match s.spe.role with
  | .startup => s.setView none
  | .standby => (s.setView none).bidCheck
  | _ => s

/-- CONTENTION at the engine: a holder in HOLDING or OFFERING enqueues SEATED (R111, R122, R125). -/
def State.contention (s : State) : State :=
  match s.spe.role with
  | .holding => s.send seatedRequest
  | .offering => s.send seatedRequest
  | _ => s

/-- Entry to WITHDRAWN: MUTE, timers stopped, bid set and pending requests empty, the role handed (R101). -/
def State.withdraw (s : State) (reason : WithdrawalReason) : State :=
  match s.spe.role with
  | .withdrawn => s
  | _ => { s with
      lct := s.lct.muteCommand
      spe := { s.spe with
        withdrawal := some reason, joinWindow := none, bidWindow := none, seatWait := none, bidSet := [], requests := [] } }.setRole
      .withdrawn

/-- RANK CLASH at the engine: a handover in PASSING fails first (R101, R127). -/
def State.speRankClash (s : State) : State :=
  match s.spe.role with
  | .passing => s.passFails.withdraw .rankClash
  | _ => s.withdraw .rankClash

/-- HELLO is enqueued (R90 to R92). -/
def State.sendHello (s : State) (reply : Bool) : State :=
  { s with spe := { s.spe with firstHello := true } }.send (helloRequest reply)

/-- RUNNING at the engine: the first HELLO with reply requested, then the join window (R91, R92, R99). -/
def State.speRunning (s : State) : State :=
  let s := s.sendHello true
  { s with spe := { s.spe with joinWindow := s.after joinTime } }

/-- A change of board state at the engine: a HELLO once the first has been enqueued, then on READY the bid check (R91, R102). -/
def State.speBoard (s : State) (board : BoardState) : State :=
  let s := if s.spe.firstHello ∧ s.spe.role ≠ .withdrawn then s.sendHello false else s
  match board, s.spe.role with
  | .ready, .standby => s.bidCheck
  | _, _ => s

/-- PICK of a peer rank (R116). -/
def State.pick (s : State) (t : Rank) : State :=
  match s.spe.role with
  | .holding =>
    if s.lct.stuck then s.menuHandoverFailed .lineFault
    else
      let s := { s with spe := { s.spe with number := s.spe.number + 1, target := some t } }.setRole .offering
      let s := s.send (offerRequest t)
      { s with spe := { s.spe with answerTimer := s.after answerTime } }
  | _ => s

/-- An answer is decided: its record is written, then ANSWER is enqueued (R117). -/
def State.answerOffer (s : State) (h : Rank) (n : HandoverNumber) (yes : Bool) (reason : AnswerReason) : State :=
  { s with spe := { s.spe with
      answers := s.spe.answers.set h (some { number := n, yes := yes, reason := reason }) } }.send (answerRequest h)

/-- Entering ACCEPTED: the accepted offer, the holder view, the seat wait, the pass timer, the role (R118). -/
def State.enterAccepted (s : State) (h : Rank) (n : HandoverNumber) : State :=
  let s := { s with spe := { s.spe with view := some h, seatWait := none } }.setRole .accepted
  { s with spe := { s.spe with accepted := some { sender := h, number := n }, passTimer := s.after passTime } }

/-- OFFER(n) from rank `h`: the first row of the table that applies (R117). -/
def State.offerHeard (s : State) (h : Rank) (n : HandoverNumber) : State :=
  match s.spe.role with
  | .withdrawn => s
  | .accepted =>
    if s.spe.accepted = some { sender := h, number := n } then
      ({ s with spe := { s.spe with passTimer := s.after passTime } }).answerOffer h n true .none
    else s.answerOffer h n false .busy
  | .standby =>
    if s.bsv.board ≠ .ready then s.answerOffer h n false .notReady
    else if s.spe.recovering then s.answerOffer h n false .lineFault
    else if s.spe.lastPass = some { sender := h, number := n } then s.answerOffer h n false .busy
    else (s.enterAccepted h n).answerOffer h n true .none
  | .startup => s.answerOffer h n false .busy
  | .bidding => s.answerOffer h n false .busy
  | .holding => s.answerOffer h n false .busy
  | .offering => s.answerOffer h n false .busy
  | .passing => s.answerOffer h n false .busy

/-- Entering PASSING: the role is handed, the coin quiet timer starts at 150 ms and its cap is fixed (R123). -/
def State.enterPassing (s : State) : State :=
  let s := s.setRole .passing
  { s with spe := { s.spe with coinQuiet := s.after quietTime, quietCap := s.after quietCapTime } }

/-- The notice of an ANSWER's reason (R120, R134). A NO that carries reason NONE is well formed (R183) and no rule says what the menu
is told of it: which of the three reasons is shown is a free value (assumption log 15). -/
def reasonNotice : AnswerReason → Notice
  | .none =>
    match Config.noticeOfNoReason with
    | 0 => .notReady
    | 1 => .busy
    | 2 => .lineFault
  | .notReady => .notReady
  | .busy => .busy
  | .lineFault => .lineFault

/-- ANSWER at the engine: the decisive one, from the offer target with the current number, in OFFERING (R120). -/
def State.answerHeard (s : State) (r : Rank) (n : HandoverNumber) (yes : Bool) (reason : AnswerReason) : State :=
  match s.spe.role with
  | .offering =>
    if s.spe.target = some r ∧ n = s.spe.number then
      if yes then s.enterPassing else s.offerFails (reasonNotice reason)
    else s
  | _ => s

/-- The target seats on the matching PASS (R128). -/
def State.seatByPass (s : State) (h : Rank) (n : HandoverNumber) (c1 c2 : Nat) : State :=
  let s := { s with spe := { s.spe with
    view := some s.rank, lastPass := some { sender := h, number := n }, accepted := none } }.setRole .holding
  (s.coinSeated c1 c2).send seatedRequest

/-- PASS at the engine: in ACCEPTED with the matching offer the target seats; any other PASS has no effect beyond the roster (R128,
R129). -/
def State.passHeard (s : State) (h : Rank) (n : HandoverNumber) (c1 c2 : Nat) : State :=
  match s.spe.role with
  | .accepted => if s.spe.accepted = some { sender := h, number := n } then s.seatByPass h n c1 c2 else s
  | _ => s

/-- COIN DETECTED at the engine: the coin quiet timer restarts at 150 ms, or at the time left to the cap if that is shorter, until PASS
is issued (R123, R125). -/
def State.coinHeard (s : State) : State :=
  match s.spe.role, s.spe.quietCap with
  | .passing, some cap =>
    if s.spe.passIssued then s
    else { s with spe := { s.spe with coinQuiet := some (min (s.now + quietTime) cap) } }
  | _, _ => s

/-- PASS is issued: the carried counts are frozen, PASS issued is marked, PASS is enqueued (R124). -/
def State.issuePass (s : State) : State :=
  let frozen := s.cnu.carriedCounts
  let s := { s.coinFreeze with spe := { s.spe with coinQuiet := none, frozen := some frozen, passIssued := true } }
  match s.spe.target with
  | some t => s.send (passRequest t)
  | none => s

/-- The holder view of a target that leaves ACCEPTED without a PASS: kept while the bus is LIVE, NONE while it is SILENT (R132). -/
def State.viewFromBus (s : State) : Option Rank :=
  match s.bus.silence with
  | .live => s.spe.view
  | .silent => none

/-- A target leaves ACCEPTED for STANDBY, its view set from the bus (R132, R133). -/
def State.leaveAccepted (s : State) : State :=
  { s with spe := { s.spe with view := s.viewFromBus } }.setRole .standby

/-- LINE STUCK at the engine, by role; line recovering is set in every role but WITHDRAWN (R112, R133). -/
def State.speLineStuck (s : State) : State :=
  match s.spe.role with
  | .withdrawn => s
  | role =>
    let s := { s with spe := { s.spe with recovering := true, recoveryHello := false } }
    match role with
    | .bidding => { s with spe := { s.spe with view := none } }.setRole .standby
    | .offering => s.offerFails .lineFault
    | .passing => s.handoverFails .lineFault
    | .accepted => s.leaveAccepted
    | _ => s

/-- LINE CLEAR at the engine: the HELLO with reply requested, then in STANDBY the bid check (R91, R113). -/
def State.speLineClear (s : State) : State :=
  match s.spe.role with
  | .withdrawn => s
  | _ =>
    let s := { s with spe := { s.spe with recoveryHello := true } }.sendHello true
    s.bidCheck

end Sys2Proof.Machine
end

