-- ==== Sys2Proof/Machine/Board.lean ====
section
/-!
DEFINITION. The board supervisor: changes of board state and their handing on (R40), the start after node reset (R42), the transitions
(R43 to R53) and RESET BOARD (R54); and the taking of FIELD START, RESUME and STALL by the blocks they go to (R13 to R15).
-/

namespace Sys2Proof.Machine

/-- The stall grace: 2 s (R40). -/
def stallGraceTime : Nat := ms 2000

/-- The supervisor in a board state: BRST is asserted in RESETTING alone, the state's own timer starts, and any other stops (R40). -/
def Supervisor.enter (b : Supervisor) (now : Moment) (q : Quantities) (board : BoardState) : Supervisor :=
  { b with
    board := board
    brst := decide (board = .resetting)
    resetHold := if board = .resetting then some (now + ms q.resetHoldMs) else none
    bootLimit := if board = .settling then some (now + ms (1000 * q.bootLimitS)) else none
    stallGrace := if board = .stalled then some (now + stallGraceTime) else none }

/-- A board state handed to the screen protocol engine, the coin unit, the control mapper, the output switch and the menu controller,
in the order of R40; ST1 reads it itself. `field` is the leading edge of the FIELD START that caused the change, if one did. -/
def State.handBoard (s : State) (board : BoardState) (field : Option Moment) : State :=
  ((((s.speBoard board).coinBoard board).mapperDecides).outputBoard board field).menuBoard board

/-- A change of board state: the entry, then the handing on (R40; assumption log 11). -/
def State.enterBoard (s : State) (board : BoardState) (field : Option Moment) : State :=
  { s with bsv := s.bsv.enter s.now s.quantities board }.handBoard board field

/-- An entry to the board state that CLEAR accompanies (R24): VACANT, RESETTING, and SETTLING from RESETTING. CLEAR is issued before
the state is handed on (assumption log 11). -/
def State.enterBoardCleared (s : State) (board : BoardState) : State :=
  s.clearTmu.enterBoard board none

/-- The attempt count becomes `n`. -/
def State.setAttempts (s : State) (n : Nat) : State :=
  { s with bsv := { s.bsv with attempts := n } }

/-- Entering VACANT (R43). -/
def State.enterVacant (s : State) : State :=
  (s.setAttempts 0).enterBoardCleared .vacant

/-- Whether the load has ended (R179). -/
def State.loadIsOver (s : State) : Bool :=
  match s.cfl.load with
  | .endedValid => true
  | .endedInvalid => true
  | _ => false

/-- The load period ends once the load has ended and the presence filter has decided: an absent board enters VACANT, for a present one
the reset hold timer starts (R42). -/
def State.endLoadPeriod (s : State) : State :=
  if s.bsv.loadPeriod ∧ s.loadIsOver ∧ s.bsv.decided then
    let s := { s with bsv := { s.bsv with loadPeriod := false } }
    if s.bsv.present then
      { s with bsv := { s.bsv with resetHold := s.after (ms s.quantities.resetHoldMs) } }
    else s.enterVacant
  else s

/-- PRESENT at the supervisor (R42, R44). -/
def State.boardPresent (s : State) : State :=
  let s := { s with bsv := { s.bsv with present := true, decided := true } }
  if s.bsv.loadPeriod then s.endLoadPeriod
  else
    match s.bsv.board with
    | .vacant => s.enterBoardCleared .resetting
    | _ => s

/-- ABSENT at the supervisor (R42, R43). -/
def State.boardAbsent (s : State) : State :=
  let s := { s with bsv := { s.bsv with present := false } }
  if s.bsv.loadPeriod then s
  else
    match s.bsv.board with
    | .vacant => s
    | _ => s.enterVacant

/-- The presence filter's first decision (R42). -/
def State.firstDecision (s : State) : State :=
  { s with bsv := { s.bsv with decided := true } }.endLoadPeriod

/-- Whether a verdict takes the board to READY: IN in SETTLING or OFF_WINDOW (R46, R49). -/
def settlesReady (board : BoardState) (verdict : Verdict) : Bool :=
  verdict == .inWindow && (board == .settling || board == .offWindow)

/-- Whether a verdict takes the board to OFF_WINDOW: OUT in SETTLING or READY (R46, R48). -/
def leavesWindow (board : BoardState) (verdict : Verdict) : Bool :=
  verdict == .outOfWindow && (board == .settling || board == .ready)

/-- The latched fault OFF WINDOW is set (R46, R48, R49). -/
def State.latchOffWindow (s : State) : State :=
  { s with bsv := { s.bsv with offWindow := true } }

/-- NEW SIGNATURE at the supervisor (R46, R48 to R51, R53). A board that stays in OFF_WINDOW with verdict OUT sets the latch again
(R49). -/
def State.boardSignature (s : State) (verdict : Verdict) (field : Moment) : State :=
  if settlesReady s.bsv.board verdict then (s.setAttempts 0).enterBoard .ready (some field)
  else if leavesWindow s.bsv.board verdict then s.latchOffWindow.enterBoard .offWindow (some field)
  else if s.bsv.board = .offWindow ∧ verdict = .outOfWindow then s.latchOffWindow
  else s

/-- DRIFT at the supervisor: a READY board returns to SETTLING, without CLEAR (R48). -/
def State.boardDrift (s : State) (field : Moment) : State :=
  match s.bsv.board with
  | .ready => s.enterBoard .settling (some field)
  | _ => s

/-- STALL at the supervisor (R50). -/
def State.boardStall (s : State) : State :=
  match s.bsv.board with
  | .settling => s.enterBoard .stalled none
  | .ready => s.enterBoard .stalled none
  | .offWindow => s.enterBoard .stalled none
  | _ => s

/-- RESUME at the supervisor: a STALLED board enters SETTLING, without CLEAR (R51). -/
def State.boardResume (s : State) : State :=
  match s.bsv.board with
  | .stalled => s.enterBoard .settling none
  | _ => s

/-- The grace expiry in STALLED: an automatic reset, or FAILED (R52). -/
def State.graceExpires (s : State) : State :=
  if s.quantities.autoRecovery ∧ s.bsv.attempts < 3 then
    (s.setAttempts (s.bsv.attempts + 1)).enterBoardCleared .resetting
  else { s with bsv := { s.bsv with boardFailed := true } }.enterBoard .failed none

/-- RESET BOARD (R54). In RESETTING with the reset hold running nothing is handed and no CLEAR is issued. -/
def State.resetBoard (s : State) : State :=
  match s.bsv.board with
  | .vacant => s
  | .resetting =>
    match s.bsv.resetHold with
    | some _ =>
      { s with bsv := { s.bsv with attempts := 0, resetHold := s.after (ms s.quantities.resetHoldMs) } }
    | none => s.setAttempts 0
  | _ => (s.setAttempts 0).enterBoardCleared .resetting

/-! ## FIELD START, RESUME and STALL at the blocks they go to -/

/-- What the measurement unit raises at a FIELD START, taken by the supervisor (R46, R48). -/
def State.boardTmuEvent (s : State) (e : Option TmuEvent) (field : Moment) : State :=
  match e with
  | some (.newSignature v) => s.boardSignature v field
  | some .drift => s.boardDrift field
  | none => s

/-- FIELD START: to the measurement unit, whose signature or DRIFT goes to the supervisor, to the output switch and to the overlay
generator; the classifier zeroes its counts and restarts the field age from this leading edge (R12, R13, R20; assumption log 34). The
field age handed is counted from leading edge to leading edge (R27). -/
def State.fieldStart (s : State) (lead : Moment) : State :=
  let q := s.quantities
  let odd := s.pcl.oddCount
  let age := saturatedAge (lead - s.pcl.ageFrom.getD lead)
  let raised := s.tmu.fieldStartRaises q odd age s.ssl.polarity
  let s := { s with
    pcl := { s.pcl with lineCount := 0, oddCount := 0, ageFrom := some lead }
    tmu := s.tmu.fieldStartTaken q s.bsv.board (stampOf lead) odd age s.ssl.polarity }
  ((s.boardTmuEvent raised lead).outputField lead).overlayBoardField lead

/-- A pulse decided BROAD: FIELD START with a line count of 8 or more, otherwise nothing (R11, R13). -/
def State.broad (s : State) (lead : Moment) : State :=
  if 8 ≤ s.pcl.lineCount then s.fieldStart lead else s

/-- RESUME at the measurement unit and the supervisor (R15, R23, R51). -/
def State.resume (s : State) : State :=
  { s with tmu := s.tmu.resume }.boardResume

/-- STALL at the measurement unit and the supervisor, and through it at the output switch (R14, R23, R50, R57). -/
def State.stalled (s : State) : State :=
  { s with tmu := s.tmu.stall }.boardStall

/-! ## LOAD END (R181) -/

/-- LOAD END at every block, in the order of R181: slicer, measurement unit, supervisor, line controller, screen protocol engine, coin
unit, control mapper, overlay and menu. The quantities are taken first. -/
def State.loadEnd (s : State) (copy : Option (List Byte)) : State :=
  let s := { s with
    cfg := some (match copy with
      | some b => blockQuantities b
      | none => defaultQuantities)
    cfl := { s.cfl with
      load := if copy.isSome then .endedValid else .endedInvalid, pause := none, copy := copy, port := .released
      loadEnded := some s.now } }
  let s := s.slicerLoadEnd.endLoadPeriod
  let s := { s with lct := s.lct.loadEnd s.now copy.isSome }
  let s := if copy.isSome then s.speRunning else s.withdraw .noConfig
  s.coinLoadEnd.mapperLoadEnd

end Sys2Proof.Machine
end

