-- ==== Sys2Proof/Machine/Flags.lean ====
section
/-!
DEFINITION. Latched faults and what shows them: the fault condition, CLEAR FAULTS (R176), the status lamps (R182), and the end of
every command, at which cells and lamps follow the state.
-/

namespace Sys2Proof.Machine

/-- Whether any latched fault that lights ST2 is set (R182). -/
def State.anyFault (s : State) : Bool :=
  s.ssl.lowSwing || s.ssl.highSwing || s.bsv.offWindow || s.bsv.boardFailed || s.lct.lineStuck || s.lct.rankClash ||
    s.cnu.one.jam || s.cnu.two.jam || s.cnu.overflow || s.cnu.lateCoins

/-- CLEAR FAULTS at the four blocks that keep latched faults (R176). LINE STUCK stays set while the stuck flag is; RANK CLASH is not
cleared. -/
def State.clearFaults (s : State) : State :=
  { s with
    ssl := { s.ssl with lowSwing := false, highSwing := false }
    bsv := { s.bsv with offWindow := false, boardFailed := false }
    lct := { s.lct with lineStuck := s.lct.lineStuck && s.lct.stuck, clash := 0, checkError := 0, shortFrame := 0, overrun := 0 }
    cnu := { s.cnu with
      one := { s.cnu.one with jam := false }, two := { s.cnu.two with jam := false }, overflow := false, lateCoins := false } }

/-- The pattern of ST0 (R182). During node reset every lamp is dark. -/
def State.st0Pattern (s : State) : LampPattern :=
  match s.cfl.load, s.spe.role with
  | .held, _ => .dark
  | _, .holding => .steady
  | _, .offering => .slow
  | _, .passing => .slow
  | _, .accepted => .slow
  | _, _ => .dark

/-- The pattern of ST1 (R40, R182). -/
def State.st1Pattern (s : State) : LampPattern :=
  match s.cfl.load, s.bsv.board with
  | .held, _ => .dark
  | _, .ready => .steady
  | _, _ => .dark

/-- The pattern of ST2 (R182). -/
def State.st2Pattern (s : State) : LampPattern :=
  match s.cfl.load, s.spe.role, s.spe.withdrawal with
  | .held, _, _ => .dark
  | _, .withdrawn, some .noConfig => .fast
  | _, .withdrawn, some .rankClash => .slow
  | _, _, _ => if s.anyFault then .steady else .dark

/-- The pattern of a lamp. -/
def State.lampPattern (s : State) : StatusLamp → LampPattern
  | .st0 => s.st0Pattern
  | .st1 => s.st1Pattern
  | .st2 => s.st2Pattern

/-- The length of a blink phase: 500 ms slow, 125 ms fast (R182). -/
def blinkPhase : LampPattern → Option Nat
  | .slow => some (ms 500)
  | .fast => some (ms 125)
  | .dark => none
  | .steady => none

/-- A lamp follows its condition: an unchanged pattern goes on in its phase, a changed one starts at once, a blink lit (R182). -/
def Lamp.follow (l : Lamp) (now : Moment) (p : LampPattern) : Lamp :=
  if l.pattern = p then l
  else { pattern := p, lit := decide (p ≠ .dark), phaseEnd := (blinkPhase p).map (now + ·) }

/-- The three lamps follow their conditions (R182). -/
def State.refreshLamps (s : State) : State :=
  { s with lamps :=
    { st0 := s.lamps.st0.follow s.now s.st0Pattern
      st1 := s.lamps.st1.follow s.now s.st1Pattern
      st2 := s.lamps.st2.follow s.now s.st2Pattern } }

/-- What follows the state at the end of every command: the status lamps and the cell memory (assumption log 26). -/
def State.settled (s : State) : State :=
  s.refreshLamps.refreshCells

/-- The outcome of a command: the part goes on (assumption log 3). -/
def done (s : State) : Result :=
  .next s.settled

end Sys2Proof.Machine
end

