-- ==== Sys2Proof/Machine/BoardEvents.lean ====
section
/-!
DEFINITION. The commands of the board supervisor: presence (R41 to R44) and the expiries of its timers (R45, R47, R52).
-/

namespace Sys2Proof.Machine

/-- Whether the presence filter has seen a level long enough: it runs from the end of node reset (R41, R42). -/
def State.presenceSeen (s : State) (held : Nat) : Bool :=
  decide (presenceFilter ≤ s.steadyFor s.cfl.resetEnded held)

/-- PRESENT (R42, R44). -/
def execPresent (dt held : Nat) (s : State) : Result :=
  let s := s.elapse dt
  done (if s.presenceSeen held ∧ s.bsv.present = false then s.boardPresent else s)

/-- ABSENT (R42, R43). -/
def execAbsent (dt held : Nat) (s : State) : Result :=
  let s := s.elapse dt
  done (if s.presenceSeen held ∧ s.bsv.present = true then s.boardAbsent else s)

/-- PRESENCE_FIRST_DECISION (R42). -/
def execPresenceFirstDecision (dt held : Nat) (s : State) : Result :=
  let s := s.elapse dt
  done (if s.presenceSeen held ∧ s.bsv.decided = false then s.firstDecision else s)

/-- RESET_HOLD_EXPIRY (R45): BRST is released, the boot limit starts, CLEAR is issued, SETTLING. -/
def execResetHoldExpiry (s : State) : Result :=
  done (s.onExpiry s.bsv.resetHold (·.enterBoardCleared .settling))

/-- BOOT_LIMIT_EXPIRY (R47): STALLED, and the stall grace timer starts. -/
def execBootLimitExpiry (s : State) : Result :=
  done (s.onExpiry s.bsv.bootLimit (·.enterBoard .stalled none))

/-- STALL_GRACE_EXPIRY (R52). -/
def execStallGraceExpiry (s : State) : Result :=
  done (s.onExpiry s.bsv.stallGrace State.graceExpires)

end Sys2Proof.Machine
end

