-- ==== Sys2Proof/Machine/Bus.lean ====
section
/-!
DEFINITION. The commands of bus sense: bus edges and silence (R17), bus pulses (R18), and the judgement of bus lines (R110, R111).
-/

namespace Sys2Proof.Machine

/-- The silence time: 100 ms, 4,800,000 ticks (R17). -/
def silenceTime : Nat := 4800000

/-- A bus pulse of this width is a bus LINE pulse (R18). -/
def busLineWidth (width : Nat) : Bool :=
  decide (134 ≤ width) && decide (width ≤ 383)

/-- A bus edge at `m` in the bus classifier's pulses, while the video switch is closed: an edge into the sync-active level of the driven
polarity begins a pulse, the next bus edge ends it (R18). -/
def State.busPulse (s : State) (m : Moment) (high : Bool) : State :=
  match s.osw.video, s.bus.pulse with
  | .isOpen, _ => s
  | .isClosed, none =>
    if busActive s.drivenPolarity high then { s with bus := { s.bus with pulse := some m } } else s
  | .isClosed, some lead =>
    { s with
      bus := { s.bus with pulse := none }
      osw := { s.osw with
        awaiting := if busLineWidth (ticksBetween m lead) then s.osw.awaiting ++ [lead] else s.osw.awaiting } }

/-- A bus edge at `m`, to an output that is high or not: LIVE, with the silence timer started or restarted (R17). BUS LIVE has no effect
on the screen protocol engine in any role (R100, R103, R108). -/
def State.busEdge (s : State) (m : Moment) (high : Bool) : State :=
  { s with bus := { s.bus with output := high, silence := .live, silenceTimer := some (m + silenceTime) } }.busPulse m high

/-- How long the bus sense input has held its level since bus sense began to work, at the end of node reset (R17, R178; assumption
log 4). -/
def State.busSteady (s : State) (held : Nat) : Nat :=
  s.steadyFor s.cfl.resetEnded held

/-- Whether the output of the bus-sense slicer has changed and held for the filter's 12 ticks (R17). -/
def State.busChanged (s : State) (held : Nat) (level : Code) : Bool :=
  decide (edgeFilter ≤ s.busSteady held) && busHigh level != s.bus.output

/-- BUS_EDGE (R17, R18): the edge lies at the tick at which the change began. -/
def execBusEdge (dt held : Nat) (level : Code) (s : State) : Result :=
  let s := s.elapse dt
  done (if s.busChanged held level then s.busEdge (s.now - s.busSteady held) (busHigh level) else s)

/-- The silence timer expires: SILENT, and BUS SILENT to the screen protocol engine (R17). -/
def State.busFallsSilent (s : State) : State :=
  { s with bus := { s.bus with silence := .silent, silenceTimer := none } }.speBusSilent

/-- BUS_SILENT (R17). -/
def execBusSilent (s : State) : Result :=
  done (s.onExpiry s.bus.silenceTimer State.busFallsSilent)

/-- A mismatched bus line at `b` with L16 `l16`: counted, unless it belongs to the same line as the last counted one; the eighth in a
row hands CONTENTION (R110, R111). -/
def State.busMismatch (s : State) (l16 : Nat) (b : Moment) : State :=
  if sameLine l16 s.osw.counted b then s
  else if s.osw.mismatches < 7 then
    { s with osw := { s.osw with mismatches := s.osw.mismatches + 1, counted := some b } }
  else { s with osw := { s.osw with mismatches := 0, counted := none } }.contention

/-- A bus line at `b` is judged (R110). While the reference is absent a mismatch is not counted, since its distance cannot be told
(R37; assumption log 23). -/
def State.judgeBusLine (s : State) (b : Moment) : State :=
  if busLineMatched s.osw.ownEdges b then { s with osw := { s.osw with mismatches := 0, counted := none } }
  else
    match s.tmu.reference with
    | some r => s.busMismatch r.l16 b
    | none => s

/-- When the oldest bus line awaiting judgement is judged (R110). -/
def State.busJudgeDue (s : State) : Timer :=
  s.osw.awaiting.head?.map (· + judgeDelay)

/-- The oldest bus line is taken and judged against the own line edges of the last 512 ticks (R110). -/
def State.judgeOldest (s : State) : State :=
  match s.osw.awaiting with
  | b :: rest =>
    { s with osw := { s.osw with awaiting := rest, ownEdges := keptEdges s.now s.osw.ownEdges } }.judgeBusLine b
  | [] => s

/-- BUS_LINE_JUDGED (R110). -/
def execBusLineJudged (s : State) : Result :=
  done (s.onExpiry s.busJudgeDue State.judgeOldest)

end Sys2Proof.Machine
end

