-- ==== Sys2Proof/Machine/CoinEvents.lean ====
section
/-!
DEFINITION. The commands of the coin unit: closures and detected coins (R136, R137, R139), jams (R137) and delivery (R145).
-/

namespace Sys2Proof.Machine

/-- The channel `ch` replaced. -/
def State.withChan (s : State) (ch : Channel) (c : CoinChannel) : State :=
  { s with cnu := s.cnu.setChan ch c }

/-- How long a coin input has held its level since the coin unit began to sample, at the end of the load (R135, R136). -/
def State.coinSteady (s : State) (held : Nat) : Nat :=
  s.steadyFor s.cfl.loadEnded held

/-- Whether the coin unit samples and has seen a level for its filter time (R135, R136). -/
def State.coinSeen (s : State) (held : Nat) : Bool :=
  !s.cnu.dormant && decide (s.coinFilter ≤ s.coinSteady held)

/-- The moment a filtered level changed: one filter time after the raw edge, or after sampling began with the line at that level
(R136). -/
def State.coinFilteredAt (s : State) (held : Nat) : Moment :=
  s.now - (s.coinSteady held - s.coinFilter)

/-- A closure begins (R136). -/
def State.closureBegins (s : State) (ch : Channel) (start : Moment) : State :=
  s.withChan ch { s.cnu.chan ch with closed := true, closure := some { start := start, jammed := false } }

/-- CLOSURE (R136). -/
def execClosure (dt held : Nat) (ch : Channel) (s : State) : Result :=
  let s := s.elapse dt
  done (if s.coinSeen held ∧ (s.cnu.chan ch).closed = false then
      s.closureBegins ch (s.coinFilteredAt held)
    else s)

/-- A closure ends: the filtered level is OPEN (R136). -/
def State.closureEnds (s : State) (ch : Channel) : State :=
  s.withChan ch { s.cnu.chan ch with closed := false, closure := none }

/-- COIN JAM is latched on a channel (R137). -/
def State.latchJam (s : State) (ch : Channel) : State :=
  s.withChan ch { s.cnu.chan ch with jam := true }

/-- A detected coin is counted by the duty; with duty CARRYING the screen protocol engine is told (R139). -/
def State.countCoin (s : State) (ch : Channel) : State :=
  match s.cnu.duty with
  | .own => s.addPending ch 1
  | .carrying => (s.addCarried ch).coinHeard
  | .late => s.addLate ch
  | .none => s

/-- An unjammed closure that began at `start` ends at `stop`: a coin within the jam limit, otherwise a jam that detects nothing (R137;
assumption log 24). -/
def State.closureJudged (s : State) (ch : Channel) (start stop : Moment) : State :=
  if stop - start ≤ jamLimit then (s.closureEnds ch).countCoin ch else (s.closureEnds ch).latchJam ch

/-- DETECTED_COIN (R137, R139). -/
def execDetectedCoin (dt held : Nat) (ch : Channel) (s : State) : Result :=
  let s := s.elapse dt
  done (match s.coinSeen held, (s.cnu.chan ch).closure with
    | true, some c => if c.jammed then s else s.closureJudged ch c.start (s.coinFilteredAt held)
    | _, _ => s)

/-- When a closure passes the jam limit: one tick after 250 ms, since a closure of exactly 250 ms is a coin (R137). -/
def CoinChannel.jamDue (c : CoinChannel) : Timer :=
  match c.closure with
  | some k => if k.jammed then none else some (k.start + jamLimit + 1)
  | none => none

/-- A closure passes the jam limit while the line is still closed (R137). -/
def State.closureJams (s : State) (ch : Channel) : State :=
  s.withChan ch { s.cnu.chan ch with
    jam := true
    closure := (s.cnu.chan ch).closure.map (fun k => { k with jammed := true }) }

/-- COIN_JAM (R137). -/
def execCoinJam (ch : Channel) (s : State) : Result :=
  done (s.onExpiry (s.cnu.chan ch).jamDue (·.closureJams ch))

/-- JAMMED_CLOSURE_END (R137): the end of a jammed closure detects nothing. -/
def execJammedClosureEnd (dt held : Nat) (ch : Channel) (s : State) : Result :=
  let s := s.elapse dt
  done (match s.coinSeen held, (s.cnu.chan ch).closure with
    | true, some c => if c.jammed then s.closureEnds ch else s
    | _, _ => s)

/-- When the pulse of a channel ends (R145). -/
def CoinChannel.pulseDue (c : CoinChannel) : Timer :=
  match c.delivery with
  | .pulse => c.timer
  | _ => none

/-- When the gap of a channel ends (R145). -/
def CoinChannel.gapDue (c : CoinChannel) : Timer :=
  match c.delivery with
  | .gap => c.timer
  | _ => none

/-- A pulse is complete: its coin is delivered, and the gap begins (R145). -/
def State.pulseEnds (s : State) (ch : Channel) : State :=
  s.withChan ch { s.cnu.chan ch with
    pending := (s.cnu.chan ch).pending - 1
    delivery := .gap
    timer := s.after (ms s.quantities.coinGapMs) }

/-- PULSE_TIMER_EXPIRY (R145). -/
def execPulseTimerExpiry (ch : Channel) (s : State) : Result :=
  done (s.onExpiry (s.cnu.chan ch).pulseDue (·.pulseEnds ch))

/-- A gap is over: the channel is IDLE, and its check may begin another pulse (R145). -/
def State.gapEnds (s : State) (ch : Channel) : State :=
  (s.withChan ch { s.cnu.chan ch with delivery := .idle, timer := none }).idleCheck ch

/-- GAP_TIMER_EXPIRY (R145). -/
def execGapTimerExpiry (ch : Channel) (s : State) : Result :=
  done (s.onExpiry (s.cnu.chan ch).gapDue (·.gapEnds ch))

end Sys2Proof.Machine
end

