-- ==== Sys2Proof/Machine/Fill.lean ====
section
/-!
DEFINITION. The commands of the fill sync generator (R59, R60).
-/

namespace Sys2Proof.Machine

/-- FILL_FIELD_START (R59, R60): the field parity turns over and the next field begins. -/
def execFillFieldStart (s : State) : Result :=
  done (match s.fillFieldDue with
    | some due => (s.advanceTo due).beginFillField due (!s.fsg.longer)
    | none => s)

/-- The fill sync at the start of line `n`: lines 0 to 2 are the vertical pulse, line 3 carries no pulse, each later line begins with
its pulse (R59). -/
def fillSyncAt (n : Nat) : SyncLevel :=
  if n = 3 then .rest else .syncActive

/-- Fill line `n` begins at `start`: its edge, the overlay's line start, and from line 4 on an own line edge (R59, R110, R165). -/
def State.fillLine (s : State) (n : Nat) (start : Moment) : State :=
  let s := { s with fsg := { s.fsg with line := n, sync := fillSyncAt n } }.overlayLineStart start
  if 4 ≤ n then s.ownEdge start else s

/-- FILL_LINE_START (R59). -/
def execFillLineStart (s : State) : Result :=
  done (match s.fillLineDue with
    | some due => (s.advanceTo due).fillLine (s.fsg.line + 1) due
    | none => s)

/-- FILL_PULSE_END (R59): W ticks after the line pulse's leading edge the fill sync returns to rest. -/
def execFillPulseEnd (s : State) : Result :=
  done (s.onExpiry s.fillPulseDue (fun s => { s with fsg := { s.fsg with sync := .rest } }))

end Sys2Proof.Machine
end

