-- ==== Sys2Proof/Machine/MenuTimers.lean ====
section
/-!
DEFINITION. The commands of the menu controller's timers (R169, R170, R172) and of the status lamps (R182).
-/

namespace Sys2Proof.Machine

/-- The select hold timer expires: with the latch set, the menu CLOSED and the role HOLDING, SELECT is consumed and the menu opens
(R169). -/
def State.selectExpires (s : State) : State :=
  let s := { s with mnu := { s.mnu with selectTimer := none } }
  if s.latched .select ∧ s.mnu.state = .closed ∧ s.spe.role = .holding then (s.setLatch .select false).openBrowse else s

/-- SELECT_HOLD_EXPIRY (R169). -/
def execSelectHoldExpiry (s : State) : Result :=
  done (s.onExpiry s.mnu.selectTimer State.selectExpires)

/-- BROWSE_TIMER_EXPIRY (R170): the menu enters CLOSED. -/
def execBrowseTimerExpiry (s : State) : Result :=
  done (s.onExpiry s.mnu.browseTimer State.closeMenu)

/-- The notice timer expires: the text is cleared, and NOTICE gives way to BROWSE (R172). -/
def State.noticeExpires (s : State) : State :=
  let s := { s with mnu := { s.mnu with notice := none, noticeTimer := none } }
  match s.mnu.state with
  | .notice => s.enterBrowse
  | _ => s

/-- NOTICE_TIMER_EXPIRY (R172). -/
def execNoticeTimerExpiry (s : State) : Result :=
  done (s.onExpiry s.mnu.noticeTimer State.noticeExpires)

/-- A blink phase that ends at `m` gives way to the next: the lamp turns lit or dark (R182). -/
def Lamp.blink (l : Lamp) (m : Moment) : Lamp :=
  { l with lit := !l.lit, phaseEnd := (blinkPhase l.pattern).map (m + ·) }

/-- The end of a lamp's blink phase at `m`. -/
def State.blinks (s : State) (lamp : StatusLamp) (m : Moment) : State :=
  { s with lamps := s.lamps.setLamp lamp ((s.lamps.lamp lamp).blink m) }

/-- STATUS_LAMP_BLINK (R182). -/
def execStatusLampBlink (lamp : StatusLamp) (s : State) : Result :=
  done (match (s.lamps.lamp lamp).phaseEnd with
    | some due => (s.advanceTo due).blinks lamp due
    | none => s)

end Sys2Proof.Machine
end

