-- ==== Sys2Proof/Machine/PanelEvents.lean ====
section
/-!
DEFINITION. The commands of the panel: presses and releases at the edge lines, the latches and the menu (R151, R158, R168 to R171,
R175), and the lamp inputs (R160, R161).
-/

namespace Sys2Proof.Machine

/-! ## Keys -/

/-- What an input is to the menu controller (R152). -/
inductive Key where
  | up
  | down
  | pick
  | back
  | service
  | select
  | plain
  deriving DecidableEq, Repr

/-- The key name of an input (R152). -/
def State.keyOf (s : State) (i : PanelInput) : Key :=
  match i, s.quantities.keys with
  | .service, _ => .service
  | .select, _ => .select
  | .player _, none => .plain
  | .player n, some k =>
    if n = k.up then .up
    else if n = k.down then .down
    else if n = k.pick then .pick
    else if n = k.back then .back
    else .plain

/-- The browse timer restarts on a press taken while the menu is BROWSE (R170). -/
def State.touchBrowse (s : State) : State :=
  match s.mnu.state with
  | .browse => { s with mnu := { s.mnu with browseTimer := s.after browseTime } }
  | _ => s

/-- The cursor moved to a rank (R170). -/
def State.moveCursor (s : State) (r : Rank) : State :=
  { s with mnu := { s.mnu with cursor := r } }

/-- PICK in BROWSE, judged from the roster: the own entry closes the menu, a READY peer is picked, any other is NOT READY (R171). The
menu enters WAIT before PICK is handed (assumption log 12). -/
def State.pickEntry (s : State) : State :=
  if s.mnu.cursor = s.rank then s.closeMenu
  else if (s.entry s.mnu.cursor).board = some .ready then (s.enterWait).pick s.mnu.cursor
  else s.enterNotice .notReady

/-- A key in BROWSE (R170, R171). -/
def State.browseKey (s : State) (k : Key) : State :=
  match k with
  | .up => s.moveCursor (s.listedBelow s.mnu.cursor)
  | .down => s.moveCursor (s.listedAbove s.mnu.cursor)
  | .pick => s.pickEntry
  | .back => s.closeMenu
  | .service => s.enterService
  | .select => s
  | .plain => s

/-- A key in SERVICE (R175). -/
def State.serviceKey (s : State) (k : Key) : State :=
  match k with
  | .pick => s.resetBoard
  | .back => s.clearFaults.openBrowse
  | .up => s
  | .down => s
  | .service => s
  | .select => s
  | .plain => s

/-- Whether the menu consumes a press: in an open state every key but SELECT (R168). In CLOSED it consumes SELECT alone, at the hold
(R169). -/
def consumesPress (st : MenuState) (k : Key) : Bool :=
  match st, k with
  | .closed, _ => false
  | _, .select => false
  | _, .plain => false
  | _, _ => true

/-- The select hold timer starts at each press of SELECT (R169). -/
def State.startSelect (s : State) (k : Key) : State :=
  match k with
  | .select => { s with mnu := { s.mnu with selectTimer := s.after selectHold } }
  | _ => s

/-- The effect of a key by menu state (R168, R170, R175). -/
def State.menuKey (s : State) (k : Key) : State :=
  match s.mnu.state with
  | .closed => s
  | .browse => s.browseKey k
  | .wait => s
  | .notice => s
  | .service => s.serviceKey k

/-- PRESS at the menu controller (R168 to R171, R175). -/
def State.menuPress (s : State) (i : PanelInput) : State :=
  let k := s.keyOf i
  let s := (s.startSelect k).touchBrowse
  let s := if consumesPress s.mnu.state k then s.setLatch i false else s
  s.menuKey k

/-! ## Presses and releases -/

/-- How long an input of the mapper has held its level since the mapper began to sample, at the end of the load (R150, R160). -/
def State.panelSteady (s : State) (held : Nat) : Nat :=
  s.steadyFor s.cfl.loadEnded held

/-- Whether the mapper samples and has seen a level for the panel filter time (R150). -/
def State.panelSeen (s : State) (held : Nat) : Bool :=
  !s.cmp.dormant && decide (s.panelFilter ≤ s.panelSteady held)

/-- The filtered level of an input. -/
def State.isPressed (s : State) (i : PanelInput) : Bool :=
  s.cmp.pressed[panelIndex i]

/-- A press: edge lines, latch, menu, in this order (R151). -/
def State.pressed (s : State) (i : PanelInput) : State :=
  ((s.pressLines i).setLatch i true).menuPress i

/-- PRESS (R151). -/
def execPress (dt held : Nat) (input : PanelInput) (s : State) : Result :=
  let s := s.elapse dt
  done (if s.panelSeen held ∧ s.isPressed input = false then s.pressed input else s)

/-- RELEASE at the menu controller: a release of SELECT stops the select hold timer (R169). -/
def State.menuRelease (s : State) (i : PanelInput) : State :=
  match i with
  | .select => { s with mnu := { s.mnu with selectTimer := none } }
  | _ => s

/-- A release: edge lines, latch, menu, in this order (R151). -/
def State.released (s : State) (i : PanelInput) : State :=
  ((s.releaseLines i).setLatch i false).menuRelease i

/-- RELEASE (R151). -/
def execRelease (dt held : Nat) (input : PanelInput) (s : State) : Result :=
  let s := s.elapse dt
  done (if s.panelSeen held ∧ s.isPressed input = true then s.released input else s)

/-! ## Lamp inputs -/

/-- The filtered level of a lamp input. -/
def Mapper.litInput (m : Mapper) : LampInput → Bool
  | .bl1 => m.lit1
  | .bl2 => m.lit2

/-- The filtered level of a lamp input replaced. -/
def Mapper.setLit (m : Mapper) (l : LampInput) (v : Bool) : Mapper :=
  match l with
  | .bl1 => { m with lit1 := v }
  | .bl2 => { m with lit2 := v }

/-- LAMP_LEVEL_CHANGE (R160, R161). -/
def execLampLevelChange (dt held : Nat) (lamp : LampInput) (lit : Bool) (s : State) : Result :=
  let s := s.elapse dt
  done (if s.cmp.dormant = false ∧ lampFilter ≤ s.panelSteady held ∧ s.cmp.litInput lamp ≠ lit then
      { s with cmp := s.cmp.setLit lamp lit }.mirrorLamps
    else s)

end Sys2Proof.Machine
end

