-- ==== Sys2Proof/Machine/ScreenTimers.lean ====
section
/-!
DEFINITION. The commands of the screen protocol engine's timers: join window (R100), bid window (R106), seat wait (R107), answer timer
(R121), coin quiet timer (R124) and pass timer (R132).
-/

namespace Sys2Proof.Machine

/-- The join window expires: STANDBY with the view as it stands, then the bid check (R100, R102). -/
def State.joinExpires (s : State) : State :=
  (s.setRole .standby).bidCheck

/-- JOIN_WINDOW_EXPIRY (R100). -/
def execJoinWindowExpiry (s : State) : Result :=
  done (s.onExpiry s.spe.joinWindow State.joinExpires)

/-- Whether the node is the lowest of its bid set and its board is READY (R106). -/
def State.winsRound (s : State) : Bool :=
  s.spe.bidSet.all (fun r => decide (s.rank ≤ r)) && s.bsv.board == .ready

/-- The node seats: HOLDING with its own rank in view, then SEATED (R106). -/
def State.seatByBid (s : State) : State :=
  ({ s with spe := { s.spe with view := some s.rank } }.setRole .holding).send seatedRequest

/-- The node loses the round: STANDBY with view NONE, and the seat wait starts (R106). -/
def State.loseRound (s : State) : State :=
  let s := { s with spe := { s.spe with view := none } }.setRole .standby
  { s with spe := { s.spe with seatWait := s.after seatWaitTime } }

/-- The bid window expires (R106). -/
def State.bidExpires (s : State) : State :=
  if s.winsRound then s.seatByBid else s.loseRound

/-- BID_WINDOW_EXPIRY (R106). -/
def execBidWindowExpiry (s : State) : Result :=
  done (s.onExpiry s.spe.bidWindow State.bidExpires)

/-- The seat wait expires (R107). -/
def State.seatWaitExpires (s : State) : State :=
  { s with spe := { s.spe with seatWait := none } }.bidCheck

/-- SEAT_WAIT_EXPIRY (R107). -/
def execSeatWaitExpiry (s : State) : Result :=
  done (s.onExpiry s.spe.seatWait State.seatWaitExpires)

/-- ANSWER_TIMER_EXPIRY (R121): back to HOLDING, a pending OFFER dropped, the menu told NO ANSWER. -/
def execAnswerTimerExpiry (s : State) : Result :=
  done (s.onExpiry s.spe.answerTimer (·.offerFails .noAnswer))

/-- COIN_QUIET_EXPIRY (R124): PASS is issued. -/
def execCoinQuietExpiry (s : State) : Result :=
  done (s.onExpiry s.spe.coinQuiet State.issuePass)

/-- PASS_TIMER_EXPIRY (R132): STANDBY, the view set from the bus, then the bid check. -/
def execPassTimerExpiry (s : State) : Result :=
  done (s.onExpiry s.spe.passTimer (·.leaveAccepted.bidCheck))

end Sys2Proof.Machine
end

