-- ==== Sys2Proof/Machine/StartUp.lean ====
section
/-!
DEFINITION. The commands of start-up: node reset (R178), the configuration read tries (R179) and the block read (R180, R181).
-/

namespace Sys2Proof.Machine

/-- The queue of waiting commands put in place of the state's own; it is the model's and no event of the spec acts on it
(assumption log 32). -/
def State.withPending (s : State) (p : List Instr) : State :=
  { s with pending := p }

/-- The causes of node reset become `c`. -/
def State.withCauses (s : State) (c : ResetCauses) : State :=
  { s with cfl := { s.cfl with causes := c } }

/-- Node reset: every block at its reset value, with the cause joining those in force; the waiting commands stay queued (R178). -/
def State.resetBy (s : State) (cause : ResetCause) : State :=
  (State.reset.withCauses (s.cfl.causes.add cause)).withPending s.pending

/-- NODE_RESET (R178): NRESET low for less than 10 µs resets nothing. -/
def execNodeReset (s : State) (dt : Nat := 0) (cause : ResetCause := .powerOn) : Result :=
  done (if resetCounts cause then s.resetBy cause else s.elapse dt)

/-- Node reset ends: the rank is sampled, the filters of presence and bus sense begin, and the first try begins (R178, R179). -/
def State.nodeResetEnds (s : State) (straps : Straps) : State :=
  { s with
    rank := strapRank straps
    mnu := { s.mnu with cursor := strapRank straps }
    cfl := { s.cfl with
      load := .reading, tries := 1, port := .reading s.now, causes := { pin := false, power := false }
      resetEnded := some s.now } }

/-- Causes of node reset end: with one left node reset stays in force, with none it ends (R178). -/
def State.causesEnd (s : State) (release : ResetRelease) : State :=
  let left := s.cfl.causes.after release.supply release.nresetHigh
  if left.pin || left.power then s.withCauses left else s.nodeResetEnds release.straps

/-- NODE_RESET_END (R178); without an effect while node reset is not in force. The ticks that pass until then count in the timestamp counter
(assumption log 43). -/
def execNodeResetEnd (dt : Nat) (release : ResetRelease) (s : State) : Result :=
  let s := s.elapse dt
  done (match s.cfl.load with
    | .held => s.causesEnd release
    | _ => s)

/-- How long the loader pauses between tries: 10 ms (R179). -/
def pauseTime : Nat := ms 10

/-- What the port does after a failed try: both lines are released, and a stop condition is formed if they allow it (R179). -/
def State.portFails (s : State) (linesFree : Bool) : State :=
  { s with cfl := { s.cfl with port := if linesFree then .stopping s.now else .released } }

/-- A failed try: a pause while tries are left, otherwise the load ends with no block (R179). -/
def State.tryFails (s : State) (linesFree : Bool) : State :=
  if s.cfl.tries < 3 then
    { s with cfl := { s.cfl with load := .paused, pause := s.after pauseTime } }.portFails linesFree
  else (s.loadEnd none).portFails linesFree

/-- TRY_FAILS (R179). -/
def execTryFails (dt : Nat) (failed : FailedTry) (s : State) : Result :=
  let s := s.elapse dt
  done (match s.cfl.load, failureCounts failed.cause with
    | .reading, true => s.tryFails failed.linesFree
    | _, _ => s)

/-- PAUSED_EXPIRY (R179): the try count rises and a new try begins. -/
def execPausedExpiry (s : State) : Result :=
  done (s.onExpiry s.cfl.pause (fun s =>
    { s with cfl := { s.cfl with
      load := .reading, tries := s.cfl.tries + 1, pause := none, port := .reading s.now } }))

/-- BLOCK_READ (R180, R181): the 128 bytes are judged once. -/
def execBlockRead (dt : Nat) (bytes : List Byte) (s : State) : Result :=
  let s := s.elapse dt
  done (match s.cfl.load, decide (bytes.length = 128) with
    | .reading, true => s.loadEnd (if blockValid bytes then some bytes else none)
    | _, _ => s)

end Sys2Proof.Machine
end

