-- ==== Sys2Proof/Machine/Sync.lean ====
section
/-!
DEFINITION. The commands of the board sync: the acquisition window (R4, R5), the edges of the logic sync (R2, R11, R14, R15), the samples
of a pair (R6, R7), STALL (R14) and the lock expiry (R15).
-/

namespace Sys2Proof.Machine

/-! ## Acquisition -/

/-- The last sample of a window is taken: the slicer locks, or a fresh window opens (R4, R5). -/
def State.windowEnds (s : State) (runs : List SampleRun) (level : Code) : State :=
  let acq := tallyRuns runs AcqTotals.cleared
  let s := { s with ssl := { s.ssl with acq := acq } }
  if acq.succeeds then s.lockFromWindow level else s.freshWindow

/-- ACQUISITION_WINDOW_END (R4). -/
def execAcquisitionWindowEnd (runs : List SampleRun) (level : Code) (s : State) : Result :=
  done (match s.ssl.mode, decide (runsTotal runs = windowSamples) with
    | .acquiring, true => s.onExpiry s.ssl.windowEnd (·.windowEnds runs level)
    | _, _ => s)

/-! ## Edges -/

/-- RESUME: the first leading edge while QUIET begins the resume pulse (R15). -/
def State.resumePulse (s : State) (m : Moment) : State :=
  { s.resume with pcl :=
    { state := .active, pulse := some { lead := m, broad := false, resume := true, tip := none },
      lineCount := 0, oddCount := 0, ageFrom := some m, stallTimer := some (m + stallTime), lockExpiry := none } }

/-- A leading edge while ACTIVE begins a pulse and restarts the stall timer (R11, R14). -/
def Classifier.beginPulse (c : Classifier) (m : Moment) : Classifier :=
  { c with
    pulse := some { lead := m, broad := false, resume := false, tip := none }
    stallTimer := some (m + stallTime) }

/-- A leading edge of the board's logic sync at `m`: an open pair is discarded (R6), the classifier takes it (R14, R15), and it may be
a line start (R165). -/
def State.leadingEdge (s : State) (m : Moment) : State :=
  let s := { s with ssl := { s.ssl with logicSync := .syncActive, pair := none } }
  let s := match s.pcl.state with
    | .quiet => s.resumePulse m
    | .active => { s with pcl := s.pcl.beginPulse m }
  s.overlayBoardEdge m

/-- The pair that a LINE pulse opens when its tip sample was taken, in ADAPTIVE mode (R6). -/
def State.openPair (s : State) (p : Pulse) (m : Moment) : Option OpenPair :=
  match s.quantities.mode, p.tip with
  | .adaptive, some tip => some { tip := tip, trail := m }
  | _, _ => none

/-- A pulse decided LINE: line count, LINE event, own line edge, pair (R6, R11, R12, R110). -/
def State.linePulse (s : State) (p : Pulse) (m : Moment) : State :=
  { s with
    pcl := { s.pcl with lineCount := satInc 255 s.pcl.lineCount }
    tmu := s.tmu.lineEvent s.quantities (stampOf p.lead) (ticksBetween m p.lead)
    ssl := { s.ssl with pair := s.openPair p m } }.ownBoardEdge p.lead

/-- A pulse decided ODD (R11, R12). -/
def State.oddPulse (s : State) : State :=
  { s with pcl := { s.pcl with oddCount := satInc 255 s.pcl.oddCount } }

/-- The class of a pulse at its trailing edge at `m`, by width (R11). The resume pulse has none (R15); one already BROAD has been
decided. -/
def State.classify (s : State) (p : Pulse) (m : Moment) : State :=
  if p.resume ∨ p.broad then s
  else if ticksBetween m p.lead < 134 then s
  else if ticksBetween m p.lead ≤ 383 then s.linePulse p m
  else if ticksBetween m p.lead ≤ 767 then s.oddPulse
  else s.broad p.lead

/-- A trailing edge of the board's logic sync at `m`; while QUIET it is passed over (R11, R14, R15). -/
def State.trailingEdge (s : State) (m : Moment) : State :=
  let s := { s with ssl := { s.ssl with logicSync := .rest } }
  match s.pcl.state, s.pcl.pulse with
  | .quiet, _ => s
  | .active, none => { s with pcl := { s.pcl with stallTimer := some (m + stallTime) } }
  | .active, some p => { s with pcl := { s.pcl with pulse := none, stallTimer := some (m + stallTime) } }.classify p m

/-- Whether the comparator of a LOCKED slicer, standing elsewhere, has changed to `target` and held for the filter's 12 ticks (R2).
For a level held since before a FIXED slicer was locked that is assumption log 41. -/
def State.edgeOccurs (s : State) (level : Code) (held : Nat) (target : SyncLevel) : Bool :=
  s.ssl.mode == .locked && decide (edgeFilter ≤ held) && s.ssl.compare level == target && s.ssl.logicSync != target

/-- LEADING_EDGE (R2): the edge lies at the tick at which the change began. -/
def execLeadingEdge (dt held : Nat) (level : Code) (s : State) : Result :=
  let s := s.elapse dt
  done (if s.edgeOccurs level held .syncActive then s.leadingEdge (s.now - held) else s)

/-- TRAILING_EDGE (R2, R11). -/
def execTrailingEdge (dt held : Nat) (level : Code) (s : State) : Result :=
  let s := s.elapse dt
  done (if s.edgeOccurs level held .rest then s.trailingEdge (s.now - held) else s)

/-! ## Times inside a pulse -/

/-- How long a pulse has lasted when it is decided BROAD (R11). -/
def broadTime : Nat := 768

/-- When the pulse in progress is decided BROAD: while it is ACTIVE's, not the resume pulse and not already BROAD (R11, R15). A pulse
whose trailing change is still in the slicer's filter then, begun 757 to 767 ticks after the leading edge, is BROAD by the model's choice
(assumption log 38). -/
def State.broadDue (s : State) : Timer :=
  match s.pcl.state, s.pcl.pulse with
  | .active, some p => if p.resume ∨ p.broad then none else some (p.lead + broadTime)
  | _, _ => none

/-- The pulse in progress is BROAD (R11, R13). -/
def State.decideBroad (s : State) : State :=
  match s.pcl.pulse with
  | some p => { s with pcl := { s.pcl with pulse := some { p with broad := true } } }.broad p.lead
  | none => s

/-- BROAD_DECIDED (R11). -/
def execBroadDecided (s : State) : Result :=
  done (s.onExpiry s.broadDue State.decideBroad)

/-- When the tip sample is taken: 112 ticks after the leading edge (R6). -/
def tipTime : Nat := 112

/-- When the tip sample of the pulse in progress is due: LOCKED, ADAPTIVE, still sync-active, not the resume pulse (R6). -/
def State.tipDue (s : State) : Timer :=
  match s.ssl.mode, s.quantities.mode, s.ssl.logicSync, s.pcl.pulse with
  | .locked, .adaptive, .syncActive, some p =>
    if p.resume ∨ p.tip.isSome then none else some (p.lead + tipTime)
  | _, _, _, _ => none

/-- The tip sample is taken (R6). -/
def State.takeTip (s : State) (code : Code) : State :=
  { s with pcl := { s.pcl with pulse := s.pcl.pulse.map (fun p => { p with tip := some code }) } }

/-- TIP_SAMPLE (R6). -/
def execTipSample (code : Code) (s : State) : Result :=
  done (s.onExpiry s.tipDue (·.takeTip code))

/-- When the rest sample is taken: 384 ticks after the trailing edge (R6). -/
def restTime : Nat := 384

/-- When the rest sample of the open pair is due (R6). -/
def State.restDue (s : State) : Timer :=
  s.ssl.pair.map (fun p => p.trail + restTime)

/-- The rest sample completes the pair (R6, R7). -/
def State.takeRest (s : State) (code : Code) : State :=
  match s.ssl.pair with
  | some p => { s with ssl := s.ssl.track s.quantities p.tip code }
  | none => s

/-- REST_SAMPLE (R6, R7). -/
def execRestSample (code : Code) (s : State) : Result :=
  done (s.onExpiry s.restDue (·.takeRest code))

/-! ## Silence of the board's sync -/

/-- The classifier after STALL (R14). -/
def Classifier.stalled (c : Classifier) : Classifier :=
  { c with state := .quiet, pulse := none, lineCount := 0, oddCount := 0, ageFrom := none, stallTimer := none }

/-- The stall timer expires (R14). -/
def State.stallExpires (s : State) : State :=
  let s := s.stalled
  let s := { s with pcl := s.pcl.stalled }
  match s.quantities.mode with
  | .adaptive => s.enterAcquiring
  | .fixed => s

/-- STALL (R14). -/
def execStall (s : State) : Result :=
  done (s.onExpiry s.pcl.stallTimer State.stallExpires)

/-- LOCK_EXPIRY (R15): the slicer returns to ACQUIRING without an event. -/
def execLockExpiry (s : State) : Result :=
  done (s.onExpiry s.pcl.lockExpiry State.enterAcquiring)

end Sys2Proof.Machine
end

