-- ==== Sys2Proof/Machine/Taken.lean ====
section
/-!
DEFINITION. The commands by which the screen protocol engine takes the oldest entry of its receive queue (R75, R85), one for each kind
of frame.
-/

namespace Sys2Proof.Machine

/-- The oldest entry, once its RECEIVED has been handed, if it is of kind `k` (R72, R75). -/
def State.oldestEntry (s : State) (k : FrameKind) : Option RxEntry :=
  match s.lct.rxq with
  | e :: _ => if e.held = false ∧ e.frame.kind = k then some e else none
  | [] => none

/-- An entry is taken: it leaves the queue and the roster takes its news first (R75, R85). -/
def State.takeEntry (s : State) (e : RxEntry) : State :=
  ({ s with lct := { s.lct with rxq := s.lct.rxq.tail } }).rosterTake e.sender e.frame.body

/-- A HELLO at the engine: the reply it requests (R91), then a claim or a release (R100, R103, R105, R109; assumption log 13). -/
def State.helloHeard (s : State) (r : Rank) (holding reply : Bool) : State :=
  let s := if reply ∧ s.spe.role ≠ .withdrawn then s.sendHello false else s
  if holding then s.claim r else s.release r

/-- HELLO_TAKEN (R86). -/
def execHelloTaken (s : State) : Result :=
  done (match s.oldestEntry .hello with
    | some e =>
      match e.frame.body with
      | .hello holding reply _ _ _ _ => (s.takeEntry e).helloHeard e.sender holding reply
      | _ => s
    | none => s)

/-- SEATED_TAKEN (R88, R109). -/
def execSeatedTaken (s : State) : Result :=
  done (match s.oldestEntry .seated with
    | some e => (s.takeEntry e).claim e.sender
    | none => s)

/-- BID_TAKEN (R87, R103, R105, R109). -/
def execBidTaken (s : State) : Result :=
  done (match s.oldestEntry .bid with
    | some e => (s.takeEntry e).bidHeard e.sender
    | none => s)

/-- OFFER_TAKEN (R117). -/
def execOfferTaken (s : State) : Result :=
  done (match s.oldestEntry .offer with
    | some e =>
      match e.frame.body with
      | .offer n => (s.takeEntry e).offerHeard e.sender n
      | _ => s
    | none => s)

/-- ANSWER_TAKEN (R87, R120). -/
def execAnswerTaken (s : State) : Result :=
  done (match s.oldestEntry .answer with
    | some e =>
      match e.frame.body with
      | .answer n yes reason _ => (s.takeEntry e).answerHeard e.sender n yes reason
      | _ => s
    | none => s)

/-- PASS_TAKEN (R128, R129). -/
def execPassTaken (s : State) : Result :=
  done (match s.oldestEntry .pass with
    | some e =>
      match e.frame.body with
      | .pass n c1 c2 => (s.takeEntry e).passHeard e.sender n c1 c2
      | _ => s
    | none => s)

end Sys2Proof.Machine
end

