-- ==== Sys2Proof/Machine/Wire.lean ====
section
/-!
DEFINITION. The commands of the cabinet line: idle gap and falls (R63), arbitration (R67), clashes (R68), framing errors (R71), the
judgement of frames (R72, R74), the acknowledge window (R66, R69), a stuck line (R79) and its recovery (R81).
-/

namespace Sys2Proof.Machine

/-- The line controller replaced. -/
def State.withLine (s : State) (l : LineController) : State :=
  { s with lct := l }

/-! ## The idle gap and falls -/

/-- The line is idle: a node with a frame that may send begins it (R63). -/
def State.lineBecomesIdle (s : State) : State :=
  s.withLine ({ s.lct with phase := .idle }.beginIfReady s.now)

/-- Twelve recessive bit times have passed, by phase: the gap is met, or a frame followed without its check is a short frame (R63,
R71). A frame that this node itself is sending is not ended by it. -/
def State.gapMet (s : State) : State :=
  match s.lct.phase, s.lct.sending with
  | .gap since, _ => (s.advanceTo (since + idleGap)).lineBecomesIdle
  | .spoilt since, _ => (s.advanceTo (since + idleGap)).lineBecomesIdle
  | .following _ _ _, none => (s.withLine { s.lct with shortFrame := countError s.lct.shortFrame }).lineBecomesIdle
  | _, _ => s

/-- Whether the line controller works on the wire: in RUNNING and MUTE, with the stuck flag clear (R70, R80). -/
def LineController.works (l : LineController) : Bool :=
  l.mode != .off && !l.stuck

/-- LINE_IDLE (R63). -/
def execLineIdle (dt : Nat) (s : State) : Result :=
  let s := s.elapse dt
  done (if s.lct.works then s.gapMet else s)

/-- What a node that does not send makes of a fall: the start of a frame to be followed, or, with the line recessive again at the
middle of the start bit, no character: it waits for the next fall, and the idle gap is counted from here (R62, R63). -/
def LineController.hear (l : LineController) (now : Moment) (middle : Level) : LineController :=
  match middle with
  | .dominant => { l with phase := .following now [] 1 }
  | .recessive => { l with phase := .gap now }

/-- A fall on an idle line: a node with a frame that may send joins arbitration aligned to it, any other hears it (R63). -/
def LineController.fallOnIdle (l : LineController) (now : Moment) (middle : Level) : LineController :=
  match l.mode, l.txq with
  | .running, _ :: _ => l.beginFrame now
  | _, _ => l.hear now middle

/-- Whether a fall at `now` begins the next character of a frame of which `bits` are read: the node waits for a fall, every character
begun being read past the middle of its stop bit, the frame has a next character, and the line is dominant still at the middle of the start
bit (R62, R71). In the two bit times before the window no fall does (R66). -/
def beginsChar (start : Moment) (bits : List Bool) (begun : Nat) (now : Moment) (middle : Level) : Bool :=
  decide (bits.length % 8 = 0) && decide (begun ≤ bits.length / 8) &&
    decide (start + bits.length / 8 * (10 * bitTime) < now + bitTime / 2) && !frameComplete bits && middle == .dominant

/-- A receiver's reading of a frame at a fall, with the data bits `more` read since the command before: a fall that begins a character
is the one from which that character's bit times are counted (R62, R71). -/
def readOn (start : Moment) (read more : List Bool) (begun : Nat) (now : Moment) (middle : Level) : LinePhase :=
  let bits := read ++ more
  if beginsChar start bits begun now middle then
    .following (now - bits.length / 8 * (10 * bitTime)) bits (bits.length / 8 + 1)
  else .following start bits begun

/-- A fall while a frame is followed: a node that sends it reads its own bits and passes over the fall (R71). -/
def LineController.fallInFrame (l : LineController) (start : Moment) (read more : List Bool) (begun : Nat) (now : Moment)
    (middle : Level) : LineController :=
  match l.sending with
  | some _ => l
  | none => { l with phase := readOn start read more begun now middle }

/-- A fall of the line at `now`, by phase (R63, R71). A fall before the gap has ended is heard and not joined (assumption log 16); after
a discarded frame nothing is followed until the line is idle. -/
def LineController.fall (l : LineController) (now : Moment) (middle : Level) (more : List Bool) : LineController :=
  match l.phase with
  | .idle => l.fallOnIdle now middle
  | .gap _ => l.hear now middle
  | .spoilt _ => { l with phase := .spoilt now }
  | .following start read begun => l.fallInFrame start read more begun now middle
  | .window _ _ => l
  | .blind => l

/-- LINE_FALL (R63, R79, R81): the stretch of the stuck or recovery timing begins again; while the stuck flag is set nothing is
followed (R80). -/
def execLineFall (dt : Nat) (fall : Fall) (s : State) : Result :=
  let s := s.elapse dt
  done (match s.lct.mode with
    | .off => s
    | _ =>
      let l := { s.lct with stretch := some s.now }
      s.withLine (if l.stuck then l else l.fall s.now fall.middle fall.read))

/-! ## Arbitration and clashes -/

/-- The characters of the frame at the head of the transmit queue (R64). -/
def State.headChars (s : State) : List Byte :=
  match s.lct.txq with
  | f :: _ => frameChars s.rank f
  | [] => []

/-- The middle of bit `i` of character `k` of a frame whose first start bit fell at `start` (R62). -/
def bitMiddle (start : Moment) (k i : Nat) : Moment :=
  start + (10 * k + i) * bitTime + bitTime / 2

/-- The line controller stops sending at bit `i` of character `k` of its frame `chars`, where it read `level`: it follows the frame as a
receiver from the point it had reached, with the bits it has read (R67, R68, R71). A start bit that it read recessive is no character, and
it waits for the next fall (R62). -/
def LineController.stopSending (l : LineController) (start : Moment) (chars : List Byte) (k i : Nat) (level : Level) : LineController :=
  { l with sending := none, phase := .following start (bitsBefore chars k i ++ bitRead i level) (if i = 0 then k else k + 1) }

/-- The frame in transmission, while its characters are still being sent: the moment of its first start bit (R63, R66). -/
def LineController.sendingFrom (l : LineController) : Option Moment :=
  match l.phase with
  | .following _ _ _ => l.sending
  | _ => none

/-- Arbitration is lost at data bit `bit` of the head: the node goes on as a receiver, its frame and attempt count stay (R67). -/
def State.loseArbitration (s : State) (start : Moment) (bit : Nat) : State :=
  s.withLine (s.lct.stopSending start s.headChars 0 (bit + 1) .dominant)

/-- LOST_ARBITRATION (R67): only a data bit sent recessive can lose. -/
def execLostArbitration (bit : Nat) (s : State) : Result :=
  done (match s.lct.sendingFrom with
    | some start =>
      if bit < 8 ∧ frameLevel s.headChars 0 (bit + 1) = .recessive then
        (s.advanceTo (bitMiddle start 0 (bit + 1))).loseArbitration start bit
      else s
    | none => s)

/-- Whether a bit of a frame is one of the head's eight data bits (R67). -/
def headData (k i : Nat) : Bool :=
  decide (k = 0) && decide (1 ≤ i) && decide (i ≤ 8)

/-- Whether reading `read` at bit `i` of character `k` clashes with the level sent: any difference, but in the head's data bits only a
recessive level read where a dominant one was sent (R68). -/
def clashes (chars : List Byte) (k i : Nat) (read : Level) : Bool :=
  decide (k < chars.length) && decide (i < 10) && frameLevel chars k i != read &&
    (!headData k i || frameLevel chars k i == .dominant)

/-- An attempt ends that counts toward the four: the head is reported at the fourth, otherwise it is sent again (R69). -/
def State.attemptFails (s : State) : State :=
  match s.lct.txq with
  | f :: _ =>
    if s.lct.attempts < 3 then s.withLine { s.lct with attempts := s.lct.attempts + 1 }
    else s.reportHead (failedReport f)
  | [] => s

/-- A bit clash at bit `i` of character `k`, where `read` was read: the line is released, the node follows on, the clash counter rises and
the attempt ends (R68). -/
def State.bitClashes (s : State) (start : Moment) (k i : Nat) (read : Level) : State :=
  (s.withLine { s.lct.stopSending start s.headChars k i read with clash := countError s.lct.clash }).attemptFails

/-- BIT_CLASH (R68). -/
def execBitClash (char bit : Nat) (read : Level) (s : State) : Result :=
  done (match s.lct.sendingFrom with
    | some start =>
      if clashes s.headChars char bit read then (s.advanceTo (bitMiddle start char bit)).bitClashes start char bit read else s
    | none => s)

/-! ## Reception -/

/-- A framing error in a followed frame that this node is not itself sending: counted, and the frame discarded (R71). -/
def State.framingFails (s : State) : State :=
  match s.lct.phase, s.lct.sending with
  | .following _ _ _, none =>
    s.withLine { s.lct.discard s.now with checkError := countError s.lct.checkError }
  | _, _ => s

/-- FRAMING_ERROR (R71): a dominant stop bit and a count above 27 have the same effect. -/
def execFramingError (dt : Nat) (_kind : FramingKind) (s : State) : Result :=
  done (s.elapse dt).framingFails

/-- What a judgement does at `window`, the start of the acknowledge window, from which a taker that may send times its ACK (R66, R72 to
R74). -/
def State.applyJudgement (s : State) (window : Moment) : Judgement → State
  | .passedOver => s
  | .refusedCheck => s.withLine { s.lct with checkError := countError s.lct.checkError }
  | .refusedOverrun => s.withLine { s.lct with overrun := countError s.lct.overrun }
  | .rankClash =>
    let s := (s.withLine { s.lct with rankClash := true }).speRankClash
    s.withLine s.lct.muteCommand
  | .taken sender frame =>
    s.withLine { s.lct with
      rxq := s.lct.rxq ++ [{ sender := sender, frame := frame, held := true }]
      acking := match s.lct.mode with
        | .running => some window
        | _ => none }

/-- Whether a judgement takes the frame. -/
def Judgement.isTaken : Judgement → Bool
  | .taken _ _ => true
  | _ => false

/-- The frame a node follows to its check: its own while it sends, otherwise the one given (R71). -/
def State.followedChars (s : State) (chars : List Byte) : List Byte :=
  match s.lct.sending with
  | some _ => s.headChars
  | none => chars

/-- A frame followed to its check, of which `read` was read already, is judged at `window`, the start of its window (R72). -/
def State.judgeAt (s : State) (window : Moment) (read : List Bool) (chars : List Byte) (gapDominant : Bool) : State :=
  let j := s.lct.judge s.rank read chars gapDominant
  (s.withLine { s.lct with phase := .window window j.isTaken }).applyJudgement window j

/-- FRAME_JUDGED (R72), at the start of the window: by a sender's own timing, and by a receiver's count of the check character's bits
(R66). -/
def execFrameJudged (contents : List Byte) (check : Byte) (gapDominant : Bool) (s : State) : Result :=
  done (match s.lct.phase with
    | .following start read _ =>
      let chars := contents ++ [check]
      let window := windowStart start (s.followedChars chars).length
      (s.advanceTo window).judgeAt window read chars gapDominant
    | _ => s)

/-! ## The acknowledge window -/

/-- The sender's judgement of the window (R69): acknowledged, DELIVERED; otherwise a broadcast frame is UNHEARD at once, and an
addressed one has failed an attempt. -/
def State.judgeAck (s : State) (middles : BitVec 9) : State :=
  match s.lct.txq with
  | f :: _ =>
    if acknowledged middles then s.reportHead .delivered
    else if f.addressed then s.attemptFails
    else s.reportHead .unheard
  | [] => s

/-- The window ends: the frame ends for every node that followed it, the held entry is held no longer, and a sender judges (R66, R69,
R72). -/
def State.windowCloses (s : State) (middles : BitVec 9) : State :=
  let ended := s.withLine (s.lct.frameEnd s.now)
  match s.lct.sending with
  | some _ => ended.judgeAck middles
  | none => ended

/-- ACK_WINDOW_END (R66). -/
def execAckWindowEnd (middles : BitVec 9) (s : State) : Result :=
  done (match s.lct.phase with
    | .window start _ => (s.advanceTo (start + ackWindow)).windowCloses middles
    | _ => s)

/-! ## A stuck line -/

/-- The line controller as the line sticks: the flag and the latch are set, the line released, the frame followed discarded, an entry
still held is held no longer (R79, steps 1 and 2; assumption log 17). -/
def LineController.stick (l : LineController) (now : Moment) : LineController :=
  { l with
    stuck := true, lineStuck := true, sending := none, acking := none, phase := .blind, stretch := some now
    rxq := releaseHeld l.rxq }

/-- The flush: every queued frame is reported, the queue emptied, and SPACE handed if it had held four (R79, steps 4 to 6). -/
def State.flush (s : State) : State :=
  let q := s.lct.txq
  let s := s.reportAll q
  let s := s.withLine { s.lct with txq := [], attempts := 0 }
  if q.length = queueLimit then s.space else s

/-- The line sticks (R79). -/
def State.lineSticks (s : State) : State :=
  ((s.withLine (s.lct.stick s.now)).speLineStuck).flush

/-- The end of the line's present stretch once it has lasted `d` (R79, R81). -/
def LineController.stretchEnd (l : LineController) (d : Nat) : Moment :=
  l.stretch.getD 0 + d

/-- LINE_STUCK (R79): CLINE has been dominant for 2 ms. -/
def execLineStuck (dt : Nat) (s : State) : Result :=
  let s := s.elapse dt
  done (if s.lct.works then (s.advanceTo (s.lct.stretchEnd stuckTime)).lineSticks else s)

/-- The line is clear: the flag is cleared, the line is idle at once, and LINE CLEAR is handed (R81). -/
def State.lineClears (s : State) : State :=
  (s.withLine { s.lct with stuck := false, phase := .idle }).speLineClear

/-- LINE_CLEAR (R81): CLINE has been recessive for 10 ms while the stuck flag was set. -/
def execLineClear (dt : Nat) (s : State) : Result :=
  let s := s.elapse dt
  done (if s.lct.stuck then (s.advanceTo (s.lct.stretchEnd clearTime)).lineClears else s)

end Sys2Proof.Machine
end

