-- ==== Sys2Proof/Machine/Dispatch.lean ====
section
/-!
DEFINITION. One arm per command, each one call of its meaning.
-/

namespace Sys2Proof.Machine

def exec (i : Instr) (s : State) : Host.Outcome State Fault Refusal :=
  match i with
  | .nodeReset dt cause => Sys2Proof.Machine.execNodeReset s dt cause
  | .nodeResetEnd dt release => Sys2Proof.Machine.execNodeResetEnd dt release s
  | .tryFails dt failed => Sys2Proof.Machine.execTryFails dt failed s
  | .pausedExpiry => Sys2Proof.Machine.execPausedExpiry s
  | .blockRead dt bytes => Sys2Proof.Machine.execBlockRead dt bytes s
  | .acquisitionWindowEnd runs level => Sys2Proof.Machine.execAcquisitionWindowEnd runs level s
  | .leadingEdge dt held level => Sys2Proof.Machine.execLeadingEdge dt held level s
  | .trailingEdge dt held level => Sys2Proof.Machine.execTrailingEdge dt held level s
  | .broadDecided => Sys2Proof.Machine.execBroadDecided s
  | .tipSample code => Sys2Proof.Machine.execTipSample code s
  | .restSample code => Sys2Proof.Machine.execRestSample code s
  | .stall => Sys2Proof.Machine.execStall s
  | .lockExpiry => Sys2Proof.Machine.execLockExpiry s
  | .busEdge dt held level => Sys2Proof.Machine.execBusEdge dt held level s
  | .busSilent => Sys2Proof.Machine.execBusSilent s
  | .busLineJudged => Sys2Proof.Machine.execBusLineJudged s
  | .present dt held => Sys2Proof.Machine.execPresent dt held s
  | .absent dt held => Sys2Proof.Machine.execAbsent dt held s
  | .resetHoldExpiry => Sys2Proof.Machine.execResetHoldExpiry s
  | .bootLimitExpiry => Sys2Proof.Machine.execBootLimitExpiry s
  | .stallGraceExpiry => Sys2Proof.Machine.execStallGraceExpiry s
  | .fillFieldStart => Sys2Proof.Machine.execFillFieldStart s
  | .fillLineStart => Sys2Proof.Machine.execFillLineStart s
  | .fillPulseEnd => Sys2Proof.Machine.execFillPulseEnd s
  | .lineIdle dt => Sys2Proof.Machine.execLineIdle dt s
  | .lostArbitration bit => Sys2Proof.Machine.execLostArbitration bit s
  | .bitClash char bit read => Sys2Proof.Machine.execBitClash char bit read s
  | .framingError dt kind => Sys2Proof.Machine.execFramingError dt kind s
  | .frameJudged contents check gapDominant => Sys2Proof.Machine.execFrameJudged contents check gapDominant s
  | .ackWindowEnd middles => Sys2Proof.Machine.execAckWindowEnd middles s
  | .lineStuck dt => Sys2Proof.Machine.execLineStuck dt s
  | .lineClear dt => Sys2Proof.Machine.execLineClear dt s
  | .helloTaken => Sys2Proof.Machine.execHelloTaken s
  | .seatedTaken => Sys2Proof.Machine.execSeatedTaken s
  | .bidTaken => Sys2Proof.Machine.execBidTaken s
  | .offerTaken => Sys2Proof.Machine.execOfferTaken s
  | .answerTaken => Sys2Proof.Machine.execAnswerTaken s
  | .passTaken => Sys2Proof.Machine.execPassTaken s
  | .joinWindowExpiry => Sys2Proof.Machine.execJoinWindowExpiry s
  | .bidWindowExpiry => Sys2Proof.Machine.execBidWindowExpiry s
  | .seatWaitExpiry => Sys2Proof.Machine.execSeatWaitExpiry s
  | .answerTimerExpiry => Sys2Proof.Machine.execAnswerTimerExpiry s
  | .coinQuietExpiry => Sys2Proof.Machine.execCoinQuietExpiry s
  | .passTimerExpiry => Sys2Proof.Machine.execPassTimerExpiry s
  | .closure dt held ch => Sys2Proof.Machine.execClosure dt held ch s
  | .detectedCoin dt held ch => Sys2Proof.Machine.execDetectedCoin dt held ch s
  | .coinJam ch => Sys2Proof.Machine.execCoinJam ch s
  | .pulseTimerExpiry ch => Sys2Proof.Machine.execPulseTimerExpiry ch s
  | .gapTimerExpiry ch => Sys2Proof.Machine.execGapTimerExpiry ch s
  | .press dt held input => Sys2Proof.Machine.execPress dt held input s
  | .release dt held input => Sys2Proof.Machine.execRelease dt held input s
  | .lampLevelChange dt held lamp lit => Sys2Proof.Machine.execLampLevelChange dt held lamp lit s
  | .selectHoldExpiry => Sys2Proof.Machine.execSelectHoldExpiry s
  | .browseTimerExpiry => Sys2Proof.Machine.execBrowseTimerExpiry s
  | .noticeTimerExpiry => Sys2Proof.Machine.execNoticeTimerExpiry s
  | .statusLampBlink lamp => Sys2Proof.Machine.execStatusLampBlink lamp s
  | .lineFall dt fall => Sys2Proof.Machine.execLineFall dt fall s
  | .jammedClosureEnd dt held ch => Sys2Proof.Machine.execJammedClosureEnd dt held ch s
  | .presenceFirstDecision dt held => Sys2Proof.Machine.execPresenceFirstDecision dt held s

end Sys2Proof.Machine
end

