-- ==== Sys2Proof/Machine/Schedule.lean ====
section
/-!
DEFINITION. The self-timed commands and their moments: what the block does by itself while no command waits (assumption log 2 and 30).
A command that needs something from outside (a sample, the readings of a window) is never taken by itself.
-/

namespace Sys2Proof.Machine

/-- The moment at which the oldest entry of the receive queue is taken: at once, if it is of kind `k` and not held (R75). -/
def State.takenDue (s : State) (k : FrameKind) : Timer :=
  (s.oldestEntry k).map (fun _ => s.now)

/-- The self-timed commands with their moments, in the order in which those of one moment are taken. -/
def State.selfTimed (s : State) : List (Timer × Instr) :=
  [(s.takenDue .hello, .helloTaken), (s.takenDue .seated, .seatedTaken), (s.takenDue .bid, .bidTaken),
   (s.takenDue .offer, .offerTaken), (s.takenDue .answer, .answerTaken), (s.takenDue .pass, .passTaken),
   (s.cfl.pause, .pausedExpiry), (s.broadDue, .broadDecided), (s.pcl.stallTimer, .stall), (s.pcl.lockExpiry, .lockExpiry),
   (s.bus.silenceTimer, .busSilent), (s.busJudgeDue, .busLineJudged)] ++
  [(s.bsv.resetHold, .resetHoldExpiry), (s.bsv.bootLimit, .bootLimitExpiry), (s.bsv.stallGrace, .stallGraceExpiry),
   (s.fillFieldDue, .fillFieldStart), (s.fillLineDue, .fillLineStart), (s.fillPulseDue, .fillPulseEnd),
   (s.spe.joinWindow, .joinWindowExpiry), (s.spe.bidWindow, .bidWindowExpiry), (s.spe.seatWait, .seatWaitExpiry),
   (s.spe.answerTimer, .answerTimerExpiry), (s.spe.coinQuiet, .coinQuietExpiry), (s.spe.passTimer, .passTimerExpiry)] ++
  [(s.cnu.one.jamDue, .coinJam .one), (s.cnu.two.jamDue, .coinJam .two),
   (s.cnu.one.pulseDue, .pulseTimerExpiry .one), (s.cnu.two.pulseDue, .pulseTimerExpiry .two),
   (s.cnu.one.gapDue, .gapTimerExpiry .one), (s.cnu.two.gapDue, .gapTimerExpiry .two),
   (s.mnu.selectTimer, .selectHoldExpiry), (s.mnu.browseTimer, .browseTimerExpiry), (s.mnu.noticeTimer, .noticeTimerExpiry),
   (s.lamps.st0.phaseEnd, .statusLampBlink .st0), (s.lamps.st1.phaseEnd, .statusLampBlink .st1),
   (s.lamps.st2.phaseEnd, .statusLampBlink .st2)]

/-- The earliest of a list of timed commands, the first of those with one moment. -/
def earliest : List (Timer × Instr) → Option (Moment × Instr)
  | [] => none
  | (none, _) :: rest => earliest rest
  | (some m, c) :: rest =>
    match earliest rest with
    | some (m', c') => if m ≤ m' then some (m, c) else some (m', c')
    | none => some (m, c)

/-- The self-timed command that is due now, if any. -/
def State.due (s : State) : Option Instr :=
  match earliest s.selfTimed with
  | some (m, c) => if m ≤ s.now then some c else none
  | none => none

end Sys2Proof.Machine
end

