-- ==== Sys2Proof/Machine/Step.lean ====
section
/-!
DEFINITION. One step of the block, and putting a command at the front of its queue.
-/

namespace Sys2Proof.Machine

/-- One step: the command at the front of the queue; on an empty queue the self-timed command that is due, and where none is due one
tick passes (assumption log 2 and 32). -/
def step (s : State) : Host.Outcome State Fault Refusal :=
  match s.pending with
  | c :: rest => exec c (s.withPending rest)
  | [] =>
    match s.due with
    | some c => exec c s
    | none => .next (s.elapse 1)

/-- The state with the command that a word of the table spells at the front of its queue; unchanged where the word spells none
(assumption log 28). -/
def State.withFetchWord (s : State) (nbits w : Nat) : State :=
  match decodeTableWord nbits w with
  | some c => s.withPending (c :: s.pending)
  | none => s

end Sys2Proof.Machine
end

