-- ==== Sys2Proof/Machine/Outputs.lean ====
section
/-!
DEFINITION. The output pins as the state gives them (R185): the cabinet line (R62, R66), the video and audio bus (R56, R97, R164), the
edge lines (R153, R156), the coin outputs (R145), and the configuration port (R179).
-/

namespace Sys2Proof.Machine

/-! ## The cabinet line -/

/-- The level that a character sent from `start` has at moment `m`, by its bit times (R62). -/
def charLevelAt (c : Byte) (start m : Moment) : Level :=
  if start ≤ m ∧ m < start + ackWindow then charLevel c ((m - start) / bitTime) else .recessive

/-- The level that a frame sent from `start` has at moment `m`: its characters back to back (R62). -/
def frameLevelAt (chars : List Byte) (start m : Moment) : Level :=
  frameLevel chars ((m - start) / (10 * bitTime)) ((m - start) % (10 * bitTime) / bitTime)

/-- What the node drives on CLINE now: its frame in transmission, its ACK character, or nothing (R62, R66, R70). -/
def State.clineDriven (s : State) : Level :=
  match s.lct.sending, s.lct.acking with
  | some start, _ =>
    match s.lct.txq with
    | f :: _ => frameLevelAt (frameChars s.rank f) start s.now
    | [] => .recessive
  | none, some start => charLevelAt 0#8 start s.now
  | none, none => .recessive

/-! ## The video and audio bus -/

/-- What the output switch drives onto bus CSYNC: nothing while it is open, otherwise the sync of its source with its polarity
(R56, R97). -/
def State.busSync (s : State) : Option (SyncLevel × Polarity) :=
  match s.osw.video, s.osw.source with
  | .isOpen, _ => none
  | .isClosed, .board => some (s.ssl.logicSync, s.drivenPolarity)
  | .isClosed, .fill => some (s.fsg.sync, s.drivenPolarity)

/-- What stands on bus RGB. -/
inductive BusPicture where
  | disconnected
  | board
  | black
  | colour (c : Fin 8)
  deriving DecidableEq, Repr

/-- What the output switch itself drives onto bus RGB: board RGB, or black while fill or PASSING forces it (R56, R97). -/
def State.switchPicture (s : State) : BusPicture :=
  match s.osw.video with
  | .isOpen => .disconnected
  | .isClosed => if s.osw.fillBlack ∨ s.osw.passBlack then .black else .board

/-- What stands on bus RGB during overlay dot `k` of the line in progress (R164). -/
def State.busPicture (s : State) (k : Nat) : BusPicture :=
  match s.osw.video, s.dotOutput k with
  | .isOpen, _ => .disconnected
  | .isClosed, .picture => s.switchPicture
  | .isClosed, .black => .black
  | .isClosed, .colour c => .colour c

/-- The start of line `c` as it appears on the bus: the filter delay of the board slicer after its timestamp under source BOARD, and the
start itself under FILL (R2, R165). -/
def State.lineShown (s : State) (c : LineCount) : Moment :=
  match s.osw.source with
  | .board => c.start + edgeFilter
  | .fill => c.start

/-- The overlay dot in progress now, counted from the line start as it appears on the bus: none while no line is drawn, and none once the
line's last dot has ended. The next line start begins the next line's dots, so that a dot not yet begun is not drawn (R165, R166). -/
def State.dotNow (s : State) : Option Nat :=
  match s.ovg.count, s.ovg.row, s.quantities.overlay with
  | some c, some row, some o => if s.now < s.lineShown c then none else dotAt row.l16 o.dots (s.now - s.lineShown c)
  | _, _, _ => none

/-- What stands on bus RGB now: the dot in progress, or what the output switch drives (R164, R166). -/
def State.busPictureNow (s : State) : BusPicture :=
  match s.dotNow with
  | some k => s.busPicture k
  | none => s.switchPicture

/-- Whether board audio reaches the bus audio (R97). -/
def State.busAudio (s : State) : Bool :=
  s.osw.audio == .isClosed

/-! ## Edge lines and coin outputs -/

/-- A driven or floating pin. -/
inductive PinLevel where
  | low
  | high
  | floating
  deriving DecidableEq, Repr

/-- The level of an edge line by mode (R153). -/
def modeLevel (mode : MapMode) (active : Bool) : PinLevel :=
  match mode, active with
  | .off, _ => .floating
  | .lowActive, true => .low
  | .lowActive, false => .floating
  | .highActive, true => .high
  | .highActive, false => .low

/-- The level of edge line `k`: high impedance without a map table (R150, R153, R154). -/
def State.edgeLevel (s : State) (k : Fin 24) : PinLevel :=
  match s.mapTable with
  | none => .floating
  | some map => modeLevel map[k].mode s.cmp.active[k]

/-- The level of EC1 or EC2: high impedance while dormant, active during a pulse, otherwise idle (R135, R145). -/
def State.coinOut (s : State) (ch : Channel) : PinLevel :=
  if s.cnu.dormant then .floating
  else if ((s.cnu.chan ch).delivery == .pulse) = s.quantities.coinActiveHigh then .high
  else .low

/-! ## The configuration port (R179) -/

/-- The seven-bit device address of the configuration memory (R179). -/
def deviceAddress : BitVec 7 := 0b1010011#7

/-- One part of a try on the two-wire port: the conditions, a byte written with its acknowledgement awaited, a byte read and
acknowledged or not (R179). -/
inductive PortStep where
  | start
  | write (b : Byte) (ack : AckStep)
  | repeatedStart
  | read (acknowledge : Bool)
  | stop
  deriving DecidableEq, Repr

/-- The steps of one try, in order (R179). -/
def trySteps : List PortStep :=
  [.start, .write (deviceAddress ++ 0#1) .deviceWrite, .write 0#8 .memoryAddress, .repeatedStart,
   .write (deviceAddress ++ 1#1) .deviceRead] ++
  List.replicate 127 (.read true) ++ [.read false, .stop]

/-- What the port does in one bit time: a condition, or a bit for which it pulls CFG_SDA low or leaves it released (R179). -/
inductive PortSlot where
  | start
  | repeatedStart
  | bit (low : Bool)
  | stop
  deriving DecidableEq, Repr

/-- The bit times of a step: a written byte the most significant bit first with CFG_SDA released for its acknowledgement, a read byte
with CFG_SDA released and then low to acknowledge it (R179). -/
def PortStep.slots : PortStep → List PortSlot
  | .start => [.start]
  | .write b _ => (charBits b).map (fun x => PortSlot.bit (!x)) ++ [.bit false]
  | .repeatedStart => [.repeatedStart]
  | .read acknowledge => List.replicate 8 (.bit false) ++ [.bit acknowledge]
  | .stop => [.stop]

/-- The bit times of one try, 1,182 in all. -/
def trySlots : List PortSlot := trySteps.flatMap PortStep.slots

/-- A bit time of the port, 100 kHz, in ticks (R179). -/
def portBitTime : Nat := 480

/-- The drive of the two lines of the port (R179, R185). -/
structure PortDrive where
  scl : PinLevel
  sda : PinLevel
  deriving DecidableEq, Repr

/-- An open-drain output: low, or floating (R185). -/
def openDrain (low : Bool) : PinLevel :=
  if low then .low else .floating

/-- The drive in quarter `q` of a bit time. A start condition is a fall of CFG_SDA and a stop condition its rise while CFG_SCL is high;
CFG_SDA changes otherwise only while CFG_SCL is low (R179). That the changes fall on the quarters is the model's choice (assumption
log 29). -/
def PortSlot.drive (slot : PortSlot) (q : Nat) : PortDrive :=
  match slot with
  | .start => { scl := openDrain (decide (q = 3)), sda := openDrain (decide (2 ≤ q)) }
  | .repeatedStart => { scl := openDrain (decide (q = 0 ∨ q = 3)), sda := openDrain (decide (2 ≤ q)) }
  | .bit low => { scl := openDrain (decide (q = 0 ∨ q = 3)), sda := openDrain low }
  | .stop => { scl := openDrain (decide (q = 0)), sda := openDrain (decide (q ≤ 1)) }

/-- Both lines released. -/
def PortDrive.released : PortDrive := { scl := .floating, sda := .floating }

/-- The drive `t` ticks into a sequence of bit times, released after it. -/
def slotsDrive (slots : List PortSlot) (t : Nat) : PortDrive :=
  match slots[t / portBitTime]? with
  | some slot => slot.drive (t % portBitTime / (portBitTime / 4))
  | none => .released

/-- What the loader drives on CFG_SCL and CFG_SDA now: the try in progress, the stop condition after a failed one, or nothing (R179,
R185). The bit times run from the try's start condition; a hold of the clock by the memory delays them (assumption log 29). -/
def State.cfgDriven (s : State) : PortDrive :=
  match s.cfl.port with
  | .released => .released
  | .reading start => slotsDrive trySlots (s.now - start)
  | .stopping start => slotsDrive [.stop] (s.now - start)

end Sys2Proof.Machine
end

