-- ==== Sys2Proof/Safety.lean ====
section
/-!
DEFINITION. What claims about the part speak of: the parts of State, agreement outside some of them, and the device laws and ranges that
every step is claimed to keep.
-/

namespace Sys2Proof.Machine

/-! ## Frames -/

/-- The parts of State. `cells` is the cell memory of the overlay generator, `drawing` the rest of it. -/
inductive Part where
  | now
  | rank
  | cfg
  | cfl
  | ssl
  | pcl
  | bus
  | tmu
  | bsv
  | osw
  | fsg
  | lct
  | spe
  | roster
  | cnu
  | cmp
  | drawing
  | cells
  | mnu
  | lamps
  | pending
  deriving DecidableEq, Repr

/-- Two states agree on a part. -/
def State.agreesOn (s t : State) : Part → Prop
  | .now => t.now = s.now
  | .rank => t.rank = s.rank
  | .cfg => t.cfg = s.cfg
  | .cfl => t.cfl = s.cfl
  | .ssl => t.ssl = s.ssl
  | .pcl => t.pcl = s.pcl
  | .bus => t.bus = s.bus
  | .tmu => t.tmu = s.tmu
  | .bsv => t.bsv = s.bsv
  | .osw => t.osw = s.osw
  | .fsg => t.fsg = s.fsg
  | .lct => t.lct = s.lct
  | .spe => t.spe = s.spe
  | .roster => t.roster = s.roster
  | .cnu => t.cnu = s.cnu
  | .cmp => t.cmp = s.cmp
  | .drawing => t.ovg.count = s.ovg.count ∧ t.ovg.draw = s.ovg.draw ∧ t.ovg.row = s.ovg.row
  | .cells => t.ovg.cells = s.ovg.cells
  | .mnu => t.mnu = s.mnu
  | .lamps => t.lamps = s.lamps
  | .pending => t.pending = s.pending

/-- Two states agree on every part but the given ones. -/
def State.agreesOutside (s t : State) (parts : List Part) : Prop :=
  ∀ p : Part, p ∉ parts → s.agreesOn t p

/-- The parts that follow the others at the end of every command: the cell memory and the status lamps (assumption log 26). -/
def follows : List Part := [.cells, .lamps]

/-- The parts a change of role, or of the board state, may reach through the blocks it is handed to (R40, R96). -/
def reached : List Part := [.bus, .osw, .fsg, .cnu, .cmp, .drawing, .mnu] ++ follows

/-! ## Device laws -/

/-- Every step that begins where `Inv` holds ends where it holds. -/
def Keeps (Inv : State → Prop) : Prop :=
  ∀ s t : State, Inv s → step s = .next t → Inv t

/-- The pending, carried and late counts of a channel stay within 0 to 31 (R140). -/
def CoinChannel.Within (c : CoinChannel) : Prop :=
  c.pending ≤ 31 ∧ c.carried ≤ 31 ∧ c.late ≤ 31

/-- Every count of the coin unit stays within 0 to 31 (R140, Law of the device). -/
def State.CoinsWithin (s : State) : Prop :=
  s.cnu.one.Within ∧ s.cnu.two.Within

/-- The attempt count stays within 0 to 3 (R52, Law of the device). -/
def State.AttemptsWithin (s : State) : Prop :=
  s.bsv.attempts ≤ 3

/-- No two waiting frames have the same kind and the same target: the head is in transmission and not waiting (R76). -/
def distinctWaiting (q : List Frame) : Prop :=
  q.tail.Pairwise (fun f g => f.sameSlot g = false)

/-- Each queue holds at most four frames, and no two waiting frames have the same kind and target (R76, Law of the device). -/
def State.QueuesWithin (s : State) : Prop :=
  s.lct.rxq.length ≤ 4 ∧ s.lct.txq.length ≤ 4 ∧ distinctWaiting s.lct.txq

/-- The two switches and the blanking of PASSING stand as the role requires (R97). -/
def State.SwitchesFollowRole (s : State) : Prop :=
  (s.osw.video = .isClosed ↔ s.spe.role = .holding ∨ s.spe.role = .offering ∨ s.spe.role = .passing) ∧
  (s.osw.audio = .isClosed ↔ s.spe.role = .holding ∨ s.spe.role = .offering) ∧
  (s.osw.passBlack = true ↔ s.spe.role = .passing)

/-- Fill is active exactly while the switch is closed with source FILL, and forces black exactly then (R56, R61). -/
def State.FillFollowsSource (s : State) : Prop :=
  (s.fsg.active = true ↔ s.osw.video = .isClosed ∧ s.osw.source = .fill) ∧ s.osw.fillBlack = s.fsg.active

/-- While the switch is closed with source BOARD the board is READY, and a return is armed only while the switch is closed and the board
READY (R56, R58). -/
def State.BoardSourceIsReady (s : State) : Prop :=
  (s.osw.video = .isClosed → s.osw.source = .board → s.bsv.board = .ready) ∧
  (s.osw.armed.isSome = true → s.osw.video = .isClosed ∧ s.bsv.board = .ready)

/-- The line controller's mode and the load: OFF, STARTUP and nothing followed until the load ends; in OFF and in MUTE nothing is sent
and nothing queued; a WITHDRAWN node is in MUTE (R70, R99, R101, Law of the device; R179). -/
def State.WithdrawnIsSilent (s : State) : Prop :=
  (s.spe.role = .withdrawn → s.lct.mode = .mute) ∧
  (s.lct.mode ≠ .running → s.lct.sending = none ∧ s.lct.acking = none ∧ s.lct.txq = []) ∧
  (s.lct.mode = .off →
    s.lct.phase = .blind ∧ s.lct.stuck = false ∧ s.spe.role = .startup ∧ s.spe.joinWindow = none) ∧
  (s.lct.mode = .off ↔ s.cfl.load = .held ∨ s.cfl.load = .reading ∨ s.cfl.load = .paused) ∧
  (s.cfl.pause.isSome = true → s.cfl.load = .paused)

/-- The bid set holds each rank at most once, and is empty outside BIDDING (R104, Law of the device). -/
def State.BidSetDistinct (s : State) : Prop :=
  s.spe.bidSet.Nodup ∧ (s.spe.role ≠ .bidding → s.spe.bidSet = [])

/-- The menu is open only while the role is HOLDING, OFFERING or PASSING (R167). -/
def State.MenuFollowsRole (s : State) : Prop :=
  s.mnu.state ≠ .closed → s.spe.role = .holding ∨ s.spe.role = .offering ∨ s.spe.role = .passing

/-- The mapper is FOLLOWING exactly under the conditions of R155, and while it is PARKED no edge line is active and no release-seen flag
is set (R155, R156, Law of the device). -/
def State.EdgesFollow (s : State) : Prop :=
  (s.cmp.following = true ↔
    s.mapTable.isSome = true ∧ s.spe.role = .holding ∧ s.mnu.state = .closed ∧
      s.bsv.board ≠ .resetting ∧ s.bsv.board ≠ .vacant) ∧
  (s.cmp.following = false → s.cmp.active = noLines ∧ s.cmp.seen = noLines)

/-- BRST is asserted in RESETTING alone, and each timer of the board supervisor runs only in the state that starts it (R40). -/
def State.SupervisorConsistent (s : State) : Prop :=
  (s.bsv.brst = true ↔ s.bsv.board = .resetting) ∧
  (s.bsv.resetHold.isSome = true → s.bsv.board = .resetting) ∧
  (s.bsv.bootLimit.isSome = true → s.bsv.board = .settling) ∧
  (s.bsv.stallGrace.isSome = true → s.bsv.board = .stalled) ∧
  (s.bsv.loadPeriod = true → s.bsv.board = .resetting ∧ s.bsv.resetHold = none)

/-- A detected coin joins the own pending count only under duty OWN, which HOLDING and OFFERING alone give (R138, R139, Law of the
device). -/
def State.DutyFollowsRole (s : State) : Prop :=
  s.cnu.duty = .own → s.spe.role = .holding ∨ s.spe.role = .offering

/-- Each timer of the screen protocol engine runs only in the role it belongs to (R99, R104, R107, R115). -/
def State.RoleTimers (s : State) : Prop :=
  (s.spe.joinWindow.isSome = true → s.spe.role = .startup) ∧
  (s.spe.bidWindow.isSome = true → s.spe.role = .bidding) ∧
  (s.spe.seatWait.isSome = true → s.spe.role = .standby) ∧
  (s.spe.answerTimer.isSome = true → s.spe.role = .offering) ∧
  (s.spe.coinQuiet.isSome = true → s.spe.role = .passing) ∧
  (s.spe.passTimer.isSome = true → s.spe.role = .accepted)

/-- A holder's view is its own rank and a bidder's is NONE (R96, R104, R108). -/
def State.ViewFollowsRole (s : State) : Prop :=
  (s.spe.role = .holding ∨ s.spe.role = .offering ∨ s.spe.role = .passing → s.spe.view = some s.rank) ∧
  (s.spe.role = .bidding → s.spe.view = none)

/-- CBLK is asserted in exactly the situations R147 lists: the coin unit is dormant, the role is STARTUP, BIDDING, PASSING or ACCEPTED,
the role is STANDBY and the view NONE, or the role is HOLDING or OFFERING and the board not READY. -/
def State.CblkFollows (s : State) : Prop :=
  s.cnu.cblk = true ↔
    s.cnu.dormant = true ∨
    s.spe.role = .startup ∨ s.spe.role = .bidding ∨ s.spe.role = .passing ∨ s.spe.role = .accepted ∨
    s.spe.role = .standby ∧ s.spe.view = none ∨
    (s.spe.role = .holding ∨ s.spe.role = .offering) ∧ s.bsv.board ≠ .ready

/-- The quantities the measurement unit, the classifier, the line controller and the contention check count stay within the ranges their
tables give (R12, R30, R32, R78, R110). -/
def State.CountsWithin (s : State) : Prop :=
  s.pcl.lineCount ≤ 255 ∧ s.pcl.oddCount ≤ 255 ∧
  s.tmu.ring.length ≤ 4 ∧ s.tmu.stable ≤ 15 ∧ s.tmu.drift ≤ 3 ∧
  s.lct.clash ≤ 255 ∧ s.lct.checkError ≤ 255 ∧ s.lct.shortFrame ≤ 255 ∧ s.lct.overrun ≤ 255 ∧
  s.osw.mismatches ≤ 7

/-- The hit buffer holds at most 17 hits: none in MASKING, 1 to 16 in COLLECTING, 17 in FULL (R21, R22). -/
def State.HitsFollowPhase (s : State) : Prop :=
  s.tmu.hits.length ≤ 17 ∧ (s.tmu.phase = .masking → s.tmu.hits = []) ∧
  (s.tmu.phase = .collecting → 1 ≤ s.tmu.hits.length ∧ s.tmu.hits.length ≤ 16) ∧
  (s.tmu.phase = .full → s.tmu.hits.length = 17)

/-! ## What the lamps show (R182) -/

/-- A lamp in its pattern: dark, lit, or in a blink phase that will end (R182). -/
def Lamp.InPattern (l : Lamp) : Prop :=
  match l.pattern with
  | .dark => l.lit = false ∧ l.phaseEnd = none
  | .steady => l.lit = true ∧ l.phaseEnd = none
  | .slow => l.phaseEnd.isSome = true
  | .fast => l.phaseEnd.isSome = true

/-- Some latched fault is set (R182). -/
def State.SomeFault (s : State) : Prop :=
  s.ssl.lowSwing = true ∨ s.ssl.highSwing = true ∨ s.bsv.offWindow = true ∨ s.bsv.boardFailed = true ∨
  s.lct.lineStuck = true ∨ s.lct.rankClash = true ∨ s.cnu.one.jam = true ∨ s.cnu.two.jam = true ∨
  s.cnu.overflow = true ∨ s.cnu.lateCoins = true

/-- ST0 shows the role, ST1 the board state, ST2 the withdrawal and the latched faults; during node reset all three are dark (R182). -/
def State.LampsShown (s : State) : Prop :=
  (s.lamps.st0.InPattern ∧ s.lamps.st1.InPattern ∧ s.lamps.st2.InPattern) ∧
  (s.cfl.load = .held → s.lamps.st0.pattern = .dark ∧ s.lamps.st1.pattern = .dark ∧ s.lamps.st2.pattern = .dark) ∧
  (s.cfl.load ≠ .held →
    s.lamps.st0.pattern =
      (if s.spe.role = .holding then .steady
       else if s.spe.role = .offering ∨ s.spe.role = .passing ∨ s.spe.role = .accepted then .slow
       else .dark) ∧
    s.lamps.st1.pattern = (if s.bsv.board = .ready then .steady else .dark) ∧
    (s.spe.role = .withdrawn → s.spe.withdrawal = some .noConfig → s.lamps.st2.pattern = .fast) ∧
    (s.spe.role = .withdrawn → s.spe.withdrawal = some .rankClash → s.lamps.st2.pattern = .slow) ∧
    (s.spe.role ≠ .withdrawn → s.SomeFault → s.lamps.st2.pattern = .steady) ∧
    (s.spe.role ≠ .withdrawn → ¬s.SomeFault → s.lamps.st2.pattern = .dark))

/-! ## What the cell memory holds (R172 to R174) -/

/-- The cell of a row and a column: row by row, 24 columns each (R163). -/
def State.cell (s : State) (row : Fin 10) (column : Fin 24) : Cell :=
  s.ovg.cells[24 * row.val + column.val]

/-- A row holds a text from column 0, and spaces after it. -/
def State.RowHolds (s : State) (row : Fin 10) (text : List Glyph) : Prop :=
  ∀ c : Fin 24, (s.cell row c).glyph = text.getD c.val 0

/-- A text and the spaces that fill `width` columns with it. -/
def padded (width : Nat) (text : List Glyph) : List Glyph :=
  text ++ List.replicate (width - text.length) 0

/-- A number in decimal, right-aligned in `width` columns with leading spaces (R174): column `j` stands for the power of ten
`width - 1 - j`. -/
def figures (width n : Nat) : List Glyph :=
  (List.range width).map (fun j =>
    if j + 1 < width ∧ n < 10 ^ (width - 1 - j) then 0 else digitGlyph (n / 10 ^ (width - 1 - j) % 10))

/-- The notice line: the text of the notice in its colour; without one NO SIGNAL in colour 6 while fill is active; otherwise blank. Its
background is set but for the blank line of a CLOSED menu (R172, R173). -/
def State.NoticeShown (s : State) : Prop :=
  (∀ n, s.mnu.notice = some n →
    s.RowHolds 9 (match n with
      | .switching => glyphText ['S', 'W', 'I', 'T', 'C', 'H', 'I', 'N', 'G']
      | .notReady => glyphText ['N', 'O', 'T', ' ', 'R', 'E', 'A', 'D', 'Y']
      | .busy => glyphText ['B', 'U', 'S', 'Y']
      | .lineFault => glyphText ['L', 'I', 'N', 'E', ' ', 'F', 'A', 'U', 'L', 'T']
      | .noAnswer => glyphText ['N', 'O', ' ', 'A', 'N', 'S', 'W', 'E', 'R']
      | .switchFailed => glyphText ['S', 'W', 'I', 'T', 'C', 'H', ' ', 'F', 'A', 'I', 'L', 'E', 'D']
      | .boardFailed => glyphText ['B', 'O', 'A', 'R', 'D', ' ', 'F', 'A', 'I', 'L', 'E', 'D']) ∧
    ∀ c, (s.cell 9 c).colour = (if n = .switching then 7 else 4) ∧ (s.cell 9 c).background = true) ∧
  (s.mnu.notice = none → s.fsg.active = true →
    s.RowHolds 9 (glyphText ['N', 'O', ' ', 'S', 'I', 'G', 'N', 'A', 'L']) ∧
    ∀ c, (s.cell 9 c).colour = 6 ∧ (s.cell 9 c).background = true) ∧
  (s.mnu.notice = none → s.fsg.active = false →
    s.RowHolds 9 [] ∧ ∀ c, (s.cell 9 c).background = decide (s.mnu.state ≠ .closed))

/-- The row of a rank on the game list: one below those of the listed ranks before it (R173). -/
def State.listRow (s : State) (r : Rank) : Nat :=
  1 + (allRanks.filter (fun k => decide (k < r) && s.listed k)).length

/-- The rows of the game list in BROWSE, WAIT and NOTICE: the heading, one row per listed entry in rank order with the cursor mark, the
rank digit, the title or BOARD and the digit, and the state mark; blank rows after them, all on background. CLOSED, rows 0 to 8 are blank
with background clear (R173). -/
def State.ListShown (s : State) : Prop :=
  (s.mnu.state = .closed → ∀ row : Fin 10, row ≠ 9 → s.RowHolds row [] ∧ ∀ c, (s.cell row c).background = false) ∧
  (s.mnu.state = .browse ∨ s.mnu.state = .wait ∨ s.mnu.state = .notice →
    (∀ row : Fin 10, ∀ c, (s.cell row c).background = true) ∧
    s.RowHolds 0 (glyphText ['S', 'E', 'L', 'E', 'C', 'T', ' ', 'G', 'A', 'M', 'E']) ∧
    (∀ c : Fin 24, c < 11 → (s.cell 0 c).colour = 7) ∧
    (∀ r : Rank, r = s.rank ∨ s.roster[r].presence = .present → ∀ row : Fin 10, row.val = s.listRow r →
      let e := s.entry r
      (s.cell row 0).glyph = (if s.mnu.cursor = r then 54 else 0) ∧ (s.cell row 1).glyph = digitGlyph r.val ∧
      (s.cell row 2).glyph = 0 ∧
      (∀ c : Fin 24, 3 ≤ c.val → c.val < 23 → (s.cell row c).glyph =
        (e.title.getD (glyphText ['B', 'O', 'A', 'R', 'D', ' '] ++ [digitGlyph r.val])).getD (c.val - 3) 0) ∧
      (s.cell row 23).glyph =
        (if e.holding = true then 55
         else if e.board = some .ready then 56
         else if e.board = some .resetting ∨ e.board = some .settling then 57
         else if e.board = some .offWindow then 58
         else if e.board = some .stalled ∨ e.board = some .failed then 59
         else if e.board = some .vacant then 60
         else glyphOf '?') ∧
      ∀ c, (s.cell row c).colour = (if s.mnu.cursor = r then 6 else 7)) ∧
    ∀ row : Fin 10, row ≠ 9 → (allRanks.filter s.listed).length < row.val → s.RowHolds row [])

/-- The figures of the service page fit the columns R174 gives them: L16 five, HL four, W three, a line counter three. -/
def State.FiguresFit (s : State) : Prop :=
  (∀ j, s.tmu.current = some j → j.sig.l16 < 100000 ∧ j.sig.hl < 2000 ∧ j.sig.w < 1000) ∧
  s.lct.clash < 1000 ∧ s.lct.checkError < 1000 ∧ s.lct.shortFrame < 1000 ∧ s.lct.overrun < 1000

/-- A fault code while its latch is set, and four spaces while it is clear (R174). -/
def faultCode (latch : Bool) (code : List Char) : List Glyph :=
  if latch then glyphText code else [0, 0, 0, 0]

/-- The rows of the service page, as R174 lays them out column by column: rank, current signature, lines and ring, board, roster, line
counters, fault codes, and the key of the board reset. -/
def State.serviceRow (s : State) (row : Fin 9) : List Glyph :=
  match row with
  | 0 => glyphText ['S', 'E', 'R', 'V', 'I', 'C', 'E', ' ', 'R', 'A', 'N', 'K', ' '] ++ [digitGlyph s.rank.val]
  | 1 => glyphText ['S', 'I', 'G', ' '] ++
    match s.tmu.current with
    | none => glyphText ['N', 'O', 'N', 'E']
    | some j =>
      figures 5 j.sig.l16 ++ [0] ++ figures 4 j.sig.hl ++ [0] ++ figures 3 j.sig.w ++ [0] ++
        glyphText [if j.sig.hl % 2 = 1 then 'I' else 'P', ' '] ++
        match j.verdict with
        | .inWindow => glyphText ['I', 'N']
        | .outOfWindow => glyphText ['O', 'U', 'T']
  | 2 => glyphText ['L', 'I', 'N', 'E', 'S', ' '] ++
    (match s.tmu.current with
      | none => [0, 0, 0, 0, 0]
      | some j => if j.sig.hl % 2 = 1 then figures 3 (j.sig.hl / 2) ++ glyphText ['.', '5'] else figures 5 (j.sig.hl / 2)) ++
    glyphText [' ', 'R', 'I', 'N', 'G', ' '] ++
    s.tmu.ring.map (fun r => match r with
      | .complete _ _ => glyphOf 'C'
      | .incomplete => glyphOf 'I')
  | 3 => glyphText ['B', 'O', 'A', 'R', 'D', ' '] ++
    padded 11 (match s.bsv.board with
      | .vacant => glyphText ['V', 'A', 'C', 'A', 'N', 'T']
      | .resetting => glyphText ['R', 'E', 'S', 'E', 'T', 'T', 'I', 'N', 'G']
      | .settling => glyphText ['S', 'E', 'T', 'T', 'L', 'I', 'N', 'G']
      | .ready => glyphText ['R', 'E', 'A', 'D', 'Y']
      | .offWindow => glyphText ['O', 'F', 'F', ' ', 'W', 'I', 'N', 'D', 'O', 'W']
      | .stalled => glyphText ['S', 'T', 'A', 'L', 'L', 'E', 'D']
      | .failed => glyphText ['F', 'A', 'I', 'L', 'E', 'D']) ++
    [glyphOf 'A', digitGlyph s.bsv.attempts, 0, glyphOf (if s.bsv.present then 'P' else 'A')]
  | 4 => glyphText ['R', 'O', 'S', 'T', 'E', 'R', ' '] ++
    allRanks.map (fun r =>
      if r = s.rank then glyphOf '*'
      else match s.roster[r].presence with
        | .present => glyphOf 'P'
        | .unknown => glyphOf 'U'
        | .silent => glyphOf 'S')
  | 5 => glyphText ['L', 'I', 'N', 'E', ' ', 'C'] ++ figures 3 s.lct.clash ++ glyphText [' ', 'E'] ++ figures 3 s.lct.checkError ++
    glyphText [' ', 'S'] ++ figures 3 s.lct.shortFrame ++ glyphText [' ', 'O'] ++ figures 3 s.lct.overrun
  | 6 => faultCode s.ssl.lowSwing ['L', 'S', 'W', 'G'] ++ [0] ++ faultCode s.ssl.highSwing ['H', 'S', 'W', 'G'] ++ [0] ++
    faultCode s.bsv.offWindow ['O', 'F', 'F', 'W'] ++ [0] ++ faultCode s.bsv.boardFailed ['B', 'F', 'A', 'L'] ++ [0] ++
    faultCode s.lct.lineStuck ['L', 'S', 'T', 'K']
  | 7 => faultCode s.cnu.one.jam ['J', 'A', 'M', '1'] ++ [0] ++ faultCode s.cnu.two.jam ['J', 'A', 'M', '2'] ++ [0] ++
    faultCode s.cnu.overflow ['C', 'O', 'V', 'F'] ++ [0] ++ faultCode s.cnu.lateCoins ['L', 'A', 'T', 'E']
  | 8 => [54, 0] ++ glyphText ['R', 'E', 'S', 'E', 'T', ' ', 'B', 'O', 'A', 'R', 'D']

/-- The service page: each row as R174 lays it out, in colour 7 but for row 8 in colour 6, on background. -/
def State.ServiceShown (s : State) : Prop :=
  s.mnu.state = .service →
    (∀ row : Fin 10, ∀ c, (s.cell row c).background = true) ∧
    (∀ row : Fin 10, row ≠ 9 → ∀ c, (s.cell row c).colour = (if row = 8 then 6 else 7)) ∧
    (s.FiguresFit → ∀ row : Fin 9, s.RowHolds (row.castSucc) (s.serviceRow row))

/-- The cell memory shows notice line, game list and service page (R172 to R174). -/
def State.CellsShown (s : State) : Prop :=
  s.NoticeShown ∧ s.ListShown ∧ s.ServiceShown

end Sys2Proof.Machine
end

