-- ==== Sys2Proof/WellFormed.lean ====
section
/-!
DEFINITION. Which commands carry operands that an event of the spec can carry. The meanings are total: they answer for ill-formed
operands too (assumption log 3).
-/

namespace Sys2Proof

/-- A followed frame is head, target, count and the payload the count gives, before its check; a count above 27 is a framing error
instead (R64, R71). -/
def contentsWellFormed (contents : List Byte) : Bool :=
  match contents with
  | _ :: _ :: count :: payload => decide (count.toNat ≤ 27) && decide (payload.length = count.toNat)
  | _ => false

/-- The samples of an acquisition window are 20,000, and every run holds at least one (R4). -/
def runsWellFormed (runs : List SampleRun) : Bool :=
  decide ((runs.map (·.count)).sum = 20000) && runs.all (fun r => decide (0 < r.count))

/-- The operand checks, one per command that has any. -/
def Instr.wf : Instr → Bool
  | .nodeReset _ cause => match cause with
    | .nresetLow held => decide (480 ≤ held)
    | .powerOn => true
  | .nodeResetEnd _ _ => true
  | .tryFails _ failed => match failed.cause with
    | .clockHold ticks => decide (48000 < ticks)
    | .missingAck _ => true
    | .lineLowAtStart => true
  | .pausedExpiry => true
  | .blockRead _ bytes => decide (bytes.length = 128)
  | .acquisitionWindowEnd runs _ => runsWellFormed runs
  | .leadingEdge _ held _ => decide (12 ≤ held)
  | .trailingEdge _ held _ => decide (12 ≤ held)
  | .broadDecided => true
  | .tipSample _ => true
  | .restSample _ => true
  | .stall => true
  | .lockExpiry => true
  | .busEdge _ held _ => decide (12 ≤ held)
  | .busSilent => true
  | .busLineJudged => true
  | .present _ held => decide (960000 ≤ held)
  | .absent _ held => decide (960000 ≤ held)
  | .resetHoldExpiry => true
  | .bootLimitExpiry => true
  | .stallGraceExpiry => true
  | .fillFieldStart => true
  | .fillLineStart => true
  | .fillPulseEnd => true
  | .lineIdle _ => true
  | .lostArbitration bit => decide (bit < 8)
  | .bitClash char bit _ => decide (char < 31) && decide (bit < 10)
  | .framingError _ _ => true
  | .frameJudged contents _ _ => contentsWellFormed contents
  | .ackWindowEnd _ => true
  | .lineStuck _ => true
  | .lineClear _ => true
  | .helloTaken => true
  | .seatedTaken => true
  | .bidTaken => true
  | .offerTaken => true
  | .answerTaken => true
  | .passTaken => true
  | .joinWindowExpiry => true
  | .bidWindowExpiry => true
  | .seatWaitExpiry => true
  | .answerTimerExpiry => true
  | .coinQuietExpiry => true
  | .passTimerExpiry => true
  | .closure _ held _ => decide (240000 ≤ held)
  | .detectedCoin _ held _ => decide (240000 ≤ held)
  | .coinJam _ => true
  | .pulseTimerExpiry _ => true
  | .gapTimerExpiry _ => true
  | .press _ held _ => decide (48000 ≤ held)
  | .release _ held _ => decide (48000 ≤ held)
  | .lampLevelChange _ held _ _ => decide (48000 ≤ held)
  | .selectHoldExpiry => true
  | .browseTimerExpiry => true
  | .noticeTimerExpiry => true
  | .statusLampBlink _ => true
  | .lineFall _ _ => true
  | .jammedClosureEnd _ held _ => decide (240000 ≤ held)
  | .presenceFirstDecision _ held => decide (960000 ≤ held)

end Sys2Proof
end

