-- ==== Sys2Proof/Certificates/Slice0/Obligations.lean ====
section
/-!
DEFINITION. The statements for the provers. Each docstring names the rules it rests on; OBLIGATIONS.json lists them.
-/

open Sys2Proof Sys2Proof.Machine

/-! ## The step, node reset and start-up -/

/-- A step takes the command at the front of the queue and runs it with the rest of the queue left. -/
def Obligations.StepRunsFrontCommand : Prop :=
  ∀ (c : Instr) (rest : List Instr) (s : State), s.pending = c :: rest → step s = exec c { s with pending := rest }

/-- No command faults or is refused (the model's choice, assumption log 3: the spec describes no event after which the node does not go
on) and none changes the commands that wait (the model's choice, assumption log 32: the queue is the model's own). The clock does not go
back but by a node reset, and the rank changes only at a node reset and at its end (R178). -/
def Obligations.EveryCommandGoesOn : Prop :=
  ∀ (c : Instr) (s : State), ∃ t, exec c s = .next t ∧ t.pending = s.pending ∧
    ((∀ dt cause, c = .nodeReset dt cause → resetCounts cause = false) →
      s.now ≤ t.now ∧ ((∀ dt release, c ≠ .nodeResetEnd dt release) → t.rank = s.rank))

/-- Node reset, by power-on or by NRESET low for at least 10 µs, puts every block at its reset value: slicer (R10), classifier (R16),
bus sense (R17), measurement unit (R39), board supervisor (R55), output switch and fill (R61, R110), line controller (R82), screen protocol
engine (R114, R115), roster (R95), coin unit (R149), control mapper (R162), overlay and menu (R163, R177), status lamps (R182); the loader
waits in HELD, its port released, with the cause among those that keep node reset in force (R178, R179). NRESET low for less than 10 µs
resets nothing. That the waiting commands stay is the model's choice (assumption log 32). -/
def Obligations.NodeResetSetsEveryBlock : Prop :=
  ∀ (s : State) (dt held : Nat) (cause : ResetCause), cause = .nresetLow held ∨ cause = .powerOn →
    let resets := cause = .powerOn ∨ 480 ≤ held
    ∃ t, exec (.nodeReset dt cause) s = .next t ∧ t.pending = s.pending ∧
    (¬resets → t.now = s.now + dt ∧ s.agreesOutside t (.now :: follows)) ∧ (resets →
    (t.cfl.load = .held ∧ t.cfl.pause = none ∧ t.cfl.copy = none ∧ t.cfl.port = .released ∧
      t.cfgDriven = { scl := .floating, sda := .floating } ∧ t.cfl.resetEnded = none ∧ t.cfl.loadEnded = none ∧
      (t.cfl.causes.pin = true ↔ s.cfl.causes.pin = true ∨ cause ≠ .powerOn) ∧
      (t.cfl.causes.power = true ↔ s.cfl.causes.power = true ∨ cause = .powerOn)) ∧
    (t.ssl.mode = .waiting ∧ t.cfg = none ∧ t.ssl.rest = 128 ∧ t.ssl.tip = 128 ∧ t.ssl.threshold = 128 ∧
      t.ssl.polarity = .negative ∧ t.ssl.acq = AcqTotals.cleared ∧ t.ssl.pair = none ∧ t.ssl.lowSwing = false ∧
      t.ssl.highSwing = false ∧ t.ssl.logicSync = .rest) ∧
    (t.pcl.state = .quiet ∧ t.pcl.pulse = none ∧ t.pcl.lineCount = 0 ∧ t.pcl.oddCount = 0 ∧ t.pcl.ageFrom = none ∧
      t.pcl.stallTimer = none ∧ t.pcl.lockExpiry = none ∧ t.timestamp = 0#32) ∧
    (t.bus.silence = .silent ∧ t.bus.silenceTimer = none) ∧
    (t.tmu.phase = .partialCycle ∧ t.tmu.fieldStart = none ∧ t.tmu.hits = [] ∧ t.tmu.width = none ∧ t.tmu.mark = false ∧
      t.tmu.ring = [] ∧ t.tmu.stable = 0 ∧ t.tmu.drift = 0 ∧ t.tmu.current = none ∧ t.tmu.reference = none) ∧
    (t.bsv.board = .resetting ∧ t.bsv.loadPeriod = true ∧ t.bsv.brst = true ∧ t.bsv.present = false ∧ t.bsv.attempts = 0 ∧
      t.bsv.resetHold = none ∧ t.bsv.bootLimit = none ∧ t.bsv.stallGrace = none ∧ t.bsv.offWindow = false ∧
      t.bsv.boardFailed = false) ∧
    (t.osw.video = .isOpen ∧ t.osw.audio = .isOpen ∧ t.osw.source = .board ∧ t.osw.fillBlack = false ∧ t.osw.armed = none ∧
      t.osw.ownEdges = [] ∧ t.osw.awaiting = [] ∧ t.osw.mismatches = 0 ∧ t.osw.counted = none) ∧
    (t.fsg.active = false ∧ t.fsg.start = none ∧ t.fsg.line = 0 ∧ t.fsg.longer = false ∧ t.fsg.figures = none) ∧
    (t.lct.mode = .off ∧ t.clineDriven = .recessive ∧ t.lct.phase = .blind ∧ t.lct.txq = [] ∧ t.lct.attempts = 0 ∧
      t.lct.rxq = [] ∧ t.lct.clash = 0 ∧ t.lct.checkError = 0 ∧ t.lct.shortFrame = 0 ∧ t.lct.overrun = 0 ∧
      t.lct.stuck = false ∧ t.lct.lineStuck = false ∧ t.lct.rankClash = false) ∧
    (t.spe.role = .startup ∧ t.spe.view = none ∧ t.spe.withdrawal = none ∧ t.spe.bidSet = [] ∧ t.spe.joinWindow = none ∧
      t.spe.bidWindow = none ∧ t.spe.seatWait = none ∧ t.spe.requests = [] ∧ t.spe.number = 0#8 ∧ t.spe.target = none ∧
      t.spe.answerTimer = none ∧ t.spe.coinQuiet = none ∧ t.spe.passIssued = false ∧ t.spe.frozen = none ∧
      t.spe.accepted = none ∧ t.spe.passTimer = none ∧ t.spe.lastPass = none ∧ t.spe.answers = Vector.replicate 8 none ∧
      t.spe.recovering = false) ∧
    (∀ r : Rank, r ≠ t.rank →
      t.entry r = { presence := .unknown, board := none, title := none, holding := false }) ∧
    t.entry t.rank = { presence := .present, board := some .resetting, title := none, holding := false } ∧
    (t.cnu.dormant = true ∧ t.cnu.duty = .none ∧ t.cnu.one = CoinChannel.reset ∧ t.cnu.two = CoinChannel.reset ∧
      t.cnu.overflow = false ∧ t.cnu.lateCoins = false ∧ t.cnu.cblk = true ∧ ∀ ch, t.coinOut ch = .floating) ∧
    (t.cmp.dormant = true ∧ t.cmp.following = false ∧ (∀ i : Fin 26, t.cmp.pressed[i] = false ∧ t.cmp.latch[i] = false) ∧
      (∀ k : Fin 24, t.cmp.seen[k] = false ∧ t.edgeLevel k = .floating) ∧ t.cmp.lit1 = false ∧ t.cmp.lit2 = false ∧
      t.cmp.lp1 = false ∧ t.cmp.lp2 = false) ∧
    (t.mnu.state = .closed ∧ t.mnu.cursor = t.rank ∧ t.mnu.notice = none ∧ t.mnu.noticeTimer = none ∧
      t.mnu.browseTimer = none ∧ t.mnu.selectTimer = none) ∧
    (t.ovg.count = none ∧ t.ovg.draw = false ∧
      ∀ i : Fin 240, t.ovg.cells[i] = { glyph := 0, colour := 7, background := false }) ∧
    (t.lamps.st0.lit = false ∧ t.lamps.st1.lit = false ∧ t.lamps.st2.lit = false))

/-- The end of node reset, once neither cause persists, NRESET high and the supply within its range for 20 ms after power-on: the rank is
RK0 plus twice RK1 plus four times RK2, and the loader enters READING with try count 1. While a cause persists node reset stays in force
(R178, R179). That the timestamp counter has counted the ticks of the reset by then is the model's choice (assumption log 43). -/
def Obligations.NodeResetEndTakesRank : Prop :=
  ∀ (s : State) (dt supply : Nat) (nresetHigh : Bool) (p : Straps), s.cfl.load = .held →
    let pin := s.cfl.causes.pin = true ∧ nresetHigh = false
    let power := s.cfl.causes.power = true ∧ supply < 960000
    ∃ t, exec (.nodeResetEnd dt ⟨supply, nresetHigh, p⟩) s = .next t ∧ t.now = s.now + dt ∧
      (¬pin → ¬power →
        t.rank.val = p.rk0.toNat + 2 * p.rk1.toNat + 4 * p.rk2.toNat ∧
        t.cfl = { s.cfl with
          load := .reading, tries := 1, port := .reading (s.now + dt), resetEnded := some (s.now + dt)
          causes := { pin := false, power := false } } ∧
        t.mnu = { s.mnu with cursor := t.rank } ∧ s.agreesOutside t (.now :: .rank :: .cfl :: .mnu :: follows)) ∧
      (pin ∨ power →
        t.cfl = { s.cfl with causes := { pin := decide pin, power := decide power } } ∧
        s.agreesOutside t (.now :: .cfl :: follows))

/-- A failed try with tries left pauses the loader for 10 ms, releases both lines of the port, and forms a stop condition if they allow
it; a clock hold of at most 1 ms fails nothing; and the pause ends in a new try (R179). -/
def Obligations.FailedTryPausesAndRetries : Prop :=
  (∀ (s : State) (dt : Nat) (cause : TryFailure) (linesFree : Bool), s.cfl.load = .reading → s.cfl.tries < 3 →
    ∃ t, exec (.tryFails dt ⟨cause, linesFree⟩) s = .next t ∧ t.now = s.now + dt ∧
      ((∀ ticks, cause = .clockHold ticks → 48000 < ticks) →
        t.cfl = { s.cfl with
          load := .paused, pause := some (s.now + dt + 480000)
          port := if linesFree then .stopping (s.now + dt) else .released } ∧
        s.agreesOutside t (.now :: .cfl :: follows)) ∧
      (∀ ticks, cause = .clockHold ticks → ticks ≤ 48000 → s.agreesOutside t (.now :: follows))) ∧
  (∀ (s : State) (due : Moment), s.cfl.pause = some due →
    ∃ t, exec .pausedExpiry s = .next t ∧
      t.cfl = { s.cfl with
        load := .reading, tries := s.cfl.tries + 1, pause := none, port := .reading (max s.now due) } ∧
      t.now = max s.now due ∧ s.agreesOutside t (.now :: .cfl :: follows))

/-- A valid block starts the node: RUNNING, the first HELLO with reply requested and the join window of 300 ms, the slicer by its mode,
coin unit and mapper no longer dormant; and with the presence decided the load period ends, a present board in RESETTING with its reset
hold running, an absent one VACANT (R1, R42, R70, R91, R92, R99, R135, R150, R181). That the first HELLO carries the board state
after that, VACANT with the board absent, rests on the model's order: the board supervisor takes LOAD END before the line controller
hands RUNNING (assumption log 10). -/
def Obligations.ValidBlockStartsNode : Prop :=
  ∀ (s : State) (dt : Nat) (bytes : List Byte), s.cfl.load = .reading → blockValid bytes = true →
    s.lct.mode = .off → s.lct.stuck = false → s.lct.txq = [] → s.spe.role = .startup →
    ∃ t, exec (.blockRead dt bytes) s = .next t ∧
      t.cfl = { s.cfl with
        load := .endedValid, pause := none, copy := some bytes, port := .released, loadEnded := some (s.now + dt) } ∧
      t.cfg = some (blockQuantities bytes) ∧ t.lct.mode = .running ∧ t.spe.role = .startup ∧
      t.lct.txq = [Frame.mk .all (.hello false true t.bsv.board ((t.tmu.current.map (·.sig.l16)).getD 0)
        ((t.tmu.current.map (·.sig.hl)).getD 0) (blockQuantities bytes).title)] ∧ t.lct.attempts = 0 ∧
      t.spe.joinWindow = some (s.now + dt + 14400000) ∧ t.cnu.dormant = false ∧ t.cmp.dormant = false ∧
      ((blockQuantities bytes).mode = .adaptive → t.ssl.mode = .acquiring ∧ t.ssl.windowEnd = some (s.now + dt + 960000)) ∧
      ((blockQuantities bytes).mode = .fixed → t.ssl.mode = .locked ∧
        t.ssl.threshold = (blockQuantities bytes).fixedThreshold ∧ t.ssl.polarity = (blockQuantities bytes).fixedPolarity) ∧
      (s.bsv.loadPeriod = true → s.bsv.decided = true →
        (s.bsv.present = true → t.bsv = { s.bsv with
          loadPeriod := false, resetHold := some (s.now + dt + (blockQuantities bytes).resetHoldMs * 48000) }) ∧
        (s.bsv.present = false → t.bsv.board = .vacant ∧ t.bsv.brst = false ∧ t.bsv.loadPeriod = false)) ∧
      (s.bsv.loadPeriod = false ∨ s.bsv.decided = false → t.bsv = s.bsv) ∧
      t.now = s.now + dt ∧ s.agreesOutside t (.now :: .cfg :: .cfl :: .ssl :: .pcl :: .tmu :: .bsv :: .lct :: .spe :: reached)

/-- A load without a valid block, by an invalid block or by a third failed try, withdraws the node with reason NO CONFIG, mutes its line
controller and leaves its edge lines at high impedance; the port is released (R70, R99, R101, R147, R154, R179, R181). -/
def Obligations.InvalidLoadWithdrawsNode : Prop :=
  ∀ (s : State) (c : Instr) (dt : Nat) (bytes : List Byte) (step : AckStep) (linesFree : Bool),
    s.cfl.load = .reading → s.spe.role = .startup →
    (c = .blockRead dt bytes ∧ bytes.length = 128 ∧ blockValid bytes = false) ∨
      (c = .tryFails dt ⟨.missingAck step, linesFree⟩ ∧ s.cfl.tries = 3) →
    ∃ t, exec c s = .next t ∧
      t.cfl = { s.cfl with
        load := .endedInvalid, pause := none, copy := none, loadEnded := some (s.now + dt)
        port := if c = .blockRead dt bytes ∨ linesFree = false then .released else .stopping (s.now + dt) } ∧
      t.cfg = some defaultQuantities ∧
      t.lct.mode = .mute ∧ t.spe.role = .withdrawn ∧ t.spe.withdrawal = some .noConfig ∧
      t.cnu.dormant = false ∧ t.cnu.cblk = false ∧ t.ssl.mode = .acquiring ∧ t.osw.video = .isOpen ∧
      (∀ k, t.edgeLevel k = .floating) ∧ t.now = s.now + dt ∧
      s.agreesOutside t (.now :: .cfg :: .cfl :: .ssl :: .pcl :: .tmu :: .bsv :: .lct :: .spe :: reached)

/-- Every quantity a valid block gives lies in the range its chapter states (R180, R184). -/
def Obligations.ValidBlockIsInRange : Prop :=
  ∀ b : List Byte, blockValid b = true →
    let q := blockQuantities b
    q.fixedThreshold ≤ 255 ∧ 4 ≤ q.smin ∧ q.smin ≤ q.smax ∧ q.smax ≤ 250 ∧ q.maskUnits ≤ 255 ∧ q.l16Tolerance ≤ 255 ∧
    2 ≤ q.settleFields ∧ q.settleFields ≤ 15 ∧ q.l16Min ≤ q.l16Max ∧ q.l16Max ≤ 65520 ∧ q.hlMin ≤ q.hlMax ∧ q.hlMax ≤ 1022 ∧
    134 ≤ q.wMax ∧ q.wMax ≤ 384 ∧ 10 ≤ q.resetHoldMs ∧ q.resetHoldMs ≤ 1000 ∧ q.resetHoldMs % 10 = 0 ∧
    1 ≤ q.bootLimitS ∧ q.bootLimitS ≤ 60 ∧ q.title.length ≤ 20 ∧ 1 ≤ q.panelFilterMs ∧ q.panelFilterMs ≤ 15 ∧
    5 ≤ q.coinFilterMs ∧ q.coinFilterMs ≤ 50 ∧ 20 ≤ q.coinPulseMs ∧ q.coinPulseMs ≤ 200 ∧ 20 ≤ q.coinGapMs ∧
    q.coinGapMs ≤ 200 ∧
    (∃ k, q.keys = some k ∧ [k.up, k.down, k.pick, k.back].Nodup) ∧
    (∃ o, q.overlay = some o ∧ 256 ≤ o.dots ∧ o.dots ≤ 640 ∧ o.h0 ≤ 255 ∧ o.v0 ≤ 255 ∧ (o.scale = 1 ∨ o.scale = 2))

/-! ## Board sync -/

/-- The last sample of an acquisition window: with 100 to 4,999 samples in the minority level the slicer locks on the levels' means and
the lock expiry runs; otherwise a fresh window opens (R3, R4, R5, R15). -/
def Obligations.AcquisitionWindowLocksOrReopens : Prop :=
  ∀ (s : State) (runs : List SampleRun) (level : Code) (due : Moment), s.ssl.windowEnd = some due →
    s.ssl.mode = .acquiring → runsTotal runs = 20000 →
    let acq := tallyRuns runs AcqTotals.cleared
    let q := s.quantities
    (100 ≤ min acq.lowCount acq.highCount → min acq.lowCount acq.highCount ≤ 4999 →
      ∃ t, exec (.acquisitionWindowEnd runs level) s = .next t ∧ t.ssl.mode = .locked ∧
        (acq.lowCount < acq.highCount → t.ssl.polarity = .negative ∧ t.ssl.tip = acq.lowSum / acq.lowCount ∧
          t.ssl.rest = acq.highSum / acq.highCount) ∧
        (acq.highCount < acq.lowCount → t.ssl.polarity = .positive ∧ t.ssl.tip = acq.highSum / acq.highCount ∧
          t.ssl.rest = acq.lowSum / acq.lowCount) ∧
        t.ssl.threshold =
          thresholdOf t.ssl.polarity t.ssl.rest (swingUsed q.smin q.smax (absDiff t.ssl.tip t.ssl.rest)) ∧
        t.pcl = { s.pcl with lockExpiry := some (max s.now due + 1920000) } ∧ t.now = max s.now due ∧
        s.agreesOutside t (.now :: .ssl :: .pcl :: follows)) ∧
    (min acq.lowCount acq.highCount < 100 ∨ 4999 < min acq.lowCount acq.highCount →
      ∃ t, exec (.acquisitionWindowEnd runs level) s = .next t ∧
        t.ssl = { s.ssl with acq := AcqTotals.cleared, windowEnd := some (max s.now due + 960000) } ∧
        t.now = max s.now due ∧ s.agreesOutside t (.now :: .ssl :: follows))

/-- The threshold lies half the swing used from the rest level, on the side of the polarity, held within 0 to 255; a swing outside the
limits is clamped and latches its fault, and a set latch stays set (R3). -/
def Obligations.ThresholdHalfSwingFromRest : Prop :=
  ∀ (sl : Slicer) (q : Quantities), q.smin ≤ q.smax →
    let t := sl.deriveThreshold q
    let swing := if sl.tip ≤ sl.rest then sl.rest - sl.tip else sl.tip - sl.rest
    let used := max q.smin (min q.smax swing)
    (sl.polarity = .negative → sl.rest ≤ 255 → t.threshold = sl.rest - used / 2) ∧
    (sl.polarity = .positive → t.threshold = min 255 (sl.rest + used / 2)) ∧ t.threshold ≤ 255 ∧
    (t.lowSwing = true ↔ sl.lowSwing = true ∨ swing < q.smin) ∧ (t.highSwing = true ↔ sl.highSwing = true ∨ q.smax < swing) ∧
    t.rest = sl.rest ∧ t.tip = sl.tip ∧ t.polarity = sl.polarity

/-- A leading edge, dated where the change began: while ACTIVE it begins a pulse, restarts the stall timer and discards an open pair.
While QUIET it raises RESUME: ACTIVE with the resume pulse, stall timer and field age from that edge, counts 0, the lock expiry dropped,
the measurement phase PARTIAL, and a STALLED board in SETTLING with its boot limit running (R2, R6, R11, R14, R15, R23, R40, R51). That the
stall timer counts from there is the model's reading (assumption log 22), and that an interval in progress when a FIXED slicer is locked has
a leading edge its choice (assumption log 41). -/
def Obligations.LeadingEdgeBeginsPulse : Prop :=
  ∀ (s : State) (dt held : Nat) (level : Code), s.ssl.mode = .locked → s.ssl.logicSync = .rest →
    12 ≤ held → comparatorActive s.ssl.polarity s.ssl.threshold level = true →
    ∃ t, exec (.leadingEdge dt held level) s = .next t ∧ t.now = s.now + dt ∧
      let lead := s.now + dt - held
      t.ssl = { s.ssl with logicSync := .syncActive, pair := none } ∧
      (s.pcl.state = .active →
        t.pcl = { s.pcl with
          pulse := some { lead := lead, broad := false, resume := false, tip := none }
          stallTimer := some (lead + 1920000) } ∧
        s.agreesOutside t (.now :: .ssl :: .pcl :: .drawing :: follows)) ∧
      (s.pcl.state = .quiet →
        t.pcl = { state := .active, lineCount := 0, oddCount := 0, ageFrom := some lead, lockExpiry := none
                  pulse := some { lead := lead, broad := false, resume := true, tip := none }
                  stallTimer := some (lead + 1920000) } ∧
        t.tmu = { s.tmu with phase := .partialCycle } ∧
        (s.bsv.board = .stalled → t.bsv = { s.bsv with
          board := .settling, brst := false, resetHold := none, stallGrace := none
          bootLimit := some (s.now + dt + 1000 * s.quantities.bootLimitS * 48000) }) ∧
        (s.bsv.board ≠ .stalled → s.agreesOutside t (.now :: .ssl :: .pcl :: .tmu :: .drawing :: follows)) ∧
        s.agreesOutside t (.now :: .ssl :: .pcl :: .tmu :: .bsv :: .lct :: .spe :: reached))

/-- A trailing edge while ACTIVE restarts the stall timer, from where the change began (the model's reading, assumption log 22), and ends the
pulse, whose width gives its class if it has not been decided BROAD (for a width of 757 to 767 ticks that is assumption log 38): under 134
NARROW, to 383 LINE, to 767 ODD. A LINE pulse is measured: in MASKING it is dropped within 256 ticks per mask unit of the FIELD START, and
the first beyond them is hit 0, whose width is W; in COLLECTING it is the next hit, an interval above 4095 ticks sets the interval mark, and the seventeenth hit
makes the cycle FULL; in PARTIAL and FULL it is dropped (R2, R6, R11, R12, R14, R21, R22, R110). -/
def Obligations.TrailingEdgeGivesClass : Prop :=
  ∀ (s : State) (dt held : Nat) (level : Code) (p : Pulse),
    s.pcl.pulse = some p → s.ssl.mode = .locked → s.pcl.state = .active → s.ssl.logicSync = .syncActive →
    p.resume = false → p.broad = false → 12 ≤ held → comparatorActive s.ssl.polarity s.ssl.threshold level = false →
    let m := s.now + dt - held
    let width := ticksBetween m p.lead
    width ≤ 767 →
    ∃ t, exec (.trailingEdge dt held level) s = .next t ∧
      t.pcl = { s.pcl with
        pulse := none, stallTimer := some (m + 1920000)
        lineCount := if 134 ≤ width ∧ width ≤ 383 then min 255 (s.pcl.lineCount + 1) else s.pcl.lineCount
        oddCount := if 384 ≤ width then min 255 (s.pcl.oddCount + 1) else s.pcl.oddCount } ∧
      t.ssl = { s.ssl with
        logicSync := .rest
        pair := if 134 ≤ width ∧ width ≤ 383 then
            (if s.quantities.mode = .adaptive then p.tip.map (fun tip => { tip := tip, trail := m }) else none)
          else s.ssl.pair } ∧
      (width < 134 ∨ 383 < width ∨ s.tmu.phase = .partialCycle ∨ s.tmu.phase = .full → t.tmu = s.tmu) ∧
      (134 ≤ width → width ≤ 383 →
        (s.tmu.phase = .masking → ∀ f, s.tmu.fieldStart = some f →
          ((stampOf p.lead - f).toNat < 256 * s.quantities.maskUnits → t.tmu = s.tmu) ∧
          (256 * s.quantities.maskUnits ≤ (stampOf p.lead - f).toNat →
            t.tmu = { s.tmu with phase := .collecting, hits := [stampOf p.lead], width := some width })) ∧
        (s.tmu.phase = .collecting → ∀ last, s.tmu.hits.getLast? = some last →
          t.tmu = { s.tmu with
            hits := s.tmu.hits ++ [stampOf p.lead]
            mark := s.tmu.mark || decide (4095 < (stampOf p.lead - last).toNat)
            phase := if 16 ≤ s.tmu.hits.length then .full else .collecting })) ∧
      (width < 134 ∨ 383 < width ∨ s.osw.video = .isOpen ∨ s.osw.source = .fill → t.osw = s.osw) ∧
      (134 ≤ width → width ≤ 383 → s.osw.video = .isClosed → s.osw.source = .board → t.osw = { s.osw with
        ownEdges := s.osw.ownEdges.filter (fun e => decide (t.now ≤ e + 512)) ++ [p.lead] }) ∧
      t.now = s.now + dt ∧ s.agreesOutside t (.now :: .ssl :: .pcl :: .tmu :: .osw :: follows)

/-- A pulse that has lasted 768 ticks is BROAD: below a line count of 8 it raises nothing, from 8 on it raises FIELD START, which zeroes
the counts, restarts the field age from its leading edge, closes one record and arms a new cycle. What the measurement unit raises at it is
handed to the board supervisor at once: NEW SIGNATURE with verdict IN takes SETTLING and OFF_WINDOW to READY, with verdict OUT SETTLING and
READY to OFF_WINDOW with the fault latched, DRIFT takes READY to SETTLING; otherwise the board state stays (R11, R12, R13, R20, R27, R32,
R33, R46, R48, R49). That the measurement unit takes FIELD START before the board supervisor acts is the model's reading (assumption log
34), and so is that the age handed runs from leading edge to leading edge at its saturation limit as well (assumption log 21). -/
def Obligations.BroadPulseMarksField : Prop :=
  ∀ (s : State) (p : Pulse), s.pcl.pulse = some p → s.pcl.state = .active → p.resume = false → p.broad = false →
    ∃ t, exec .broadDecided s = .next t ∧ t.now = max s.now (p.lead + 768) ∧
      (s.pcl.lineCount < 8 → t.pcl = { s.pcl with pulse := some { p with broad := true } } ∧
        s.agreesOutside t (.now :: .pcl :: follows)) ∧
      (8 ≤ s.pcl.lineCount →
        let q := s.quantities
        let age := min 4194304 (p.lead - s.pcl.ageFrom.getD p.lead)
        let raised := s.tmu.fieldStartRaises q s.pcl.oddCount age s.ssl.polarity
        let b := s.bsv.board
        t.pcl = { s.pcl with
          pulse := some { p with broad := true }, lineCount := 0, oddCount := 0, ageFrom := some p.lead } ∧
        t.tmu.phase = .masking ∧ t.tmu.fieldStart = some (stampOf p.lead) ∧ t.tmu.hits = [] ∧ t.tmu.width = none ∧
        t.tmu.mark = false ∧
        t.tmu.ring = pushRecord s.tmu.ring (s.tmu.closeRecord s.pcl.oddCount age s.ssl.polarity) ∧
        t.tmu = s.tmu.fieldStartTaken q b (stampOf p.lead) s.pcl.oddCount age s.ssl.polarity ∧
        (raised = some (.newSignature .inWindow) → b = .settling ∨ b = .offWindow → t.bsv = { s.bsv with
          board := .ready, brst := false, resetHold := none, bootLimit := none, stallGrace := none, attempts := 0 }) ∧
        (raised = some (.newSignature .outOfWindow) → b = .settling ∨ b = .ready → t.bsv = { s.bsv with
          board := .offWindow, brst := false, resetHold := none, bootLimit := none, stallGrace := none, offWindow := true }) ∧
        (raised = some (.newSignature .outOfWindow) → b = .offWindow → t.bsv = { s.bsv with offWindow := true }) ∧
        (raised = some .drift → b = .ready → t.bsv = { s.bsv with
          board := .settling, brst := false, resetHold := none, stallGrace := none
          bootLimit := some (t.now + 1000 * q.bootLimitS * 48000) }) ∧
        (raised = none ∨ b = .vacant ∨ b = .resetting ∨ b = .stalled ∨ b = .failed ∨
          raised = some (.newSignature .inWindow) ∧ b = .ready ∨ raised = some .drift ∧ b ≠ .ready → t.bsv = s.bsv) ∧
        s.agreesOutside t (.now :: .pcl :: .tmu :: .bsv :: .lct :: .spe :: reached))

/-- The tip sample is taken 112 ticks after the leading edge of a pulse that is still sync-active, in LOCKED and ADAPTIVE; the rest
sample 384 ticks after the trailing edge of a LINE pulse with one completes the pair (R6). -/
def Obligations.PairSamplesAreTaken : Prop :=
  ∀ (s : State) (code : Code),
    (∀ p, s.pcl.pulse = some p → s.ssl.mode = .locked → s.quantities.mode = .adaptive → s.ssl.logicSync = .syncActive →
      p.resume = false → p.tip = none →
      ∃ t, exec (.tipSample code) s = .next t ∧ t.pcl = { s.pcl with pulse := some { p with tip := some code } } ∧
        t.now = max s.now (p.lead + 112) ∧ s.agreesOutside t (.now :: .pcl :: follows)) ∧
    (∀ o, s.ssl.pair = some o →
      ∃ t, exec (.restSample code) s = .next t ∧ t.ssl = s.ssl.track s.quantities o.tip code ∧ t.ssl.pair = none ∧
        t.now = max s.now (o.trail + 384) ∧ s.agreesOutside t (.now :: .ssl :: follows))

/-- A complete pair moves T toward p and B toward r by one eighth of the difference, truncated toward zero, and then derives a new
threshold; the levels stay within 0 to 255 (R7). -/
def Obligations.CompletePairMovesLevels : Prop :=
  ∀ (sl : Slicer) (q : Quantities) (p r : Code),
    let t := sl.track q p r
    (t.tip : Int) = (sl.tip : Int) + ((p.val : Int) - sl.tip).tdiv 8 ∧
    (t.rest : Int) = (sl.rest : Int) + ((r.val : Int) - sl.rest).tdiv 8 ∧
    (sl.tip ≤ 255 → t.tip ≤ 255) ∧ (sl.rest ≤ 255 → t.rest ≤ 255) ∧
    t = { sl with tip := t.tip, rest := t.rest, pair := none }.deriveThreshold q

/-- STALL: the classifier becomes QUIET with its counts 0 and its pulse discarded, an ADAPTIVE slicer opens an acquisition window and a
FIXED one stays as it was, the measurement cycle is abandoned with the stable count 0, and a SETTLING, READY or OFF_WINDOW board enters
STALLED with the stall grace of 2 s. The lock expiry returns the slicer to ACQUIRING without an event (R4, R14, R15, R23, R40, R50). The
logic sync at rest meanwhile is the model's choice (assumption log 7). -/
def Obligations.StallAndLockExpiry : Prop :=
  ∀ (s : State) (due : Moment),
    let now := max s.now due
    let acquiring := { s.ssl with
      mode := .acquiring, acq := AcqTotals.cleared, windowEnd := some (now + 960000), pair := none, logicSync := .rest }
    (s.pcl.stallTimer = some due →
      ∃ t, exec .stall s = .next t ∧ t.now = now ∧
        t.pcl.state = .quiet ∧ t.pcl.pulse = none ∧ t.pcl.lineCount = 0 ∧ t.pcl.oddCount = 0 ∧ t.pcl.ageFrom = none ∧
        t.pcl.stallTimer = none ∧ t.ssl = (if s.quantities.mode = .adaptive then acquiring else s.ssl) ∧
        t.tmu = { s.tmu with
          phase := .partialCycle, fieldStart := none, hits := [], width := none, mark := false, stable := 0 } ∧
        (s.bsv.board = .settling ∨ s.bsv.board = .ready ∨ s.bsv.board = .offWindow →
          t.bsv = { s.bsv with
            board := .stalled, brst := false, resetHold := none, bootLimit := none, stallGrace := some (now + 96000000) } ∧
          s.agreesOutside t (.now :: .pcl :: .ssl :: .tmu :: .bsv :: .lct :: .spe :: reached)) ∧
        (s.bsv.board = .vacant ∨ s.bsv.board = .resetting ∨ s.bsv.board = .stalled ∨ s.bsv.board = .failed →
          s.agreesOutside t (.now :: .pcl :: .ssl :: .tmu :: follows))) ∧
    (s.pcl.lockExpiry = some due →
      ∃ t, exec .lockExpiry s = .next t ∧ t.pcl = { s.pcl with lockExpiry := none } ∧ t.ssl = acquiring ∧ t.now = now ∧
        s.agreesOutside t (.now :: .pcl :: .ssl :: follows))

/-! ## Timing signatures -/

/-- A FULL cycle closes with a complete record of L16, HL, W, F and polarity, unless its interval mark is set, the field age is at its
saturation value or an odd pulse was counted; any other closes with an incomplete one. A record joins the ring as its newest and the
oldest of four is dropped; a stable one raises the stable count, held at 15, and zeroes the drift count; an unstable one zeroes the stable
count and raises the drift count, held at 3, with DRIFT as it goes from 2 to 3 (R20, R25 to R28, R30 to R32). -/
def Obligations.RecordsCloseAndJoin : Prop :=
  (∀ (t : Tmu) (odd age : Nat) (pol : Polarity),
    (∀ first, t.hits.head? = some first → ∀ last, t.hits.getLast? = some last → ∀ w, t.width = some w → t.phase = .full →
      t.mark = false → odd = 0 → age < 4194304 →
      t.closeRecord odd age pol = .complete
        { l16 := (last - first).toNat, w := w, polarity := pol
          hl := min 1023 ((64 * age + (last - first).toNat) / (2 * (last - first).toNat)) } age) ∧
    (t.phase ≠ .full ∨ t.mark = true ∨ 4194304 ≤ age ∨ odd ≠ 0 → t.closeRecord odd age pol = .incomplete)) ∧
  ∀ (t : Tmu) (q : Quantities) (r : FieldRecord), t.ring.length ≤ 4 →
    (t.join q r).ring.length ≤ 4 ∧ (t.join q r).ring.getLast? = some r ∧
    (t.ring.length < 4 → (t.join q r).ring = t.ring ++ [r]) ∧
    (t.ring.length = 4 → (t.join q r).ring = t.ring.tail ++ [r]) ∧
    (∀ a b fa fb, t.ring.getLast? = some (.complete a fa) → r = .complete b fb →
      (recordStable q t.ring.getLast? r = true ↔
        a.l16 ≤ b.l16 + q.l16Tolerance ∧ b.l16 ≤ a.l16 + q.l16Tolerance ∧ a.hl = b.hl ∧
          a.w ≤ b.w + 12 ∧ b.w ≤ a.w + 12)) ∧
    (r = .incomplete ∨ t.ring.getLast? = some .incomplete ∨ t.ring = [] → recordStable q t.ring.getLast? r = false) ∧
    (recordStable q t.ring.getLast? r = true →
      (t.join q r).stable = min 15 (t.stable + 1) ∧ (t.join q r).drift = 0 ∧ t.driftRaised q r = false) ∧
    (recordStable q t.ring.getLast? r = false →
      (t.join q r).stable = 0 ∧ (t.join q r).drift = min 3 (t.drift + 1) ∧
        (t.driftRaised q r = true ↔ t.drift = 2))

/-- The window verdict on a signature is IN when L16, HL and W are in their windows and the signature is progressive or interlace is
allowed, and OUT otherwise. It is taken as the signature is produced and stays with it. A stable record that leaves the stable count at
settle fields or more makes its signature the current one and raises NEW SIGNATURE with the verdict; an IN one is copied to the reference
while the board is SETTLING, READY or OFF_WINDOW, and nothing else changes the reference; incomplete and unstable records give no signature
and raise DRIFT at most (R32 to R36). -/
def Obligations.WindowVerdictOfSignature : Prop :=
  (∀ (q : Quantities) (sig : Signature) (t : Tmu) (r : FieldRecord) (board : BoardState),
    (windowVerdict q sig = .inWindow ↔
      q.l16Min ≤ sig.l16 ∧ sig.l16 ≤ q.l16Max ∧ q.hlMin ≤ sig.hl ∧ sig.hl ≤ q.hlMax ∧
        (sig.hl % 2 = 0 ∨ q.interlaceAllowed = true) ∧ sig.w ≤ q.wMax) ∧
    (windowVerdict q sig = .inWindow ∨ windowVerdict q sig = .outOfWindow) ∧
    (t.takeSignature q board sig).current = some { sig := sig, verdict := windowVerdict q sig } ∧
    (r = .incomplete ∨ recordStable q t.ring.getLast? r = false → t.newSignature q r = none)) ∧
  ∀ (q : Quantities) (t : Tmu) (board : BoardState) (stamp : Stamp) (odd age : Nat) (pol : Polarity) (r : FieldRecord),
    r = t.closeRecord odd age pol →
    let u := t.fieldStartTaken q board stamp odd age pol
    let raised := t.fieldStartRaises q odd age pol
    let stable := recordStable q t.ring.getLast? r
    u.ring = pushRecord t.ring r ∧ u.stable = (if stable then min 15 (t.stable + 1) else 0) ∧
    u.drift = (if stable then 0 else min 3 (t.drift + 1)) ∧
    (∀ sig f, r = .complete sig f → stable = true → q.settleFields ≤ min 15 (t.stable + 1) →
      raised = some (.newSignature (windowVerdict q sig)) ∧
      u.current = some { sig := sig, verdict := windowVerdict q sig } ∧
      u.reference =
        (if windowVerdict q sig = .inWindow ∧ (board = .settling ∨ board = .ready ∨ board = .offWindow) then some sig
         else t.reference)) ∧
    (stable = true → min 15 (t.stable + 1) < q.settleFields →
      raised = none ∧ u.current = t.current ∧ u.reference = t.reference) ∧
    (stable = false →
      raised = (if t.drift = 2 then some .drift else none) ∧ u.current = t.current ∧ u.reference = t.reference)

/-! ## The bus -/

/-- A bus edge, a change of the bus-sense slicer's output held for 12 ticks since node reset ended, makes the bus LIVE and restarts the
silence timer from the moment the change began; while the video switch is closed an edge into the sync-active level of the driven polarity
begins a bus pulse, the next edge ends it, and a width of 134 to 383 ticks puts its leading edge behind those awaiting judgement. A level
that is no change, or has not held for 12 ticks, is no edge (R17, R18). That the silence timer counts from the moment the change began is the
model's reading (assumption log 22), and so is that the filter begins at the end of node reset (assumption log 4). -/
def Obligations.BusEdgeMakesBusLive : Prop :=
  ∀ (s : State) (dt held : Nat) (level : Code) (r : Moment), s.cfl.resetEnded = some r →
    let steady := min held (s.now + dt - r)
    let m := s.now + dt - steady
    ∃ t, exec (.busEdge dt held level) s = .next t ∧ t.now = s.now + dt ∧
      (level.val < 70 → busHigh level = false) ∧ (70 < level.val → busHigh level = true) ∧
      (steady < 12 ∨ busHigh level = s.bus.output → s.agreesOutside t (.now :: follows)) ∧
      (12 ≤ steady → busHigh level ≠ s.bus.output →
        t.bus.output = busHigh level ∧ t.bus.silence = .live ∧ t.bus.silenceTimer = some (m + 4800000) ∧
        (s.osw.video = .isOpen → t.bus.pulse = s.bus.pulse ∧ t.osw = s.osw) ∧
        (s.osw.video = .isClosed → s.bus.pulse = none → t.osw = s.osw ∧
          t.bus.pulse = if busActive s.drivenPolarity (busHigh level) then some m else none) ∧
        (s.osw.video = .isClosed → ∀ lead, s.bus.pulse = some lead → t.bus.pulse = none ∧
          t.osw = { s.osw with awaiting :=
            if 134 ≤ ticksBetween m lead ∧ ticksBetween m lead ≤ 383 then s.osw.awaiting ++ [lead] else s.osw.awaiting })) ∧
      s.agreesOutside t (.now :: .bus :: .osw :: follows)

/-- BUS SILENT: the bus is SILENT; in STARTUP and STANDBY the view becomes NONE, a STANDBY node that may bid begins to, and no other role
takes notice (R17, R100, R102, R103, R104, R108). -/
def Obligations.BusSilenceReachesEngine : Prop :=
  ∀ (s : State) (due : Moment), s.bus.silenceTimer = some due →
    ∃ t, exec .busSilent s = .next t ∧ t.now = max s.now due ∧ t.bus.silence = .silent ∧ t.bus.silenceTimer = none ∧
      (s.osw.video = .isOpen → t.bus = { s.bus with silence := .silent, silenceTimer := none }) ∧
      (s.spe.role = .startup ∨
          s.spe.role = .standby ∧ (s.bsv.board ≠ .ready ∨ s.lct.stuck = true ∨ s.spe.seatWait.isSome = true) →
        t.spe = { s.spe with view := none } ∧ t.cnu = { s.cnu with cblk := true } ∧
          s.agreesOutside t (.now :: .bus :: .spe :: .cnu :: follows)) ∧
      (s.spe.role = .standby → s.bsv.board = .ready → s.lct.stuck = false → s.spe.seatWait = none →
        t.spe.role = .bidding ∧ t.spe.view = none ∧ t.spe.bidSet = [s.rank] ∧
          t.spe.bidWindow = some (max s.now due + 2400000) ∧
          s.agreesOutside t (.now :: .spe :: .lct :: reached)) ∧
      (s.spe.role ≠ .startup → s.spe.role ≠ .standby → s.agreesOutside t (.now :: .bus :: follows))

/-- A bus line is judged 420 ticks after its leading edge against the own line edges of the last 512 ticks: one within 24 ticks matches
it and zeroes the mismatch count; a mismatch is counted unless it follows the counted one by less than floor(L16 / 32) ticks; the eighth zeroes the count and hands
CONTENTION, at which HOLDING and OFFERING enqueue SEATED (R110, R111). That nothing is counted while the reference is absent is the
model's choice (assumption log 23). -/
def Obligations.BusLineIsJudged : Prop :=
  ∀ (s : State) (b : Moment), s.osw.awaiting.head? = some b →
    let rest := s.osw.awaiting.tail
    let now := max s.now (b + 420)
    let own := s.osw.ownEdges.filter (fun e => decide (now ≤ e + 512))
    let matched := ∃ e ∈ own, ticksBetween e b ≤ 24 ∨ ticksBetween b e ≤ 24
    ∃ t, exec .busLineJudged s = .next t ∧ t.now = now ∧
      (matched → t.osw = { s.osw with awaiting := rest, ownEdges := own, mismatches := 0, counted := none } ∧
        s.agreesOutside t (.now :: .osw :: follows)) ∧
      (¬matched → s.tmu.reference = none →
        t.osw = { s.osw with awaiting := rest, ownEdges := own } ∧ s.agreesOutside t (.now :: .osw :: follows)) ∧
      (¬matched → ∀ r, s.tmu.reference = some r →
        (∀ c, s.osw.counted = some c → ticksBetween b c < r.l16 / 32 →
          t.osw = { s.osw with awaiting := rest, ownEdges := own } ∧ s.agreesOutside t (.now :: .osw :: follows)) ∧
        ((∀ c, s.osw.counted = some c → r.l16 / 32 ≤ ticksBetween b c) →
          (s.osw.mismatches < 7 →
            t.osw = { s.osw with
              awaiting := rest, ownEdges := own, mismatches := s.osw.mismatches + 1, counted := some b } ∧
              s.agreesOutside t (.now :: .osw :: follows)) ∧
          (7 ≤ s.osw.mismatches →
            t.osw = { s.osw with awaiting := rest, ownEdges := own, mismatches := 0, counted := none } ∧
            (s.spe.role ≠ .holding → s.spe.role ≠ .offering → s.agreesOutside t (.now :: .osw :: follows)) ∧
            (s.spe.role = .holding ∨ s.spe.role = .offering → s.lct.mode = .running → s.lct.stuck = false →
              s.lct.phase ≠ .idle → s.lct.txq.length < 4 → (∀ f ∈ s.lct.txq.tail, f.kind ≠ .seated) →
              t.lct.txq = s.lct.txq ++ [Frame.mk .all .seated] ∧ s.agreesOutside t (.now :: .osw :: .lct :: follows)))))

/-! ## Board supervision -/

/-- Presence, a level of BPRES held for 20 ms since node reset ended: a board that appears while VACANT enters RESETTING with BRST asserted,
the reset hold running and CLEAR issued; one that goes enters VACANT with the attempt count 0. In the load period presence moves no state;
the first decision, the load having ended, ends it: an absent board enters VACANT, and for a present one, in RESETTING, the reset hold
starts (R24, R40, R41, R42, R43, R44). -/
def Obligations.PresenceMovesBoard : Prop :=
  ∀ (s : State) (dt held : Nat) (r : Moment), s.cfl.resetEnded = some r → 960000 ≤ held → 960000 ≤ s.now + dt - r →
    let cleared := { s.tmu with
      phase := .partialCycle, fieldStart := none, hits := [], width := none, mark := false
      ring := [], stable := 0, drift := 0, current := none }
    let hold := s.now + dt + s.quantities.resetHoldMs * 48000
    let loaded := s.cfl.load = .endedValid ∨ s.cfl.load = .endedInvalid
    (s.bsv.present = false → s.bsv.loadPeriod = false → s.bsv.board = .vacant →
      ∃ t, exec (.present dt held) s = .next t ∧ t.tmu = cleared ∧ t.bsv = { s.bsv with
          present := true, decided := true, board := .resetting, brst := true, bootLimit := none, stallGrace := none
          resetHold := some hold } ∧
        t.now = s.now + dt ∧ s.agreesOutside t (.now :: .bsv :: .tmu :: .lct :: .spe :: reached)) ∧
    (s.bsv.present = true → s.bsv.loadPeriod = false → s.bsv.board ≠ .vacant →
      ∃ t, exec (.absent dt held) s = .next t ∧ t.tmu = cleared ∧ t.bsv = { s.bsv with
          present := false, board := .vacant, brst := false, resetHold := none, bootLimit := none, stallGrace := none
          attempts := 0 } ∧
        t.now = s.now + dt ∧ s.agreesOutside t (.now :: .bsv :: .tmu :: .lct :: .spe :: reached)) ∧
    (s.bsv.present = false → s.bsv.loadPeriod = true →
      ∃ t, exec (.present dt held) s = .next t ∧ t.bsv = { s.bsv with
          present := true, decided := true, loadPeriod := decide (¬loaded)
          resetHold := if loaded then some hold else s.bsv.resetHold } ∧
        t.now = s.now + dt ∧ s.agreesOutside t (.now :: .bsv :: follows)) ∧
    (s.bsv.present = true → s.bsv.loadPeriod = true →
      ∃ t, exec (.absent dt held) s = .next t ∧ t.bsv = { s.bsv with present := false } ∧
        t.now = s.now + dt ∧ s.agreesOutside t (.now :: .bsv :: follows)) ∧
    (s.bsv.decided = false → s.bsv.loadPeriod = true →
      ∃ t, exec (.presenceFirstDecision dt held) s = .next t ∧ t.now = s.now + dt ∧
        (loaded → s.bsv.present = false → t.tmu = cleared ∧ t.bsv = { s.bsv with
          decided := true, loadPeriod := false, board := .vacant, brst := false, resetHold := none, bootLimit := none
          stallGrace := none, attempts := 0 }) ∧
        (loaded → s.bsv.present = true → t.bsv = { s.bsv with
          decided := true, loadPeriod := false, resetHold := some hold } ∧ s.agreesOutside t (.now :: .bsv :: follows)) ∧
        (¬loaded → t.bsv = { s.bsv with decided := true } ∧ s.agreesOutside t (.now :: .bsv :: follows)) ∧
        s.agreesOutside t (.now :: .bsv :: .tmu :: .lct :: .spe :: reached)) ∧
    ∀ early, early < 960000 →
      ∃ t, exec (.present dt early) s = .next t ∧ t.now = s.now + dt ∧ s.agreesOutside t (.now :: follows)

/-- The supervisor's timers: the reset hold ends in SETTLING with BRST released, the boot limit running and CLEAR issued; the boot limit
in STALLED with the stall grace running; the stall grace in an automatic reset that raises the attempt count, or in FAILED with its fault
latched (R24, R40, R45, R47, R52). -/
def Obligations.BoardTimersMoveBoard : Prop :=
  ∀ (s : State) (due : Moment),
    let now := max s.now due
    let cleared := { s.tmu with
      phase := .partialCycle, fieldStart := none, hits := [], width := none, mark := false
      ring := [], stable := 0, drift := 0, current := none }
    (s.bsv.resetHold = some due →
      ∃ t, exec .resetHoldExpiry s = .next t ∧ t.tmu = cleared ∧ t.bsv = { s.bsv with
          board := .settling, brst := false, resetHold := none, stallGrace := none
          bootLimit := some (now + 1000 * s.quantities.bootLimitS * 48000) } ∧
        t.now = now ∧ s.agreesOutside t (.now :: .bsv :: .tmu :: .lct :: .spe :: reached)) ∧
    (s.bsv.bootLimit = some due →
      ∃ t, exec .bootLimitExpiry s = .next t ∧ t.bsv = { s.bsv with
          board := .stalled, brst := false, resetHold := none, bootLimit := none, stallGrace := some (now + 96000000) } ∧
        t.now = now ∧ s.agreesOutside t (.now :: .bsv :: .lct :: .spe :: reached)) ∧
    (s.bsv.stallGrace = some due → s.quantities.autoRecovery = true → s.bsv.attempts < 3 →
      ∃ t, exec .stallGraceExpiry s = .next t ∧ t.tmu = cleared ∧ t.bsv = { s.bsv with
          board := .resetting, brst := true, bootLimit := none, stallGrace := none, attempts := s.bsv.attempts + 1
          resetHold := some (now + s.quantities.resetHoldMs * 48000) } ∧
        t.now = now ∧ s.agreesOutside t (.now :: .bsv :: .tmu :: .lct :: .spe :: reached)) ∧
    (s.bsv.stallGrace = some due → s.quantities.autoRecovery = false ∨ 3 ≤ s.bsv.attempts →
      ∃ t, exec .stallGraceExpiry s = .next t ∧ t.bsv = { s.bsv with
          board := .failed, brst := false, resetHold := none, bootLimit := none, stallGrace := none, boardFailed := true } ∧
        t.now = now ∧ s.agreesOutside t (.now :: .bsv :: .lct :: .spe :: reached))

/-- A verdict moves the board: IN takes SETTLING and OFF_WINDOW to READY with the attempt count 0, OUT takes SETTLING and READY to
OFF_WINDOW and latches its fault, again at each OUT there; DRIFT takes READY back to SETTLING; no other board state moves (R46, R48, R49,
R50, R53). -/
def Obligations.VerdictAndDriftMoveBoard : Prop :=
  ∀ (s : State) (v : Verdict) (field : Moment),
    let b := s.bsv.board
    (v = .inWindow ∧ (b = .settling ∨ b = .offWindow) → (s.boardSignature v field).bsv = { s.bsv with
      board := .ready, brst := false, resetHold := none, bootLimit := none, stallGrace := none, attempts := 0 }) ∧
    (v = .outOfWindow ∧ (b = .settling ∨ b = .ready) → (s.boardSignature v field).bsv = { s.bsv with
      board := .offWindow, brst := false, resetHold := none, bootLimit := none, stallGrace := none, offWindow := true }) ∧
    (v = .outOfWindow ∧ b = .offWindow → s.boardSignature v field = { s with bsv := { s.bsv with offWindow := true } }) ∧
    (v = .inWindow ∧ b = .ready ∨ b = .vacant ∨ b = .resetting ∨ b = .stalled ∨ b = .failed →
      s.boardSignature v field = s) ∧
    (b = .ready → (s.boardDrift field).bsv = { s.bsv with
      board := .settling, brst := false, resetHold := none, stallGrace := none
      bootLimit := some (s.now + 1000 * s.quantities.bootLimitS * 48000) }) ∧
    (b ≠ .ready → s.boardDrift field = s) ∧
    s.agreesOutside (s.boardSignature v field) (.bsv :: .lct :: .spe :: reached) ∧
    s.agreesOutside (s.boardDrift field) (.bsv :: .lct :: .spe :: reached)

/-! ## The output switch and fill sync -/

/-- A change of board state at the output switch: under source BOARD leaving READY turns the source to FILL with black and a fill field
of floor(HL / 2) lines; under FILL an entry to READY arms the return, which the next FIELD START with another timestamp performs, and
leaving READY forgets it; with the switch open nothing happens (R57, R58, R60). That the stopped generator holds no figures is the
model's choice (assumption log 39). -/
def Obligations.CutoverAndReturn : Prop :=
  ∀ (s : State) (board : BoardState) (field : Option Moment) (lead : Moment),
    let t := s.outputBoard board field
    let u := s.outputField lead
    (s.osw.video = .isOpen → t = s ∧ u = s) ∧
    (s.osw.video = .isClosed → s.osw.source = .board → board = .ready → t = s ∧ u = s) ∧
    (s.osw.video = .isClosed → s.osw.source = .board → board ≠ .ready →
      t.osw = { s.osw with source := .fill, fillBlack := true, armed := none } ∧ t.fsg.active = true ∧ t.fsg.line = 0 ∧
      t.fsg.longer = false ∧ t.fsg.figures = s.tmu.reference ∧
      t.fsg.start =
        some (if board = .settling ∨ board = .offWindow then field.getD s.now else s.now) ∧
      s.agreesOutside t [.osw, .fsg, .drawing]) ∧
    (s.osw.video = .isClosed → s.osw.source = .fill →
      t = { s with osw := { s.osw with armed := if board = .ready then field.map stampOf else none } } ∧
      (s.osw.armed = none ∨ s.osw.armed = some (stampOf lead) → u = s) ∧
      (∀ stamp, s.osw.armed = some stamp → stamp ≠ stampOf lead →
        u.osw = { s.osw with source := .board, fillBlack := false, armed := none } ∧ u.fsg.active = false ∧
        u.fsg.figures = none ∧ u.fsg.sync = .rest ∧ s.agreesOutside u [.osw, .fsg]))

/-- The fill generator in a field begun at `start` with figures `f`: after its last line the next field begins with the parity turned
over and the reference's figures; before it the next line begins, an own line edge from line 4 on; and W ticks after the leading edge of
a pulse of line 4 or later the fill sync returns to rest. A field has HL / 2 lines; for an odd HL two successive fields have floor(HL / 2)
and one more in turn, HL together (R59, R60, R110, R165). -/
def Obligations.FillFieldsLinesAndPulses : Prop :=
  ∀ (s : State) (start : Moment), s.fsg.start = some start → ∀ f, s.fsg.figures = some f → s.fsg.active = true →
    let lines := fillLines f.hl s.fsg.longer
    (lines ≤ s.fsg.line + 1 → ∀ r, s.tmu.reference = some r →
      ∃ t, exec .fillFieldStart s = .next t ∧ t.now = max s.now (start + lines * f.l16 / 16) ∧
        t.fsg = { s.fsg with
          start := some (start + lines * f.l16 / 16), line := 0, longer := !s.fsg.longer, figures := some r
          sync := .syncActive } ∧
        s.agreesOutside t (.now :: .fsg :: .drawing :: follows)) ∧
    (s.fsg.line + 1 < lines →
      ∃ t, exec .fillLineStart s = .next t ∧
        let n := s.fsg.line + 1
        let due := start + n * f.l16 / 16
        t.now = max s.now due ∧ t.fsg = { s.fsg with line := n, sync := if n = 3 then .rest else .syncActive } ∧
        (n < 4 ∨ s.osw.video = .isOpen → t.osw = s.osw) ∧
        (4 ≤ n → s.osw.video = .isClosed →
          t.osw = { s.osw with ownEdges := s.osw.ownEdges.filter (fun e => decide (t.now ≤ e + 512)) ++ [due] }) ∧
        (s.osw.video = .isOpen ∨ s.ovg.count = none → s.agreesOutside t (.now :: .fsg :: .osw :: follows)) ∧
        (s.osw.video = .isClosed → ∀ c, s.ovg.count = some c →
          t.ovg.count = some { n := min 1023 (c.n + 1), start := due, fieldLines := c.fieldLines }) ∧
        s.agreesOutside t (.now :: .fsg :: .osw :: .drawing :: follows)) ∧
    (4 ≤ s.fsg.line → s.fsg.sync = .syncActive →
      ∃ t, exec .fillPulseEnd s = .next t ∧ t.now = max s.now (start + s.fsg.line * f.l16 / 16 + f.w) ∧
        t.fsg = { s.fsg with sync := .rest } ∧ s.agreesOutside t (.now :: .fsg :: follows)) ∧
    (f.hl % 2 = 0 → lines = f.hl / 2) ∧ (f.hl % 2 = 1 → lines = if s.fsg.longer then f.hl / 2 + 1 else f.hl / 2) ∧
    (f.hl % 2 = 1 → lines + fillLines f.hl (!s.fsg.longer) = f.hl)

/-! ## The cabinet line -/

/-- What a well-formed frame writes is read back: head, target, count and payload of every frame a node sends give the sender and the
frame again, its characters are at most 31, and the last is the check of those before it (R64, R65, R183). -/
def Obligations.FrameReadsBack : Prop :=
  ∀ (sender : Rank) (f : Frame), f.admissible = true →
    readFrame (frameContents sender f) = some (sender, f) ∧
    (frameChars sender f).dropLast = frameContents sender f ∧
    (frameChars sender f).getLast? = some (crc8 (frameContents sender f)) ∧
    contentsWellFormed (frameContents sender f) = true ∧ (frameChars sender f).length = 4 + f.count ∧ f.count ≤ 27

/-- The idle gap: twelve bit times after the gap or a discarded frame began the line is idle, and a followed frame without its check is a
short frame; a RUNNING node with a queued frame begins it then, any other stands idle. A fall on an idle line is joined by such a node and
followed by any other; a fall before the gap has ended is followed (the model's reading, assumption log 16); one that is no character,
recessive again at the middle of its start bit, is passed over and the gap counted again. In a followed frame the data bits read are kept.
A fall past the middle of the stop bit of the last character begun begins the next one, if the frame has one and the line is dominant at the
middle of the start bit, and aligns the receiver's count of bit times; any other fall is passed over, those between check and window among
them (how the bits reach the model is assumption log 18, how the count is kept log 36). A sender goes on by its own timing (R62, R63, R66,
R71, R79, R82). -/
def Obligations.IdleLineBeginsHead : Prop :=
  ∀ (s : State) (dt : Nat), s.lct.mode ≠ .off → s.lct.stuck = false →
    let ready := s.lct.mode = .running ∧ s.lct.txq ≠ []
    (∀ since, s.lct.phase = .gap since ∨ s.lct.phase = .spoilt since →
      ∃ t, exec (.lineIdle dt) s = .next t ∧ t.now = max (s.now + dt) (since + 5760) ∧
        (ready → t.lct = { s.lct with phase := .following t.now [] 1, sending := some t.now, stretch := some t.now }) ∧
        (¬ready → t.lct = { s.lct with phase := .idle }) ∧ s.agreesOutside t (.now :: .lct :: follows)) ∧
    (∀ start kept begun, s.lct.phase = .following start kept begun → s.lct.sending = none →
      ∃ t, exec (.lineIdle dt) s = .next t ∧ t.now = s.now + dt ∧
        t.lct.shortFrame = (if s.lct.shortFrame < 255 then s.lct.shortFrame + 1 else 255) ∧
        (ready → t.lct = { s.lct with
          shortFrame := t.lct.shortFrame, phase := .following t.now [] 1, sending := some t.now, stretch := some t.now }) ∧
        (¬ready → t.lct = { s.lct with shortFrame := t.lct.shortFrame, phase := .idle }) ∧
        s.agreesOutside t (.now :: .lct :: follows)) ∧
    ∀ (middle : Level) (read : List Bool), ∃ t, exec (.lineFall dt ⟨middle, read⟩) s = .next t ∧ t.now = s.now + dt ∧
      let heard := if middle = .dominant then LinePhase.following t.now [] 1 else .gap t.now
      (s.lct.phase = .idle → ready →
        t.lct = { s.lct with phase := .following t.now [] 1, sending := some t.now, stretch := some t.now }) ∧
      (s.lct.phase = .idle → ¬ready → t.lct = { s.lct with phase := heard, stretch := some t.now }) ∧
      (∀ since, s.lct.phase = .gap since → t.lct = { s.lct with phase := heard, stretch := some t.now }) ∧
      (∀ since, s.lct.phase = .spoilt since → t.lct = { s.lct with phase := .spoilt t.now, stretch := some t.now }) ∧
      (∀ start kept begun, s.lct.phase = .following start kept begun → s.lct.sending = none →
        let bits := kept ++ read
        let chars := bits.length / 8
        let count := ((bits.drop 16).take 8).foldl (fun n b => 2 * n + b.toNat) 0
        let begins := bits.length % 8 = 0 ∧ begun ≤ chars ∧ start + 4800 * chars < t.now + 240 ∧
          (chars < 3 ∨ chars < 4 + count) ∧ middle = .dominant
        t.lct = { s.lct with
          phase := if begins then .following (t.now - 4800 * chars) bits (chars + 1) else .following start bits begun
          stretch := some t.now }) ∧
      (∀ start kept begun, s.lct.phase = .following start kept begun → s.lct.sending ≠ none →
        t.lct = { s.lct with stretch := some t.now }) ∧
      (∀ start taken, s.lct.phase = .window start taken → t.lct = { s.lct with stretch := some t.now }) ∧
      s.agreesOutside t (.now :: .lct :: follows)

/-- Lost arbitration: at the middle of a head data bit sent recessive the node stops sending and follows on with the head bits it sent
and the dominant one it read; its queue and attempt count stay (R62, R67). -/
def Obligations.LostArbitrationFollowsOn : Prop :=
  ∀ (s : State) (bit : Nat) (start : Moment), s.lct.sending = some start →
    ∀ from' kept begun, s.lct.phase = .following from' kept begun → ∀ f, s.lct.txq.head? = some f →
    (charBits (headChar s.rank f.kind))[bit]? = some true →
    ∃ t, exec (.lostArbitration bit) s = .next t ∧ t.now = max s.now (start + 480 * (bit + 1) + 240) ∧
      t.lct = { s.lct with
        sending := none, phase := .following start ((charBits (headChar s.rank f.kind)).take bit ++ [false]) 1 } ∧
      s.agreesOutside t (.now :: .lct :: follows)

/-- Of two different heads the one of lower value wins: at the first data bit in which they differ it is dominant and the other
recessive. A lower kind code goes before a higher one, and of one kind the lower rank goes first (R62, R64, R67). -/
def Obligations.LowerHeadWinsArbitration : Prop :=
  (∀ a b : Byte, a.toNat < b.toNat →
    ∃ i, i < 8 ∧ (charBits a).take i = (charBits b).take i ∧
      charLevel a (i + 1) = .dominant ∧ charLevel b (i + 1) = .recessive) ∧
  ∀ (r q : Rank) (j k : FrameKind),
    (headChar r j).toNat < (headChar q k).toNat ↔ kindCode j < kindCode k ∨ j = k ∧ r < q

/-- A bit clash of a node that sends: it stops sending and follows the frame as a receiver with the bits it has read, the clash counter
rises to at most 255, and the attempt counts; below four the frame is sent again, at the fourth it is reported, leaves the queue, and an
addressed peer becomes SILENT (R62, R68, R69, R71, R77, R78, R89). The report acts as `State.reportHead` does, SPACE included. That a start
bit read recessive begins no character, so that the next fall is awaited, is the model's reading (assumption log 36); that the bits read so
far are kept, and that a clash at a stop bit is BIT_CLASH alone, its framing error left to the FRAMING_ERROR that follows, is its choice
(assumption log 18). -/
def Obligations.BitClashFailsAttempt : Prop :=
  ∀ (s : State) (char bit : Nat) (read : Level) (start : Moment), s.lct.sending = some start →
    ∀ from' kept begun, s.lct.phase = .following from' kept begun → ∀ f, s.lct.txq.head? = some f →
    let chars := frameChars s.rank f
    let sent := frameLevel chars char bit
    char < chars.length → bit < 10 → sent ≠ read →
    (char = 0 → 1 ≤ bit → bit ≤ 8 → sent = .dominant) →
    let bits := (chars.take char).flatMap charBits ++ (charBits (chars.getD char 0#8)).take (bit - 1) ++
      (if 1 ≤ bit ∧ bit ≤ 8 then [decide (read = .recessive)] else [])
    let phase := LinePhase.following start bits (if bit = 0 then char else char + 1)
    ∃ t, exec (.bitClash char bit read) s = .next t ∧ t.now = max s.now (start + 480 * (10 * char + bit) + 240) ∧
      t.lct.clash = (if s.lct.clash < 255 then s.lct.clash + 1 else 255) ∧ t.lct.sending = none ∧
      t.lct.phase = phase ∧ (s.lct.acking = none → t.clineDriven = .recessive) ∧
      (s.lct.attempts < 3 →
        t.lct = { s.lct with
          sending := none, phase := phase, clash := t.lct.clash, attempts := s.lct.attempts + 1 } ∧
          s.agreesOutside t (.now :: .lct :: follows)) ∧
      (3 ≤ s.lct.attempts → s.lct.txq.length ≠ 4 ∨ s.spe.requests = [] →
        t.lct = { s.lct with
          sending := none, phase := phase, clash := t.lct.clash, attempts := 0, txq := s.lct.txq.tail } ∧
        (∀ r, f.target = .rank r → r ≠ s.rank → (t.entry r).presence = .silent) ∧
        (f.target = .all → t.roster = s.roster)) ∧
      (3 ≤ s.lct.attempts →
        let stopped : State := { s with
          now := t.now, lct := { s.lct with sending := none, phase := phase, clash := t.lct.clash } }
        t = (stopped.reportHead (if f.target = .all then .unheard else .undelivered)).settled) ∧
      s.agreesOutside t (.now :: .lct :: .spe :: .roster :: reached)

/-- A good frame from another node, for this node or for ALL, is taken at the start of its acknowledge window, two bit times after its
check by this node's count of bit times: a held entry joins the receive queue and a RUNNING node acknowledges in the window, whichever of
the frame's bits it had already read when it lost arbitration or clashed (R66, R67, R70, R71, R72, R75). -/
def Obligations.GoodFrameIsTaken : Prop :=
  ∀ (s : State) (k begun : Nat) (start : Moment) (sender : Rank) (f : Frame), f.admissible = true → sender ≠ s.rank →
    f.target = .rank s.rank ∨ f.target = .all →
    let chars := frameChars sender f
    s.lct.phase = .following start ((chars.flatMap charBits).take k) begun → s.lct.sending = none → s.lct.rxq.length < 4 →
    let window := start + (10 * chars.length + 2) * 480
    ∃ t, exec (.frameJudged (frameContents sender f) (crc8 (frameContents sender f)) false) s = .next t ∧
      t.now = max s.now window ∧
      t.lct = { s.lct with
        phase := .window window true, rxq := s.lct.rxq ++ [RxEntry.mk sender f true]
        acking := if s.lct.mode = .running then some window else none } ∧
      s.agreesOutside t (.now :: .lct :: follows)

/-- What spoils a followed frame: a framing error discards it and counts; at the start of its window a dominant level before the window, a
wrong check, or a right check over characters that are no well-formed frame refuses it and counts; a good frame that finds the receive queue
full is an overrun; one for another node is passed over; one with the own rank latches RANK CLASH and withdraws the node, muted, and in
MUTE latches it alone in a node that is withdrawn already; the frame this node sends whole is passed over. Whichever of the frame's bits the
node had read already, it is judged whole (R65, R66, R70, R71, R72, R73, R74, R78, R101; how the bits reach the model, assumption log
18). -/
def Obligations.BadFrameIsRefused : Prop :=
  ∀ (s : State) (start : Moment) (kept : List Bool) (begun : Nat), s.lct.phase = .following start kept begun →
    let window (chars : List Byte) := start + (10 * chars.length + 2) * 480
    let counted := if s.lct.checkError < 255 then s.lct.checkError + 1 else 255
    (s.lct.sending = none → ∀ dt kind, ∃ t, exec (.framingError dt kind) s = .next t ∧ t.now = s.now + dt ∧
      t.lct = { s.lct with phase := .spoilt t.now, checkError := counted } ∧ s.agreesOutside t (.now :: .lct :: follows)) ∧
    (s.lct.sending = none → ∀ (contents : List Byte) (check : Byte) (gap : Bool) (k : Nat), gap = true ∨
        kept = ((contents ++ [check]).flatMap charBits).take k ∧ (check ≠ crc8 contents ∨
          ∀ (sender : Rank) (f : Frame), f.admissible = true → frameContents sender f ≠ contents) →
      ∃ t, exec (.frameJudged contents check gap) s = .next t ∧ t.now = max s.now (window (contents ++ [check])) ∧
        t.lct = { s.lct with phase := .window (window (contents ++ [check])) false, checkError := counted } ∧
        s.agreesOutside t (.now :: .lct :: follows)) ∧
    (s.lct.sending = none → ∀ (sender : Rank) (f : Frame) (k : Nat), f.admissible = true →
      let chars := frameChars sender f
      kept = (chars.flatMap charBits).take k →
      ∃ t, exec (.frameJudged (frameContents sender f) (crc8 (frameContents sender f)) false) s = .next t ∧
        t.now = max s.now (window chars) ∧
        (sender ≠ s.rank → f.target ≠ .rank s.rank → f.target ≠ .all →
          t.lct = { s.lct with phase := .window (window chars) false } ∧ s.agreesOutside t (.now :: .lct :: follows)) ∧
        (sender ≠ s.rank → f.target = .rank s.rank ∨ f.target = .all → 4 ≤ s.lct.rxq.length →
          t.lct = { s.lct with
            phase := .window (window chars) false
            overrun := if s.lct.overrun < 255 then s.lct.overrun + 1 else 255 } ∧
          s.agreesOutside t (.now :: .lct :: follows)) ∧
        (sender = s.rank → s.lct.mode = .running → s.spe.role ≠ .withdrawn →
          t.lct.rankClash = true ∧ t.lct.mode = .mute ∧ t.lct.txq = [] ∧ t.lct.acking = none ∧ t.lct.rxq = s.lct.rxq ∧
          t.spe.role = .withdrawn ∧ t.spe.withdrawal = some .rankClash ∧
          s.agreesOutside t (.now :: .lct :: .spe :: reached)) ∧
        (sender = s.rank → s.lct.mode = .mute → s.spe.role = .withdrawn →
          t.lct = { s.lct with phase := .window (window chars) false, rankClash := true } ∧
          s.agreesOutside t (.now :: .lct :: follows))) ∧
    ∀ f, s.lct.txq.head? = some f → s.lct.sending ≠ none → ∀ contents check gap,
      ∃ t, exec (.frameJudged contents check gap) s = .next t ∧ t.now = max s.now (window (frameChars s.rank f)) ∧
        t.lct = { s.lct with phase := .window (window (frameChars s.rank f)) false } ∧
        s.agreesOutside t (.now :: .lct :: follows)

/-- The end of the acknowledge window, one character time after its start: every follower counts its idle gap from there and its held
entry is held no longer; a sender whose frame was acknowledged reports it DELIVERED, a broadcast one UNHEARD at once, and an addressed one
has failed an attempt. Each report of the head acts as `State.reportHead` does: the report handed, by role and roster, and the SPACE that
may follow. A frame refused for want of room, or outside RUNNING, becomes one pending request for its kind and target; a report
that takes the queue from four frames to three hands SPACE, which sends the pending requests in order, built afresh, up to the first that is
refused (R63, R66, R69, R72, R76, R77, R89, R90, R93, R98, R119). That in MUTE an enqueue is refused with the stuck flag set as well is the
model's reading (assumption log 20). -/
def Obligations.AckWindowReportsHead : Prop :=
  (∀ (s : State) (middles : BitVec 9) (start : Moment) (taken : Bool), s.lct.phase = .window start taken →
    ∃ t, exec (.ackWindowEnd middles) s = .next t ∧
      let ended := { s.lct with
        phase := .gap t.now, sending := none, acking := none, rxq := s.lct.rxq.map (fun e => { e with held := false }) }
      t.now = max s.now (start + 4800) ∧
      (s.lct.sending = none → t.lct = ended ∧ s.agreesOutside t (.now :: .lct :: follows)) ∧
      (∀ m, s.lct.sending = some m → ∀ f, s.lct.txq.head? = some f →
        (s.lct.txq.length ≠ 4 ∨ s.spe.requests = [] →
          (middles = 0#9 → t.lct = { ended with txq := s.lct.txq.tail, attempts := 0 } ∧
            (∀ r, f.target = .rank r → r ≠ s.rank → (t.entry r).presence = .present) ∧
            (f.target = .all → t.roster = s.roster)) ∧
          (middles ≠ 0#9 → f.target = .all → t.lct = { ended with txq := s.lct.txq.tail, attempts := 0 } ∧
            t.roster = s.roster) ∧
          (∀ r, f.target = .rank r → middles ≠ 0#9 → 3 ≤ s.lct.attempts →
            t.lct = { ended with txq := s.lct.txq.tail, attempts := 0 } ∧
            (r ≠ s.rank → (t.entry r).presence = .silent))) ∧
        (∀ r, f.target = .rank r → middles ≠ 0#9 → s.lct.attempts < 3 →
          t.lct = { ended with attempts := s.lct.attempts + 1 } ∧ s.agreesOutside t (.now :: .lct :: follows)) ∧
        let closed := { s with now := t.now, lct := ended }
        (middles = 0#9 → t = (closed.reportHead .delivered).settled) ∧
        (middles ≠ 0#9 → f.target = .all → t = (closed.reportHead .unheard).settled) ∧
        (middles ≠ 0#9 → f.target ≠ .all → 3 ≤ s.lct.attempts → t = (closed.reportHead .undelivered).settled)) ∧
      s.agreesOutside t (.now :: .lct :: .spe :: .roster :: reached)) ∧
  (∀ (s : State) (rep : Report) (f : Frame), s.lct.txq.head? = some f →
    let reported := { s with lct := { s.lct with txq := s.lct.txq.tail, attempts := 0 } }.report rep f
    s.reportHead rep = if s.lct.txq.length = 4 then reported.space else reported) ∧
  (∀ (s : State) (r : PendingRequest), (∀ g ∈ s.lct.txq.tail, ¬(g.kind = r.kind ∧ g.target = r.target)) →
    s.lct.mode ≠ .running ∨ s.lct.stuck = false ∧ 4 ≤ s.lct.txq.length →
    s.send r = { s with spe := { s.spe with requests :=
      if ∃ q ∈ s.spe.requests, q.kind = r.kind ∧ q.target = r.target then s.spe.requests else s.spe.requests ++ [r] } }) ∧
  (∀ s : State, s.spe.requests = [] → s.space = s) ∧
  (∀ s : State, s.lct.mode = .running → s.lct.stuck = false → s.lct.phase ≠ .idle → ∀ r, s.spe.requests.head? = some r →
    r ∉ s.spe.requests.tail →
    let f := s.buildFrame r
    let waits := ∃ g ∈ s.lct.txq.tail, g.kind = r.kind ∧ g.target = r.target
    let sent := { s with spe := { s.spe with requests := s.spe.requests.tail } }
    (¬waits → s.lct.txq.length < 4 → s.space = { sent with lct := { s.lct with
      txq := s.lct.txq ++ [f], attempts := if s.lct.txq = [] then 0 else s.lct.attempts } }.space) ∧
    (waits → s.space = { sent with lct := { s.lct with txq := replaceInQueue f s.lct.txq } }.space) ∧
    (¬waits → 4 ≤ s.lct.txq.length → s.space = s)) ∧
  ∀ (s : State) (k : Rank) (reply : Bool),
    s.buildFrame (helloRequest reply) = Frame.mk .all (.hello (holdsScreen s.spe.role) reply s.bsv.board
      ((s.tmu.current.map (·.sig.l16)).getD 0) ((s.tmu.current.map (·.sig.hl)).getD 0) s.quantities.title) ∧
    s.buildFrame bidRequest = Frame.mk .all (.bid s.bsv.board) ∧ s.buildFrame seatedRequest = Frame.mk .all .seated ∧
    s.buildFrame (offerRequest k) = Frame.mk (.rank k) (.offer s.spe.number) ∧
    (∀ a, s.spe.answers[k] = some a →
      s.buildFrame (answerRequest k) = Frame.mk (.rank k) (.answer a.number a.yes a.reason s.bsv.board)) ∧
    (∀ c, s.spe.frozen = some c → s.buildFrame (passRequest k) = Frame.mk (.rank k) (.pass s.spe.number c.1 c.2))

/-- A stuck line: dominant for 96,000 ticks it sets the stuck flag and LINE STUCK, the line is released, what was followed is dropped,
LINE STUCK is handed, and the engine enters line recovering and leaves bidding and handover. Then every queued frame is reported in order,
an addressed one UNDELIVERED, which makes its target SILENT, and a broadcast one UNHEARD, which leaves the roster; the queue is emptied, and
SPACE is handed if it had held four (R77, R79, R89, R112, R133). That an entry still held ceases to be held is the model's reading
(assumption log 17). -/
def Obligations.StuckLineIsFlushed : Prop :=
  ∀ (s : State) (dt : Nat), s.lct.mode ≠ .off → s.lct.stuck = false →
    ∃ t, exec (.lineStuck dt) s = .next t ∧ t.now = max (s.now + dt) (s.lct.stretch.getD 0 + 96000) ∧
      t.lct = { s.lct with
        stuck := true, lineStuck := true, sending := none, acking := none, phase := .blind, stretch := some t.now
        rxq := s.lct.rxq.map (fun e => { e with held := false }), txq := [], attempts := 0 } ∧
      (s.spe.role = .withdrawn → t.spe.role = .withdrawn) ∧
      (s.spe.role ≠ .withdrawn → t.spe.recovering = true) ∧
      (s.spe.role = .bidding → t.spe.role = .standby ∧ t.spe.view = none) ∧
      (s.spe.role = .offering ∨ s.spe.role = .passing → t.spe.role = .holding) ∧
      (s.spe.role = .accepted → t.spe.role = .standby) ∧
      (s.spe.role = .startup ∨ s.spe.role = .standby ∨ s.spe.role = .holding →
        t.spe.role = s.spe.role ∧ t.spe.view = s.spe.view) ∧
      (∀ f ∈ s.lct.txq, ∀ r, f.target = .rank r → r ≠ s.rank → (t.entry r).presence = .silent) ∧
      ((∀ f ∈ s.lct.txq, f.target = .all) → s.lct.txq.length ≠ 4 ∨ s.spe.requests = [] → t.roster = s.roster) ∧
      (let stuck : State := { s with now := t.now, lct := { t.lct with txq := s.lct.txq, attempts := s.lct.attempts } }
        let reported := s.lct.txq.foldl
          (fun (u : State) (f : Frame) => u.report (if f.target = .all then .unheard else .undelivered) f) stuck.speLineStuck
        let emptied := { reported with lct := { reported.lct with txq := [], attempts := 0 } }
        t = (if s.lct.txq.length = 4 then emptied.space else emptied).settled) ∧
      s.agreesOutside t (.now :: .lct :: .spe :: .roster :: reached)

/-- A clear line: recessive for 480,000 ticks it clears the stuck flag, is idle at once, and a node that is not withdrawn enqueues a HELLO
with reply requested; RUNNING, it is sent at once. In STANDBY with view NONE, a READY board and no seat wait the bid check then passes: the
node is BIDDING, its BID behind the HELLO; any other role stays. The HELLO is marked as the one whose report ends line recovering; that it
is that one is the model's reading (assumption log 33) (R63, R81, R90, R91, R102, R104, R113, R133). -/
def Obligations.ClearLineSendsHello : Prop :=
  ∀ (s : State) (dt : Nat), s.lct.stuck = true →
    ∃ t, exec (.lineClear dt) s = .next t ∧ t.now = max (s.now + dt) (s.lct.stretch.getD 0 + 480000) ∧
      t.lct.stuck = false ∧ t.lct.lineStuck = s.lct.lineStuck ∧
      let hello := Frame.mk .all (.hello (holdsScreen s.spe.role) true s.bsv.board
          ((s.tmu.current.map (·.sig.l16)).getD 0) ((s.tmu.current.map (·.sig.hl)).getD 0) s.quantities.title)
      let bids := s.spe.role = .standby ∧ s.spe.view = none ∧ s.bsv.board = .ready ∧ s.spe.seatWait = none
      (s.spe.role = .withdrawn → t.lct = { s.lct with stuck := false, phase := .idle } ∧
        s.agreesOutside t (.now :: .lct :: follows)) ∧
      (s.spe.role ≠ .withdrawn → t.spe.recoveryHello = true) ∧
      (s.spe.role ≠ .withdrawn → s.lct.mode = .running → s.lct.txq = [] →
        t.lct.sending = some t.now ∧ t.lct.phase = .following t.now [] 1 ∧
        t.lct.txq = if bids then [hello, Frame.mk .all (.bid s.bsv.board)] else [hello]) ∧
      (bids → t.spe.role = .bidding ∧ t.spe.view = none ∧ t.spe.bidSet = [s.rank] ∧
        t.spe.bidWindow = some (t.now + 2400000)) ∧
      (¬bids → t.spe.role = s.spe.role ∧ t.spe.view = s.spe.view ∧ t.spe.bidSet = s.spe.bidSet) ∧
      s.agreesOutside t (.now :: .lct :: .spe :: reached)

/-! ## The screen protocol engine -/

/-- A claim taken from rank r, a SEATED or a HELLO with the holding flag: r alone of the peers is marked as holder, STARTUP and STANDBY
take r into view, BIDDING returns to STANDBY, HOLDING and OFFERING yield to a lower rank and answer a higher one with SEATED, and
PASSING, ACCEPTED and WITHDRAWN take notice in the roster alone (R75, R85, R88, R97, R100, R103, R105, R109, R122, R125, R131). A HELLO
with reply requested is a claim as well, and a node that is not withdrawn answers it with a HELLO before the claim acts (R91; the order is
the model's reading, assumption log 13). -/
def Obligations.ClaimReachesEngine : Prop :=
  ∀ (s : State) (c : Instr) (e : RxEntry), s.lct.rxq.head? = some e → e.held = false →
    let claims := match e.frame.body with
      | .hello holding _ _ _ _ _ => holding
      | _ => false
    let replies := match e.frame.body with
      | .hello _ reply _ _ _ _ => reply && s.spe.role != .withdrawn
      | _ => false
    c = .seatedTaken ∧ e.frame.kind = .seated ∨ c = .helloTaken ∧ claims = true →
    ∃ t, exec c s = .next t ∧ t.now = s.now ∧ t.lct.rxq = s.lct.rxq.tail ∧
      let r := e.sender
      (r ≠ s.rank → (t.entry r).holding = true ∧ (t.entry r).presence = .present) ∧
      (∀ k : Rank, k ≠ r → k ≠ s.rank → (t.entry k).holding = false) ∧
      (s.spe.role = .startup → t.spe = { s.spe with
        view := some r, firstHello := t.spe.firstHello, requests := t.spe.requests }) ∧
      (s.spe.role = .standby → t.spe = { s.spe with
        view := some r, seatWait := none, firstHello := t.spe.firstHello, requests := t.spe.requests }) ∧
      (s.spe.role = .bidding → t.spe.role = .standby ∧ t.spe.view = some r ∧ t.spe.bidSet = [] ∧ t.spe.bidWindow = none) ∧
      (s.spe.role = .holding ∨ s.spe.role = .offering → r < s.rank →
        t.spe.role = .standby ∧ t.spe.view = some r ∧ t.osw.video = .isOpen ∧ t.osw.audio = .isOpen ∧ t.cnu.duty = .none) ∧
      (s.spe.role = .holding ∨ s.spe.role = .offering → s.rank ≤ r →
        t.spe.role = s.spe.role ∧ t.spe.view = s.spe.view ∧ t.osw = s.osw ∧
        (s.lct.mode = .running → s.lct.stuck = false → s.lct.phase ≠ .idle → s.lct.txq.length < 4 →
          (∀ f ∈ s.lct.txq.tail, f.kind ≠ .seated) → replies = false → t.lct.txq = s.lct.txq ++ [Frame.mk .all .seated]) ∧
        (s.lct.mode = .running → s.lct.stuck = false → s.lct.phase ≠ .idle → s.lct.txq.length < 3 →
          (∀ f ∈ s.lct.txq.tail, f.kind ≠ .seated ∧ f.kind ≠ .hello) → replies = true →
          t.lct.txq = s.lct.txq ++ [Frame.mk .all (.hello true false s.bsv.board ((s.tmu.current.map (·.sig.l16)).getD 0)
            ((s.tmu.current.map (·.sig.hl)).getD 0) s.quantities.title), Frame.mk .all .seated])) ∧
      (s.spe.role = .passing ∨ s.spe.role = .accepted ∨ s.spe.role = .withdrawn →
        t.spe = { s.spe with firstHello := t.spe.firstHello, requests := t.spe.requests } ∧
        s.agreesOutside t (.lct :: .spe :: .roster :: follows)) ∧
      (replies = false → s.spe.role ≠ .bidding → s.spe.role ≠ .holding → s.spe.role ≠ .offering →
        t.lct = { s.lct with rxq := s.lct.rxq.tail } ∧
        t.spe.firstHello = s.spe.firstHello ∧ t.spe.requests = s.spe.requests) ∧
      s.agreesOutside t (.lct :: .spe :: .roster :: reached)

/-- A HELLO taken from rank r sets the presence, board state, title and holding field of its entry; one with reply requested is answered
with a HELLO by a node that is not withdrawn; one without the holding flag, reply requested or not, frees a view of r, in STARTUP, and in
STANDBY where the bid check follows (R75, R86, R88, R90, R91, R100, R102, R103). That the reply precedes the effect of the holding flag is
the model's reading (assumption log 13), and that a HELLO without the flag leaves the view in ACCEPTED is its choice (assumption log 42). -/
def Obligations.HelloReachesRosterAndEngine : Prop :=
  ∀ (s : State) (e : RxEntry), s.lct.rxq.head? = some e → e.held = false →
    ∀ holding reply board l16 hl title, e.frame.body = .hello holding reply board l16 hl title →
    ∃ t, exec .helloTaken s = .next t ∧ t.now = s.now ∧ t.lct.rxq = s.lct.rxq.tail ∧
      let r := e.sender
      (r ≠ s.rank → t.entry r = { presence := .present, board := some board, holding := holding
                                  title := if title = [] then none else some title }) ∧
      (reply = true → s.spe.role ≠ .withdrawn → s.lct.mode = .running → s.lct.stuck = false → s.lct.phase ≠ .idle →
        s.lct.txq.length < 4 → (∀ f ∈ s.lct.txq.tail, f.kind ≠ .hello) →
        Frame.mk .all (.hello (holdsScreen s.spe.role) false s.bsv.board ((s.tmu.current.map (·.sig.l16)).getD 0)
          ((s.tmu.current.map (·.sig.hl)).getD 0) s.quantities.title) ∈ t.lct.txq) ∧
      let silent := reply = false ∨ s.spe.role = .withdrawn
      let answered := { s.spe with firstHello := t.spe.firstHello, requests := t.spe.requests }
      (holding = false → s.spe.view ≠ some r → t.spe = answered ∧ s.agreesOutside t (.lct :: .spe :: .roster :: follows) ∧
        (silent → t.lct = { s.lct with rxq := s.lct.rxq.tail } ∧ s.agreesOutside t (.lct :: .roster :: follows))) ∧
      (holding = false → s.spe.view = some r →
        (s.spe.role = .startup → t.spe = { answered with view := none } ∧
          (silent → t.spe = { s.spe with view := none })) ∧
        (s.spe.role = .standby → s.bsv.board ≠ .ready ∨ s.lct.stuck = true ∨ s.spe.seatWait.isSome = true →
          t.spe = { answered with view := none } ∧ (silent → t.spe = { s.spe with view := none })) ∧
        (s.spe.role = .standby → s.bsv.board = .ready → s.lct.stuck = false → s.spe.seatWait = none →
          t.spe.role = .bidding ∧ t.spe.view = none ∧ t.spe.bidSet = [s.rank]) ∧
        (s.spe.role ≠ .startup → s.spe.role ≠ .standby → t.spe = answered ∧
          s.agreesOutside t (.lct :: .spe :: .roster :: follows) ∧
          (silent → t.lct = { s.lct with rxq := s.lct.rxq.tail } ∧ s.agreesOutside t (.lct :: .roster :: follows)))) ∧
      s.agreesOutside t (.lct :: .spe :: .roster :: reached)

/-- A BID taken from rank r: a STANDBY node with view NONE, a READY board and a working line joins the round, its bid set the own rank and
r and its bid window 50 ms; a bidder takes r into its set and restarts the window; HOLDING and OFFERING answer with SEATED (R75, R87,
R100, R103, R104, R105, R109, R122, R125, R131). -/
def Obligations.BidJoinsRound : Prop :=
  ∀ (s : State) (e : RxEntry), s.lct.rxq.head? = some e → e.held = false → ∀ board, e.frame.body = .bid board →
    ∃ t, exec .bidTaken s = .next t ∧ t.now = s.now ∧ t.lct.rxq = s.lct.rxq.tail ∧
      let r := e.sender
      let joins := s.spe.role = .standby ∧ s.spe.view = none ∧ s.bsv.board = .ready ∧ s.lct.stuck = false
      (r ≠ s.rank → (t.entry r).presence = .present ∧ (t.entry r).board = some board) ∧
      (joins → t.spe.role = .bidding ∧ t.spe.view = none ∧ t.spe.seatWait = none ∧
        t.spe.bidSet = (if r = s.rank then [s.rank] else [s.rank, r]) ∧ t.spe.bidWindow = some (s.now + 2400000)) ∧
      (s.spe.role = .bidding → t.spe = { s.spe with
        bidSet := if r ∈ s.spe.bidSet then s.spe.bidSet else s.spe.bidSet ++ [r]
        bidWindow := some (s.now + 2400000) }) ∧
      (s.spe.role = .holding ∨ s.spe.role = .offering → t.spe.role = s.spe.role ∧
        (s.lct.mode = .running → s.lct.stuck = false → s.lct.phase ≠ .idle → s.lct.txq.length < 4 →
          (∀ f ∈ s.lct.txq.tail, f.kind ≠ .seated) → t.lct.txq = s.lct.txq ++ [Frame.mk .all .seated])) ∧
      (¬joins → s.spe.role ≠ .bidding → s.spe.role ≠ .holding → s.spe.role ≠ .offering →
        t.lct = { s.lct with rxq := s.lct.rxq.tail } ∧
        s.agreesOutside t (.lct :: .roster :: follows)) ∧
      s.agreesOutside t (.lct :: .spe :: .roster :: reached)

/-- OFFER(n) from rank h is answered by the first row that applies: YES to the accepted offer again, BUSY in ACCEPTED otherwise and in
every role but STANDBY; in STANDBY NOT READY, LINE FAULT while recovering, BUSY for the pass last taken, and otherwise YES, entering
ACCEPTED with h in view and the pass timer of 1 s. A WITHDRAWN node does not answer (R101, R115, R117, R118). -/
def Obligations.OfferIsAnswered : Prop :=
  ∀ (s : State) (e : RxEntry), s.lct.rxq.head? = some e → e.held = false → ∀ n, e.frame.body = .offer n →
    let h := e.sender
    let yes := s.spe.role = .accepted ∧ s.spe.accepted = some { sender := h, number := n } ∨
      s.spe.role = .standby ∧ s.bsv.board = .ready ∧ s.spe.recovering = false ∧
        s.spe.lastPass ≠ some { sender := h, number := n }
    let reason : AnswerReason :=
      if yes then .none
      else if s.spe.role = .standby ∧ s.bsv.board ≠ .ready then .notReady
      else if s.spe.role = .standby ∧ s.spe.recovering = true then .lineFault
      else .busy
    ∃ t, exec .offerTaken s = .next t ∧ t.now = s.now ∧ t.lct.rxq = s.lct.rxq.tail ∧
      (h ≠ s.rank → s.lct.stuck = false → (t.entry h).presence = .present) ∧
      (s.spe.role ≠ .withdrawn → t.spe.answers[h] = some { number := n, yes := decide yes, reason := reason } ∧
        (s.lct.mode = .running → s.lct.stuck = false → s.lct.phase ≠ .idle → s.lct.txq.length < 4 →
          (∀ f ∈ s.lct.txq.tail, f.kind ≠ .answer) →
          t.lct.txq = s.lct.txq ++ [Frame.mk (.rank h) (.answer n (decide yes) reason s.bsv.board)])) ∧
      (yes → t.spe.role = .accepted ∧ t.spe.accepted = some { sender := h, number := n } ∧
        t.spe.passTimer = some (s.now + 48000000) ∧ (s.spe.role = .standby → t.spe.view = some h ∧ t.spe.seatWait = none)) ∧
      (¬yes → t.spe.role = s.spe.role ∧ t.spe.view = s.spe.view ∧ t.spe.accepted = s.spe.accepted ∧
        t.spe.passTimer = s.spe.passTimer) ∧
      (s.spe.role = .withdrawn → t.lct = { s.lct with rxq := s.lct.rxq.tail } ∧
        s.agreesOutside t (.lct :: .roster :: follows)) ∧
      s.agreesOutside t (.lct :: .spe :: .roster :: reached)

/-- The decisive ANSWER, from the offer target with the current number in OFFERING: YES enters PASSING, with the coin quiet timer at
150 ms, its cap at 800 ms, duty CARRYING, video closed and black, and audio open; NO returns to HOLDING and shows its reason. Any other
ANSWER acts on the roster alone (R87, R97, R120, R123, R134, R138). -/
def Obligations.AnswerDecidesOffer : Prop :=
  ∀ (s : State) (e : RxEntry), s.lct.rxq.head? = some e → e.held = false →
    ∀ n yes reason board, e.frame.body = .answer n yes reason board →
    let decisive := s.spe.role = .offering ∧ s.spe.target = some e.sender ∧ n = s.spe.number
    ∃ t, exec .answerTaken s = .next t ∧ t.now = s.now ∧ t.lct = { s.lct with rxq := s.lct.rxq.tail } ∧
      (e.sender ≠ s.rank → (t.entry e.sender).presence = .present ∧ (t.entry e.sender).board = some board) ∧
      (decisive → yes = true → t.spe.role = .passing ∧ t.spe.target = some e.sender ∧ t.spe.number = n ∧
        t.spe.answerTimer = none ∧ t.spe.coinQuiet = some (s.now + 7200000) ∧ t.spe.quietCap = some (s.now + 38400000) ∧
        t.cnu.duty = .carrying ∧ t.cnu.cblk = true ∧ t.osw.video = .isClosed ∧ t.osw.audio = .isOpen ∧
        t.osw.passBlack = true ∧ t.mnu = s.mnu) ∧
      (decisive → yes = false → t.spe.role = .holding ∧ t.spe.target = none ∧ t.spe.answerTimer = none ∧
        t.cnu.duty = .own ∧
        (s.mnu.state = .wait → reason ≠ .none → t.mnu.state = .notice ∧ t.mnu.noticeTimer = some (s.now + 144000000) ∧
          t.mnu.notice = some (if reason = .notReady then .notReady else if reason = .busy then .busy else .lineFault))) ∧
      (¬decisive → s.agreesOutside t (.lct :: .roster :: follows)) ∧
      s.agreesOutside t (.lct :: .spe :: .roster :: reached)

/-- PASS(n, c1, c2) of the accepted offer seats the target: HOLDING with its own rank in view, the pass remembered, the carried coins
joined to the pending ones up to 31, SEATED enqueued. Any other PASS acts on the roster alone (R97, R128, R129, R138, R140, R144). -/
def Obligations.PassSeatsTarget : Prop :=
  ∀ (s : State) (e : RxEntry), s.lct.rxq.head? = some e → e.held = false →
    ∀ n c1 c2, e.frame.body = .pass n c1 c2 →
    let key : OfferKey := { sender := e.sender, number := n }
    let seats := s.spe.role = .accepted ∧ s.spe.accepted = some key
    ∃ t, exec .passTaken s = .next t ∧ t.now = s.now ∧ t.lct.rxq = s.lct.rxq.tail ∧
      (e.sender ≠ s.rank → (t.entry e.sender).presence = .present) ∧
      (seats → t.spe.role = .holding ∧ t.spe.view = some s.rank ∧ t.spe.lastPass = some key ∧ t.spe.accepted = none ∧
        t.spe.passTimer = none ∧ t.cnu.duty = .own ∧
        t.cnu.one.pending = min 31 (s.cnu.one.pending + c1) ∧ t.cnu.two.pending = min 31 (s.cnu.two.pending + c2) ∧
        (t.cnu.overflow = true ↔
          s.cnu.overflow = true ∨ 31 < s.cnu.one.pending + c1 ∨ 31 < s.cnu.two.pending + c2) ∧
        t.osw.video = .isClosed ∧ t.osw.audio = .isClosed ∧ t.osw.passBlack = false ∧
        (s.lct.mode = .running → s.lct.stuck = false → s.lct.phase ≠ .idle → s.lct.txq.length < 4 →
          (∀ f ∈ s.lct.txq.tail, f.kind ≠ .seated) → t.lct.txq = s.lct.txq ++ [Frame.mk .all .seated])) ∧
      (¬seats → t.lct = { s.lct with rxq := s.lct.rxq.tail } ∧
        s.agreesOutside t (.lct :: .roster :: follows)) ∧
      s.agreesOutside t (.lct :: .spe :: .roster :: reached)

/-- Joining and bidding end by their timers: the join window in STANDBY and the seat wait in its own role, each with the bid check; the
bid window seats the lowest rank of the bid set whose board is READY, and sends every other bidder to STANDBY with view NONE and a seat
wait of 200 ms (R100, R102, R104, R106, R107). -/
def Obligations.JoinAndBidTimersEnd : Prop :=
  ∀ (s : State) (due : Moment),
    let now := max s.now due
    let bids := s.spe.view = none ∧ s.bsv.board = .ready ∧ s.lct.stuck = false
    (s.spe.joinWindow = some due → s.spe.role = .startup → s.spe.seatWait = none →
      ∃ t, exec .joinWindowExpiry s = .next t ∧ t.now = now ∧ t.spe.joinWindow = none ∧
        (¬bids → t.spe.role = .standby ∧ t.spe.view = s.spe.view ∧ s.agreesOutside t (.now :: .spe :: reached)) ∧
        (bids → t.spe.role = .bidding ∧ t.spe.view = none ∧ t.spe.bidSet = [s.rank] ∧
          t.spe.bidWindow = some (now + 2400000)) ∧
        s.agreesOutside t (.now :: .spe :: .lct :: reached)) ∧
    (s.spe.seatWait = some due → s.spe.role = .standby →
      ∃ t, exec .seatWaitExpiry s = .next t ∧ t.now = now ∧ t.spe.seatWait = none ∧
        (¬bids → t.spe = { s.spe with seatWait := none } ∧ s.agreesOutside t (.now :: .spe :: follows)) ∧
        (bids → t.spe.role = .bidding ∧ t.spe.view = none ∧ t.spe.bidSet = [s.rank] ∧
          t.spe.bidWindow = some (now + 2400000)) ∧
        s.agreesOutside t (.now :: .spe :: .lct :: reached)) ∧
    (s.spe.bidWindow = some due → s.spe.role = .bidding →
      ∃ t, exec .bidWindowExpiry s = .next t ∧ t.now = now ∧ t.spe.bidWindow = none ∧ t.spe.bidSet = [] ∧
        ((∀ r ∈ s.spe.bidSet, s.rank ≤ r) ∧ s.bsv.board = .ready →
          t.spe.role = .holding ∧ t.spe.view = some s.rank ∧ t.cnu.duty = .own ∧ t.osw.video = .isClosed ∧
          t.osw.audio = .isClosed ∧
          (s.lct.mode = .running → s.lct.stuck = false → s.lct.phase ≠ .idle → s.lct.txq.length < 4 →
            (∀ f ∈ s.lct.txq.tail, f.kind ≠ .seated) → t.lct.txq = s.lct.txq ++ [Frame.mk .all .seated])) ∧
        ((∃ r ∈ s.spe.bidSet, r < s.rank) ∨ s.bsv.board ≠ .ready →
          t.spe.role = .standby ∧ t.spe.view = none ∧ t.spe.seatWait = some (now + 9600000) ∧ t.lct = s.lct) ∧
        s.agreesOutside t (.now :: .spe :: .lct :: reached))

/-- The handover timers: the answer timer returns OFFERING to HOLDING, the menu told NO ANSWER; the coin quiet timer issues PASS with the
carried counts frozen and duty LATE; the pass timer returns ACCEPTED to STANDBY, its view kept while the bus is LIVE and NONE while it is
SILENT, with the bid check (R102, R119, R121, R124, R132, R134, R141). -/
def Obligations.HandoverTimersEnd : Prop :=
  ∀ (s : State) (due : Moment),
    let now := max s.now due
    (s.spe.answerTimer = some due → s.spe.role = .offering →
      ∃ t, exec .answerTimerExpiry s = .next t ∧ t.now = now ∧ t.spe.role = .holding ∧ t.spe.target = none ∧
        t.spe.answerTimer = none ∧ t.spe.requests = s.spe.requests.filter (fun r => r.serves .holding) ∧
        (s.mnu.state = .wait → t.mnu.state = .notice ∧ t.mnu.notice = some .noAnswer ∧
          t.mnu.noticeTimer = some (now + 144000000)) ∧
        (s.mnu.state ≠ .wait → t.mnu = s.mnu) ∧
        s.agreesOutside t (.now :: .spe :: reached)) ∧
    (s.spe.coinQuiet = some due → s.lct.stuck = false → ∀ target, s.spe.target = some target →
      ∃ t, exec .coinQuietExpiry s = .next t ∧ t.now = now ∧ t.spe.coinQuiet = none ∧ t.spe.passIssued = true ∧
        t.spe.frozen = some (s.cnu.one.carried, s.cnu.two.carried) ∧ t.cnu = { s.cnu with duty := .late } ∧
        t.spe.role = s.spe.role ∧
        (s.lct.mode = .running → s.lct.phase ≠ .idle → s.lct.txq.length < 4 →
          (∀ f ∈ s.lct.txq.tail, f.kind ≠ .pass) →
          t.lct.txq = s.lct.txq ++
            [Frame.mk (.rank target) (.pass s.spe.number s.cnu.one.carried s.cnu.two.carried)] ∧
          s.agreesOutside t (.now :: .spe :: .cnu :: .lct :: follows))) ∧
    (s.spe.passTimer = some due → s.spe.role = .accepted →
      ∃ t, exec .passTimerExpiry s = .next t ∧ t.now = now ∧ t.spe.passTimer = none ∧ t.spe.accepted = none ∧
        (s.bus.silence = .live → s.spe.view ≠ none →
          t.spe.role = .standby ∧ t.spe.view = s.spe.view ∧ t.lct = s.lct) ∧
        (s.bus.silence = .silent → s.bsv.board ≠ .ready ∨ s.lct.stuck = true →
          t.spe.role = .standby ∧ t.spe.view = none ∧ t.lct = s.lct) ∧
        (s.bus.silence = .silent → s.bsv.board = .ready → s.lct.stuck = false → s.spe.seatWait = none →
          t.spe.role = .bidding ∧ t.spe.view = none ∧ t.spe.bidSet = [s.rank]) ∧
        s.agreesOutside t (.now :: .spe :: .lct :: reached))

/-- Reports by role. The report of this handover's PASS: DELIVERED completes it at the holder, STANDBY naming the target, the switches
open, the carried and late counts cleared, a late coin latched, and the menu closed; UNDELIVERED returns to HOLDING, the carried and late
counts back in the pending ones, the menu told SWITCH FAILED (R97, R126, R127, R134, R142, R143). That of the own BID in BIDDING restarts
the bid window at 50 ms (R105). That of this handover's OFFER in OFFERING: DELIVERED acts on the roster alone, UNDELIVERED returns to
HOLDING, the menu told NO ANSWER (R121). That of an ANSWER YES with the accepted number in ACCEPTED restarts the pass timer at 1 s (R118).
That of the HELLO that LINE CLEAR enqueued ends line recovering (R133; which HELLO it is, assumption log 33). Any other, that of a SEATED
and that of a PASS of another number, target or role among them, acts on the roster alone (that number and target must be those of this
handover, assumption log 14). In the roster a delivered addressed frame makes its target PRESENT and an undelivered one SILENT, moving a
cursor on it to the own entry; a broadcast frame and an UNHEARD one change nothing there (R89, R170). -/
def Obligations.PassReportEndsHandover : Prop :=
  (∀ (s : State) (target : Rank), s.spe.target = some target → s.spe.role = .passing → ∀ c1 c2,
    let f := Frame.mk (.rank target) (.pass s.spe.number c1 c2)
    let d := s.report .delivered f
    let u := s.report .undelivered f
    (d.spe.role = .standby ∧ d.spe.view = some target ∧ d.spe.target = none ∧ d.spe.passIssued = false ∧
      d.spe.frozen = none ∧ d.osw.video = .isOpen ∧ d.osw.audio = .isOpen ∧ d.osw.passBlack = false ∧
      d.cnu.duty = .none ∧ d.cnu.one.carried = 0 ∧ d.cnu.one.late = 0 ∧ d.cnu.two.carried = 0 ∧ d.cnu.two.late = 0 ∧
      d.cnu.one.pending = s.cnu.one.pending ∧ d.cnu.two.pending = s.cnu.two.pending ∧
      (d.cnu.lateCoins = true ↔ s.cnu.lateCoins = true ∨ 0 < s.cnu.one.late ∨ 0 < s.cnu.two.late) ∧
      d.mnu.state = .closed ∧ (target ≠ s.rank → (d.entry target).presence = .present) ∧
      s.agreesOutside d (.spe :: .roster :: reached)) ∧
    (u.spe.role = .holding ∧ u.spe.view = s.spe.view ∧ u.spe.target = none ∧ u.spe.passIssued = false ∧
      u.spe.frozen = none ∧ u.spe.coinQuiet = none ∧ u.osw.video = .isClosed ∧ u.osw.audio = .isClosed ∧
      u.osw.passBlack = false ∧ u.cnu.duty = .own ∧
      u.cnu.one.carried = 0 ∧ u.cnu.one.late = 0 ∧ u.cnu.two.carried = 0 ∧ u.cnu.two.late = 0 ∧
      u.cnu.one.pending = min 31 (min 31 (s.cnu.one.pending + s.cnu.one.carried) + s.cnu.one.late) ∧
      u.cnu.two.pending = min 31 (min 31 (s.cnu.two.pending + s.cnu.two.carried) + s.cnu.two.late) ∧
      (s.mnu.state = .wait → u.mnu.state = .notice ∧ u.mnu.notice = some .switchFailed) ∧
      (target ≠ s.rank → (u.entry target).presence = .silent) ∧
      s.agreesOutside u (.spe :: .roster :: reached))) ∧
  (∀ (s : State) (rep : Report) (f : Frame),
    let t := s.report rep f
    (∀ k : Rank, f.target = .rank k → k ≠ s.rank →
      (rep = .delivered → t.entry k = { s.entry k with presence := .present }) ∧
      (rep = .undelivered → t.entry k = { s.entry k with presence := .silent })) ∧
    (∀ k : Rank, f.target ≠ .rank k ∨ rep = .unheard → t.roster[k] = s.roster[k])) ∧
  (∀ (s : State) (rep : Report) (k : Rank) (n : HandoverNumber) (c1 c2 : Nat),
    let t := s.report rep (Frame.mk (.rank k) (.pass n c1 c2))
    rep = .unheard ∨ s.spe.role ≠ .passing ∨ s.spe.target ≠ some k ∨ n ≠ s.spe.number →
      t.spe = s.spe ∧ s.agreesOutside t [.roster, .mnu] ∧
      t.mnu = { s.mnu with cursor := if rep = .undelivered ∧ k ≠ s.rank ∧ s.mnu.cursor = k then s.rank else s.mnu.cursor }) ∧
  (∀ (s : State) (rep : Report), s.report rep (Frame.mk .all .seated) = s) ∧
  (∀ (s : State) (rep : Report) (board : BoardState),
    let t := s.report rep (Frame.mk .all (.bid board))
    (s.spe.role = .bidding → t = { s with spe := { s.spe with bidWindow := some (s.now + 2400000) } }) ∧
    (s.spe.role ≠ .bidding → t = s)) ∧
  (∀ (s : State) (rep : Report) (k : Rank) (n : HandoverNumber),
    let t := s.report rep (Frame.mk (.rank k) (.offer n))
    (rep = .undelivered → s.spe.role = .offering → s.spe.target = some k → n = s.spe.number →
      t.spe.role = .holding ∧ t.spe.view = s.spe.view ∧ t.spe.target = none ∧ t.spe.answerTimer = none ∧
      t.cnu.duty = .own ∧ (s.mnu.state = .wait → t.mnu.state = .notice ∧ t.mnu.notice = some .noAnswer ∧
        t.mnu.noticeTimer = some (s.now + 144000000)) ∧
      s.agreesOutside t (.spe :: .roster :: reached)) ∧
    (rep ≠ .undelivered ∨ s.spe.role ≠ .offering ∨ s.spe.target ≠ some k ∨ n ≠ s.spe.number →
      t.spe = s.spe ∧ s.agreesOutside t [.roster, .mnu] ∧
      t.mnu = { s.mnu with cursor := if rep = .undelivered ∧ k ≠ s.rank ∧ s.mnu.cursor = k then s.rank else s.mnu.cursor })) ∧
  (∀ (s : State) (rep : Report) (k : Rank) (n : HandoverNumber) (yes : Bool) (reason : AnswerReason) (board : BoardState),
    let t := s.report rep (Frame.mk (.rank k) (.answer n yes reason board))
    let mine := s.spe.role = .accepted ∧ yes = true ∧ s.spe.accepted.map (·.number) = some n
    (mine → t.spe = { s.spe with passTimer := some (s.now + 48000000) }) ∧ (¬mine → t.spe = s.spe) ∧
    t.mnu = { s.mnu with cursor := if rep = .undelivered ∧ k ≠ s.rank ∧ s.mnu.cursor = k then s.rank else s.mnu.cursor } ∧
    s.agreesOutside t [.spe, .roster, .mnu]) ∧
  ∀ (s : State) (rep : Report) (holding reply : Bool) (board : BoardState) (l16 hl : Nat) (title : List Glyph),
    let t := s.report rep (Frame.mk .all (.hello holding reply board l16 hl title))
    (reply = true → s.spe.recoveryHello = true →
      t = { s with spe := { s.spe with recovering := false, recoveryHello := false } }) ∧
    (reply = false ∨ s.spe.recoveryHello = false → t = s)
/-! ## Coins -/

/-- A coin channel's own events: a line closed for the filter time since sampling began at the end of the load begins a closure at the
moment its filtered level changed; one open past 250 ms latches COIN JAM, once, and its end counts nothing; the end of a pulse takes one
coin from pending and begins the gap; the end of the gap begins the next pulse while a coin is pending and the board READY, and leaves the
channel IDLE otherwise. READY handed starts a pulse in an IDLE channel that owes a coin; any other board state handed cuts a pulse short to
its gap, the coin still owed (R135, R136, R137, R145, R146). That COIN JAM falls one tick after 250 ms, since a closure of exactly 250 ms
is still a coin, is the model's reading (assumption log 24). -/
def Obligations.CoinChannelEvents : Prop :=
  (∀ (s : State) (dt held : Nat) (ch : Channel) (r : Moment), s.cfl.loadEnded = some r →
    let c := s.cnu.chan ch
    let filter := s.quantities.coinFilterMs * 48000
    let steady := min held (s.now + dt - r)
    (s.cnu.dormant = false → filter ≤ steady → c.closed = false →
      ∃ t, exec (.closure dt held ch) s = .next t ∧ t.now = s.now + dt ∧
        t.cnu = s.cnu.setChan ch
          { c with closed := true, closure := some { start := s.now + dt - (steady - filter), jammed := false } } ∧
        s.agreesOutside t (.now :: .cnu :: follows)) ∧
    (s.cnu.dormant = true ∨ steady < filter →
      ∃ t, exec (.closure dt held ch) s = .next t ∧ t.now = s.now + dt ∧ s.agreesOutside t (.now :: follows)) ∧
    (∀ k, c.closure = some k → k.jammed = false →
      ∃ t, exec (.coinJam ch) s = .next t ∧ t.now = max s.now (k.start + 12000001) ∧
        t.cnu = s.cnu.setChan ch { c with jam := true, closure := some { k with jammed := true } } ∧
        s.agreesOutside t (.now :: .cnu :: follows)) ∧
    (∀ k, c.closure = some k → k.jammed = true → s.cnu.dormant = false → filter ≤ steady →
      ∃ t, exec (.jammedClosureEnd dt held ch) s = .next t ∧ t.now = s.now + dt ∧
        t.cnu = s.cnu.setChan ch { c with closed := false, closure := none } ∧
        s.agreesOutside t (.now :: .cnu :: follows)) ∧
    (∀ due, c.timer = some due → c.delivery = .pulse →
      ∃ t, exec (.pulseTimerExpiry ch) s = .next t ∧ t.now = max s.now due ∧
        t.cnu = s.cnu.setChan ch { c with
          pending := c.pending - 1, delivery := .gap, timer := some (max s.now due + s.quantities.coinGapMs * 48000) } ∧
        s.agreesOutside t (.now :: .cnu :: follows)) ∧
    (∀ due, c.timer = some due → c.delivery = .gap →
      ∃ t, exec (.gapTimerExpiry ch) s = .next t ∧ t.now = max s.now due ∧
        t.cnu = s.cnu.setChan ch
          (if 0 < c.pending ∧ s.bsv.board = .ready ∧ s.cnu.dormant = false then
            { c with delivery := .pulse, timer := some (max s.now due + s.quantities.coinPulseMs * 48000) }
          else { c with delivery := .idle, timer := none }) ∧
        s.agreesOutside t (.now :: .cnu :: follows))) ∧
  ∀ (s : State) (board : BoardState) (ch : Channel), s.bsv.board = board →
    let c := s.cnu.chan ch
    let t := s.coinBoard board
    (board = .ready → s.cnu.dormant = false → c.delivery = .idle → 0 < c.pending →
      t.cnu.chan ch = { c with delivery := .pulse, timer := some (s.now + s.quantities.coinPulseMs * 48000) }) ∧
    (board = .ready → c.delivery ≠ .idle ∨ c.pending = 0 ∨ s.cnu.dormant = true → t.cnu.chan ch = c) ∧
    (board ≠ .ready → c.delivery = .pulse →
      t.cnu.chan ch = { c with delivery := .gap, timer := some (s.now + s.quantities.coinGapMs * 48000) }) ∧
    (board ≠ .ready → c.delivery ≠ .pulse → t.cnu.chan ch = c) ∧ s.agreesOutside t [.cnu]

/-- A closure of at most 250 ms is a coin, counted by the duty: OWN in pending, from which an idle channel of a READY board begins its
pulse at once, CARRYING in carried, which also restarts the coin quiet timer up to its cap, LATE in late, NONE nowhere. Each count holds
at 31 and latches COIN OVERFLOW there (R137, R138, R139, R140, R123, R145). -/
def Obligations.CoinIsCountedByDuty : Prop :=
  ∀ (s : State) (dt held : Nat) (ch : Channel) (r : Moment), s.cfl.loadEnded = some r →
    ∀ k, (s.cnu.chan ch).closure = some k →
    let c := s.cnu.chan ch
    let filter := s.quantities.coinFilterMs * 48000
    let steady := min held (s.now + dt - r)
    let open' := { c with closed := false, closure := none }
    k.jammed = false → s.cnu.dormant = false → filter ≤ steady →
    s.now + dt - (steady - filter) - k.start ≤ 12000000 →
    ∃ t, exec (.detectedCoin dt held ch) s = .next t ∧ t.now = s.now + dt ∧
      (s.cnu.duty = .own → (t.cnu.chan ch).pending = min 31 (c.pending + 1) ∧
        (t.cnu.overflow = true ↔ s.cnu.overflow = true ∨ 31 < c.pending + 1) ∧
        (c.delivery = .idle → s.bsv.board = .ready → (t.cnu.chan ch).delivery = .pulse ∧
          (t.cnu.chan ch).timer = some (s.now + dt + s.quantities.coinPulseMs * 48000)) ∧
        (c.delivery ≠ .idle ∨ s.bsv.board ≠ .ready → t.cnu.chan ch = { open' with pending := min 31 (c.pending + 1) }) ∧
        s.agreesOutside t (.now :: .cnu :: follows)) ∧
      (s.cnu.duty = .carrying →
        t.cnu = { s.cnu.setChan ch { open' with carried := min 31 (c.carried + 1) } with
          overflow := s.cnu.overflow || decide (31 < c.carried + 1) } ∧
        (∀ cap, s.spe.quietCap = some cap → s.spe.role = .passing → s.spe.passIssued = false →
          t.spe = { s.spe with coinQuiet := some (min (s.now + dt + 7200000) cap) }) ∧
        (s.spe.role ≠ .passing ∨ s.spe.passIssued = true → t.spe = s.spe) ∧
        s.agreesOutside t (.now :: .cnu :: .spe :: follows)) ∧
      (s.cnu.duty = .late →
        t.cnu = { s.cnu.setChan ch { open' with late := min 31 (c.late + 1) } with
          overflow := s.cnu.overflow || decide (31 < c.late + 1) } ∧
        s.agreesOutside t (.now :: .cnu :: follows)) ∧
      (s.cnu.duty = .none → t.cnu = s.cnu.setChan ch open' ∧ s.agreesOutside t (.now :: .cnu :: follows))

/-! ## Panel, menu and lamps -/

/-- Presses with the menu CLOSED, and releases in any menu state, of an input held for the filter time since sampling began at the end of
the load: the level and the latch follow; while FOLLOWING a release sets the release-seen flags of the lines it is the source of, and each
line is active exactly with its flag set and its source pressed; SELECT starts and stops the select hold timer of 800 ms (R150, R151, R153,
R158, R169). As the mapper decides again, at each role, menu state and board state handed, an entry to FOLLOWING sets the flag of each line
whose source is released, and of one with source NONE or mode OFF, and drives the lines by the flags; leaving it parks every line; and LP1
and LP2 are driven as the board lamps are lit while a map table is loaded, the role HOLDING and the menu CLOSED, and released otherwise
(R155, R156, R157, R161). -/
def Obligations.PanelMovesLatchesAndLines : Prop :=
  (∀ (s : State) (dt held : Nat) (input : PanelInput) (r : Moment), s.cfl.loadEnded = some r → s.cmp.dormant = false →
    let i := panelIndex input
    let steady := min held (s.now + dt - r)
    (steady < s.quantities.panelFilterMs * 48000 →
      ∃ t, exec (.press dt held input) s = .next t ∧ t.now = s.now + dt ∧ s.agreesOutside t (.now :: follows)) ∧
    (s.mnu.state = .closed → s.quantities.panelFilterMs * 48000 ≤ steady → s.cmp.pressed[i] = false →
      ∃ t, exec (.press dt held input) s = .next t ∧ t.now = s.now + dt ∧
        t.cmp.pressed = s.cmp.pressed.set i true ∧ t.cmp.latch = s.cmp.latch.set i true ∧ t.cmp.seen = s.cmp.seen ∧
        (s.cmp.following = false → t.cmp.active = s.cmp.active) ∧
        (s.cmp.following = true → ∀ map, s.mapTable = some map → ∀ k : Fin 24,
          t.cmp.active[k] = (map[k].drives && s.cmp.seen[k] && t.cmp.sourcePressed map[k])) ∧
        t.mnu = (if input = .select then { s.mnu with selectTimer := some (s.now + dt + 38400000) } else s.mnu) ∧
        s.agreesOutside t (.now :: .cmp :: .mnu :: follows)) ∧
    (s.quantities.panelFilterMs * 48000 ≤ steady → s.cmp.pressed[i] = true →
      ∃ t, exec (.release dt held input) s = .next t ∧ t.now = s.now + dt ∧
        t.cmp.pressed = s.cmp.pressed.set i false ∧ t.cmp.latch = s.cmp.latch.set i false ∧
        (s.cmp.following = false → t.cmp.active = s.cmp.active ∧ t.cmp.seen = s.cmp.seen) ∧
        (s.cmp.following = true → ∀ map, s.mapTable = some map → ∀ k : Fin 24,
          t.cmp.seen[k] = (s.cmp.seen[k] || decide (sourceIndex map[k].source = some i)) ∧
          t.cmp.active[k] = (map[k].drives && t.cmp.seen[k] && t.cmp.sourcePressed map[k])) ∧
        t.mnu = (if input = .select then { s.mnu with selectTimer := none } else s.mnu) ∧
        s.agreesOutside t (.now :: .cmp :: .mnu :: follows))) ∧
  (∀ s : State,
    let t := s.mapperDecides
    let follow := s.mapTable.isSome = true ∧ s.spe.role = .holding ∧ s.mnu.state = .closed ∧ s.bsv.board ≠ .resetting ∧
      s.bsv.board ≠ .vacant
    (follow → s.cmp.following = false → t.cmp.following = true ∧ ∀ map, s.mapTable = some map → ∀ k : Fin 24,
      (t.cmp.seen[k] = true ↔ map[k].source = .none ∨ map[k].mode = .off ∨ s.cmp.sourcePressed map[k] = false) ∧
      (t.cmp.active[k] = true ↔
        map[k].source ≠ .none ∧ map[k].mode ≠ .off ∧ t.cmp.seen[k] = true ∧ s.cmp.sourcePressed map[k] = true)) ∧
    (¬follow → s.cmp.following = true →
      t.cmp.following = false ∧ ∀ k : Fin 24, t.cmp.seen[k] = false ∧ t.cmp.active[k] = false) ∧
    ((s.cmp.following = true ↔ follow) →
      t.cmp.following = s.cmp.following ∧ t.cmp.seen = s.cmp.seen ∧ t.cmp.active = s.cmp.active) ∧
    t.cmp.pressed = s.cmp.pressed ∧ t.cmp.latch = s.cmp.latch ∧ s.agreesOutside t [.cmp]) ∧
  ∀ (s : State) (role : Role) (st : MenuState) (board : BoardState),
    let r := s.setRole role
    let m := s.setMenu st
    let b := s.handBoard board none
    let loaded := s.quantities.map.isSome = true
    (role ≠ s.spe.role →
      (r.cmp.lp1 = true ↔ loaded ∧ role = .holding ∧ r.mnu.state = .closed ∧ s.cmp.lit1 = true) ∧
      (r.cmp.lp2 = true ↔ loaded ∧ role = .holding ∧ r.mnu.state = .closed ∧ s.cmp.lit2 = true)) ∧
    (st ≠ s.mnu.state →
      (m.cmp.lp1 = true ↔ loaded ∧ s.spe.role = .holding ∧ st = .closed ∧ s.cmp.lit1 = true) ∧
      (m.cmp.lp2 = true ↔ loaded ∧ s.spe.role = .holding ∧ st = .closed ∧ s.cmp.lit2 = true)) ∧
    (role ≠ s.spe.role → s.cmp.following = false → r.cmp.following = true → r.mnu.state = s.mnu.state →
      ∀ map, s.mapTable = some map → ∀ k : Fin 24,
        (r.cmp.seen[k] = true ↔ map[k].source = .none ∨ map[k].mode = .off ∨ s.cmp.sourcePressed map[k] = false)) ∧
    (s.cmp.following = false → m.cmp.following = true → ∀ map, s.mapTable = some map → ∀ k : Fin 24,
      (m.cmp.seen[k] = true ↔ map[k].source = .none ∨ map[k].mode = .off ∨ s.cmp.sourcePressed map[k] = false)) ∧
    (board = s.bsv.board → s.spe.role ≠ .standby → s.cmp.following = false → s.mnu.state = .closed → board ≠ .failed →
      b.cmp.following = true → ∀ map, s.mapTable = some map → ∀ k : Fin 24,
        (b.cmp.seen[k] = true ↔ map[k].source = .none ∨ map[k].mode = .off ∨ s.cmp.sourcePressed map[k] = false))

/-- The keys at the menu. A press of an input held for the filter time moves its level, the edge lines it is the source of and its latch,
and then acts on the menu, in any state of it, as `State.menuPress` does. In BROWSE: UP and DOWN move the cursor to the next listed rank
and stay at the end; BACK closes; PICK closes on the own entry, shows NOT READY for 3 s on a peer that is not READY, and otherwise hands
the pick from WAIT to a HOLDING node, which is OFFERING under the next number for 250 ms; SERVICE opens the service page. In SERVICE, PICK
resets the board and BACK clears the latched faults. Each such press is consumed. Each press in BROWSE restarts the browse timer of 20 s,
SELECT and a plain input too; SELECT starts the select hold timer in every state, and nothing else happens on SELECT, on a plain input, or
on any key in WAIT and NOTICE (R54, R116, R151, R158, R168, R169, R170, R171, R172, R175, R176). That a press which closes the menu stops
the browse timer, and that the timer which a PICK showing NOT READY restarted runs on in NOTICE, is the model's reading (assumption log
25). -/
def Obligations.MenuKeysAct : Prop :=
  (∀ (s : State) (dt held : Nat) (i : PanelInput) (r : Moment), s.cfl.loadEnded = some r → s.cmp.dormant = false →
    s.quantities.panelFilterMs * 48000 ≤ min held (s.now + dt - r) → s.cmp.pressed[panelIndex i] = false →
    let e := { s with now := s.now + dt }
    let u := (e.pressLines i).setLatch i true
    exec (.press dt held i) s = .next (u.menuPress i).settled ∧
    u.cmp = { s.cmp with
      pressed := s.cmp.pressed.set (panelIndex i) true, latch := s.cmp.latch.set (panelIndex i) true, active := u.cmp.active } ∧
    (s.cmp.following = false → u.cmp.active = s.cmp.active) ∧
    (s.cmp.following = true → ∀ map, s.mapTable = some map → ∀ j : Fin 24,
      u.cmp.active[j] = (map[j].drives && s.cmp.seen[j] && u.cmp.sourcePressed map[j])) ∧
    s.agreesOutside u [.now, .cmp] ∧ u.now = s.now + dt) ∧
  ∀ (s : State) (i : PanelInput),
    let k := s.keyOf i
    let t := s.menuPress i
    (s.mnu.state ≠ .closed → k ≠ .select → k ≠ .plain → t.latched i = false) ∧
    (s.mnu.state = .browse → k = .up → t.mnu.state = .browse ∧ t.mnu.browseTimer = some (s.now + 960000000) ∧
      (t.mnu.cursor = s.mnu.cursor ∨ t.mnu.cursor < s.mnu.cursor ∧ s.listed t.mnu.cursor = true) ∧
      ∀ r : Rank, s.listed r = true → r < s.mnu.cursor → r ≤ t.mnu.cursor ∧ t.mnu.cursor < s.mnu.cursor) ∧
    (s.mnu.state = .browse → k = .down → t.mnu.state = .browse ∧ t.mnu.browseTimer = some (s.now + 960000000) ∧
      (t.mnu.cursor = s.mnu.cursor ∨ s.mnu.cursor < t.mnu.cursor ∧ s.listed t.mnu.cursor = true) ∧
      ∀ r : Rank, s.listed r = true → s.mnu.cursor < r → t.mnu.cursor ≤ r ∧ s.mnu.cursor < t.mnu.cursor) ∧
    (s.mnu.state = .browse → k = .back ∨ k = .pick ∧ s.mnu.cursor = s.rank →
      t.mnu = { s.mnu with state := .closed, notice := none, noticeTimer := none, browseTimer := none }) ∧
    (s.mnu.state = .browse → k = .pick → s.mnu.cursor ≠ s.rank → (s.entry s.mnu.cursor).board ≠ some .ready →
      t.mnu = { s.mnu with
        state := .notice, notice := some .notReady, noticeTimer := some (s.now + 144000000)
        browseTimer := some (s.now + 960000000) } ∧ t.spe = s.spe) ∧
    (s.mnu.state = .browse → k = .pick → s.mnu.cursor ≠ s.rank → (s.entry s.mnu.cursor).board = some .ready →
      s.spe.role = .holding → s.lct.stuck = false →
      t.mnu.state = .wait ∧ t.mnu.notice = some .switching ∧ t.mnu.browseTimer = none ∧ t.spe.role = .offering ∧
      t.spe.number = s.spe.number + 1 ∧ t.spe.target = some s.mnu.cursor ∧ t.spe.answerTimer = some (s.now + 12000000)) ∧
    (s.mnu.state = .browse → k = .service → t.mnu = { s.mnu with state := .service, browseTimer := none }) ∧
    (k = .select ∨ k = .plain ∨ s.mnu.state = .closed ∨ s.mnu.state = .wait ∨ s.mnu.state = .notice ∨
        s.mnu.state = .service ∧ k ≠ .pick ∧ k ≠ .back →
      t.mnu = { s.mnu with
        browseTimer := if s.mnu.state = .browse then some (s.now + 960000000) else s.mnu.browseTimer
        selectTimer := if k = .select then some (s.now + 38400000) else s.mnu.selectTimer } ∧
      t.cmp = { s.cmp with latch := if s.mnu.state = .closed ∨ k = .select ∨ k = .plain then s.cmp.latch
                                    else s.cmp.latch.set (panelIndex i) false } ∧
      s.agreesOutside t [.mnu, .cmp]) ∧
    (s.mnu.state = .service → k = .pick →
      (s.bsv.board ≠ .vacant → s.bsv.board ≠ .resetting → t.bsv = { s.bsv with
        board := .resetting, brst := true, attempts := 0, bootLimit := none, stallGrace := none
        resetHold := some (s.now + s.quantities.resetHoldMs * 48000) }) ∧
      (s.bsv.board = .resetting → ∀ due, s.bsv.resetHold = some due → t.bsv = { s.bsv with
        attempts := 0, resetHold := some (s.now + s.quantities.resetHoldMs * 48000) }) ∧
      (s.bsv.board = .vacant → t.bsv = s.bsv)) ∧
    (s.mnu.state = .service → k = .back → t.mnu.state = .browse ∧ t.mnu.cursor = s.rank ∧
      t.ssl.lowSwing = false ∧ t.ssl.highSwing = false ∧ t.bsv.offWindow = false ∧ t.bsv.boardFailed = false ∧
      t.lct.clash = 0 ∧ t.lct.checkError = 0 ∧ t.lct.shortFrame = 0 ∧ t.lct.overrun = 0 ∧
      (t.lct.lineStuck = true ↔ s.lct.lineStuck = true ∧ s.lct.stuck = true) ∧ t.lct.rankClash = s.lct.rankClash ∧
      t.cnu.one.jam = false ∧ t.cnu.two.jam = false ∧ t.cnu.overflow = false ∧ t.cnu.lateCoins = false)

/-- The menu's timers: the select hold with its latch set opens a CLOSED menu of a HOLDING node in BROWSE on the own entry, consuming the
latch, and does nothing more otherwise; the browse timer closes the menu; the notice timer clears the text, and NOTICE gives way to BROWSE.
FAILED handed to the menu opens a CLOSED one of a HOLDING node in BROWSE on the own entry with BOARD FAILED for 3 s; in BROWSE and NOTICE
the text becomes BOARD FAILED for 3 s; in every other case, and for every other board state, nothing happens (R167, R169, R170, R172). That
the browse timer runs on in NOTICE, so that its expiry closes the menu there too, is the model's reading (assumption log 25). -/
def Obligations.MenuTimersEnd : Prop :=
  (∀ (s : State) (due : Moment),
    let now := max s.now due
    (s.mnu.selectTimer = some due →
      ∃ t, exec .selectHoldExpiry s = .next t ∧ t.now = now ∧
        let opens := s.latched .select = true ∧ s.mnu.state = .closed ∧ s.spe.role = .holding
        (opens → t.mnu = { s.mnu with
            state := .browse, cursor := s.rank, selectTimer := none, browseTimer := some (now + 960000000) } ∧
          t.latched .select = false ∧ s.agreesOutside t (.now :: .mnu :: .cmp :: follows)) ∧
        (¬opens → t.mnu = { s.mnu with selectTimer := none } ∧ s.agreesOutside t (.now :: .mnu :: follows))) ∧
    (s.mnu.browseTimer = some due →
      ∃ t, exec .browseTimerExpiry s = .next t ∧ t.now = now ∧
        t.mnu = { s.mnu with state := .closed, notice := none, noticeTimer := none, browseTimer := none } ∧
        s.agreesOutside t (.now :: .mnu :: .cmp :: follows)) ∧
    (s.mnu.noticeTimer = some due →
      ∃ t, exec .noticeTimerExpiry s = .next t ∧ t.now = now ∧
        (s.mnu.state = .notice → t.mnu = { s.mnu with
          state := .browse, notice := none, noticeTimer := none, browseTimer := some (now + 960000000) }) ∧
        (s.mnu.state ≠ .notice → t.mnu = { s.mnu with notice := none, noticeTimer := none }) ∧
        s.agreesOutside t (.now :: .mnu :: .cmp :: follows))) ∧
  ∀ (s : State) (board : BoardState),
    let t := s.menuBoard board
    let failed := { s.mnu with notice := some .boardFailed, noticeTimer := some (s.now + 144000000) }
    (board = .failed → s.mnu.state = .closed → s.spe.role = .holding →
      t.mnu = { failed with state := .browse, cursor := s.rank, browseTimer := some (s.now + 960000000) } ∧
      s.agreesOutside t [.mnu, .cmp]) ∧
    (board = .failed → s.mnu.state = .browse ∨ s.mnu.state = .notice → t = { s with mnu := failed }) ∧
    (board ≠ .failed ∨ s.mnu.state = .wait ∨ s.mnu.state = .service ∨ s.mnu.state = .closed ∧ s.spe.role ≠ .holding → t = s)

/-- Lamps: a board lamp input held for 1 ms since sampling began at the end of the load is mirrored on LP1 or LP2 while a map table is
loaded, the role HOLDING and the menu CLOSED, and they are dark otherwise; a status lamp that shows its condition turns over at the end of
each blink phase, 500 ms long when slow and 125 ms when fast; one whose condition stays goes on in its phase, and one whose condition
changes starts its pattern at once, a blink lit (R160, R161, R182). -/
def Obligations.LampsMirrorAndBlink : Prop :=
  (∀ (s : State) (dt held : Nat) (lamp : LampInput) (lit : Bool) (r : Moment), s.cfl.loadEnded = some r →
    s.cmp.dormant = false → 48000 ≤ min held (s.now + dt - r) → s.cmp.litInput lamp ≠ lit →
    ∃ t, exec (.lampLevelChange dt held lamp lit) s = .next t ∧ t.now = s.now + dt ∧
      let mirrored := s.quantities.map.isSome = true ∧ s.spe.role = .holding ∧ s.mnu.state = .closed
      t.cmp.lit1 = (if lamp = .bl1 then lit else s.cmp.lit1) ∧ t.cmp.lit2 = (if lamp = .bl2 then lit else s.cmp.lit2) ∧
      (t.cmp.lp1 = true ↔ mirrored ∧ t.cmp.lit1 = true) ∧ (t.cmp.lp2 = true ↔ mirrored ∧ t.cmp.lit2 = true) ∧
      t.cmp = { s.cmp with lit1 := t.cmp.lit1, lit2 := t.cmp.lit2, lp1 := t.cmp.lp1, lp2 := t.cmp.lp2 } ∧
      s.agreesOutside t (.now :: .cmp :: follows)) ∧
  (∀ (s : State) (lamp : StatusLamp) (due : Moment), (s.lamps.lamp lamp).phaseEnd = some due →
    (s.lamps.lamp lamp).pattern = s.lampPattern lamp →
    ∃ t, exec (.statusLampBlink lamp) s = .next t ∧ t.now = max s.now due ∧
      t.lamps.lamp lamp = { pattern := s.lampPattern lamp, lit := !(s.lamps.lamp lamp).lit
                            phaseEnd := match s.lampPattern lamp with
                              | .slow => some (due + 24000000)
                              | .fast => some (due + 6000000)
                              | _ => none } ∧
      s.agreesOutside t (.now :: follows)) ∧
  ∀ (s : State) (lamp : StatusLamp),
    let shown := s.settled.lamps.lamp lamp
    let p := s.lampPattern lamp
    ((s.lamps.lamp lamp).pattern = p → shown = s.lamps.lamp lamp) ∧
    ((s.lamps.lamp lamp).pattern ≠ p → shown.pattern = p ∧
      (p = .dark → shown.lit = false ∧ shown.phaseEnd = none) ∧ (p = .steady → shown.lit = true ∧ shown.phaseEnd = none) ∧
      (p = .slow → shown.lit = true ∧ shown.phaseEnd = some (s.now + 24000000)) ∧
      (p = .fast → shown.lit = true ∧ shown.phaseEnd = some (s.now + 6000000)))

/-- The overlay. Rows: glyph line y of row r falls on the field lines V0 + s(10r + y) + j for j below s, and a line is drawn from that
glyph line and that row of cells, but for lines 0, 1 and 2 and lines of floor(HL / 2) or more. Lines: a line start while the switch is closed
takes the drawing decision, menu open or notice line not blank and reference present, and the line count, 0 at a field start and one more at
each later line start up to 1023; a leading edge of the board's logic sync is a line start under source BOARD at least floor(3 × L16 / 64)
ticks after the previous one. Dots: dot k begins floor(k × L16 / (16 × D)) ticks after the line start as it appears on the bus, 12 ticks
after its timestamp under source BOARD, and ends where dot k + 1 begins, dot D - 1 at floor(L16 / 16); on dot k = H0 + 8c + x below D a drawn
line shows glyph dot x of column c, the cell's colour where it is lit, black where it is not and the background is set, and what the output
switch drives otherwise, as everywhere outside the dots of the grid. The space
lights no dot, the solid block every dot, and letters, digits and punctuation leave dot 7 and lines 8 and 9 unlit; the dots beyond that are
a free value (assumption log 9), and what is counted without a reference is the model's choice (assumption log 23) (R163, R164, R165,
R166). -/
def Obligations.OverlayGridIsPlaced : Prop :=
  (∀ (o : OverlayConfig) (n g : Nat), 0 < o.scale →
    (gridLine o n = some g ↔ g < 100 ∧ o.v0 + o.scale * g ≤ n ∧ n < o.v0 + o.scale * (g + 1))) ∧
  (∀ (s : State) (o : OverlayConfig) (r : Signature), s.quantities.overlay = some o → s.tmu.reference = some r → 0 < o.scale →
    ∀ n fieldLines : Nat,
    (n < 3 ∨ fieldLines ≤ n ∨ n < o.v0 ∨ o.v0 + 100 * o.scale ≤ n → s.rowDrawn n fieldLines = none) ∧
    ∀ row y : Fin 10, 3 ≤ n → n < fieldLines → o.v0 + o.scale * (10 * row.val + y.val) ≤ n →
      n < o.v0 + o.scale * (10 * row.val + y.val + 1) →
      s.rowDrawn n fieldLines = some { l16 := r.l16, glyphLine := y, cells := s.rowContent row.val }) ∧
  (∀ (s : State) (start : Moment),
    let f := s.overlayFieldStart start
    let l := s.overlayLineStart start
    let e := s.overlayBoardEdge start
    let draws := (s.mnu.state ≠ .closed ∨ s.mnu.notice ≠ none ∨ s.fsg.active = true) ∧ s.tmu.reference ≠ none
    (s.osw.video = .isOpen → f = s ∧ l = s ∧ e = s) ∧
    (s.osw.video = .isClosed → f = { s with ovg := { s.ovg with
      count := some { n := 0, start := start, fieldLines := (s.tmu.reference.map (fun r => r.hl / 2)).getD 0 }
      draw := decide draws, row := none } }) ∧
    (s.ovg.count = none → l = s ∧ e = s) ∧
    (s.osw.video = .isClosed → ∀ c, s.ovg.count = some c →
      (l = { s with ovg := { s.ovg with
        count := some { n := min 1023 (c.n + 1), start := start, fieldLines := c.fieldLines }
        draw := decide draws, row := if draws then s.rowDrawn (min 1023 (c.n + 1)) c.fieldLines else none } }) ∧
      (s.osw.source = .fill ∨ s.tmu.reference = none → e = s) ∧
      (s.osw.source = .board → ∀ r, s.tmu.reference = some r →
        e = if 3 * r.l16 / 64 ≤ ticksBetween start c.start then l else s))) ∧
  (∀ l16 dots t k : Nat, 0 < dots →
    dotStart l16 dots k = k * l16 / (16 * dots) ∧ dotStart l16 dots dots = l16 / 16 ∧
    (dotAt l16 dots t = some k ↔ k < dots ∧ dotStart l16 dots k ≤ t ∧ t < dotStart l16 dots (k + 1))) ∧
  (∀ (s : State) (o : OverlayConfig) (row : DrawnRow) (c : LineCount) (column : Fin 24) (x : Fin 8),
    s.osw.video = .isClosed → s.quantities.overlay = some o → s.ovg.row = some row → s.ovg.draw = true →
    s.ovg.count = some c → 0 < o.dots →
    let k := o.h0 + 8 * column.val + x.val
    let cell := row.cells[column]
    let shown := if s.osw.source = .board then c.start + 12 else c.start
    k < o.dots → shown + dotStart row.l16 o.dots k ≤ s.now → s.now < shown + dotStart row.l16 o.dots (k + 1) →
    s.dotOutput k =
      (if glyphDot cell.glyph x row.glyphLine = true then .colour cell.colour
       else if cell.background = true then .black else .picture) ∧
    s.busPictureNow =
      (if glyphDot cell.glyph x row.glyphLine = true then .colour cell.colour
       else if cell.background = true ∨ s.osw.fillBlack = true ∨ s.osw.passBlack = true then .black else .board)) ∧
  (∀ s : State,
    let driven := if s.osw.video = .isOpen then BusPicture.disconnected
      else if s.osw.fillBlack = true ∨ s.osw.passBlack = true then .black else .board
    (s.osw.video = .isOpen ∨ s.ovg.row = none ∨ s.ovg.draw = false ∨ s.quantities.overlay = none ∨ s.ovg.count = none →
      s.busPictureNow = driven) ∧
    ∀ o, s.quantities.overlay = some o → ∀ row, s.ovg.row = some row → ∀ c, s.ovg.count = some c → 0 < o.dots →
      let shown := if s.osw.source = .board then c.start + 12 else c.start
      (s.now < shown + dotStart row.l16 o.dots o.h0 ∨ shown + row.l16 / 16 ≤ s.now ∨
        shown + dotStart row.l16 o.dots (o.h0 + 192) ≤ s.now → s.busPictureNow = driven)) ∧
  ∀ (x : Fin 8) (y : Fin 10), glyphDot 0 x y = false ∧ glyphDot 61 x y = true ∧
    ∀ g : Glyph, g.val ≤ 53 ∨ 62 ≤ g.val → x = 7 ∨ 8 ≤ y.val → glyphDot g x y = false

/-! ## What every step keeps -/

/-- The state that node reset leaves meets every invariant below. -/
def Obligations.ResetMeetsInvariants : Prop :=
  let s := State.reset
  s.CoinsWithin ∧ s.AttemptsWithin ∧ s.CountsWithin ∧ s.HitsFollowPhase ∧ s.QueuesWithin ∧ s.SwitchesFollowRole ∧
  s.MenuFollowsRole ∧ s.EdgesFollow ∧ s.DutyFollowsRole ∧ s.FillFollowsSource ∧ s.BoardSourceIsReady ∧
  s.SupervisorConsistent ∧ s.WithdrawnIsSilent ∧ s.BidSetDistinct ∧ s.RoleTimers ∧ s.ViewFollowsRole ∧ s.CblkFollows ∧
  s.LampsShown ∧ s.CellsShown

/-- Every step keeps the counts in range: pending, carried and late coins within 0 to 31 (R140, Law of the device), the attempt count
within 0 to 3 (R52, Law of the device), the counts of the measurement unit, the classifier, the line controller and the contention check
(R12, R30, R32, R78, R110), and the hit buffer as its phase requires (R21, R22). -/
def Obligations.EveryStepKeepsCounts : Prop :=
  Keeps State.CoinsWithin ∧ Keeps State.AttemptsWithin ∧ Keeps State.CountsWithin ∧ Keeps State.HitsFollowPhase

/-- Every step keeps at most four frames and four entries queued, and no two waiting frames of one kind and target (R75, R76, Law of the
device). -/
def Obligations.EveryStepKeepsQueues : Prop :=
  Keeps State.QueuesWithin

/-- Every step keeps the role's followers in place: the two switches and the blanking of PASSING (R97), the menu open only in a role that
holds the screen (R167), the mapper FOLLOWING exactly when it may and nothing pressed through while PARKED (R155, R156, Law of the
device), and coins credited to the own board only in HOLDING and OFFERING (R138, R139, Law of the device). -/
def Obligations.EveryStepKeepsRoleFollowed : Prop :=
  Keeps State.SwitchesFollowRole ∧ Keeps State.MenuFollowsRole ∧ Keeps State.EdgesFollow ∧ Keeps State.DutyFollowsRole

/-- Every step keeps fill active and black exactly while the closed switch has source FILL, source BOARD only for a READY board, a return
armed only then (R56, R57, R58, R61), and the board supervisor's BRST and timers in the states they belong to (R40). -/
def Obligations.EveryStepKeepsSyncSource : Prop :=
  Keeps State.FillFollowsSource ∧ Keeps State.BoardSourceIsReady ∧ Keeps State.SupervisorConsistent

/-- Every step keeps each timer of the engine in the role it belongs to (R99, R104, R107, R115), and with that a WITHDRAWN node muted and
nothing sent or queued outside RUNNING (R70, R99, R101, Law of the device); and each rank at most once in a bid set, empty outside BIDDING
(R104, Law of the device). -/
def Obligations.EveryStepKeepsWithdrawnSilent : Prop :=
  Keeps (fun s => s.WithdrawnIsSilent ∧ s.RoleTimers) ∧ Keeps State.BidSetDistinct

/-- Every step keeps, where a withdrawn node is silent and each timer is in its role, a holder's view its own rank and a bidder's NONE
(R96, R104, R108), and CBLK asserted in exactly the situations of R147: while the coin unit is dormant, in STARTUP, BIDDING, PASSING and
ACCEPTED, in STANDBY with view NONE, and in HOLDING and OFFERING with a board that is not READY. -/
def Obligations.EveryStepKeepsViewAndCblk : Prop :=
  Keeps (fun s => s.WithdrawnIsSilent ∧ s.RoleTimers ∧ s.ViewFollowsRole) ∧
  Keeps (fun s => s.WithdrawnIsSilent ∧ s.RoleTimers ∧ s.CblkFollows)

/-- Every step leaves the status lamps in the patterns of R182: ST0 steady in HOLDING and slow in OFFERING, PASSING and ACCEPTED, ST1 steady
for a READY board, ST2 fast without a configuration, slow at a rank clash, steady with a latched fault, and dark otherwise and during node
reset; and the cell memory with the notice line of R172, the game list of R173 and the service page of R174, row by row. That they follow at
the end of each command is the model's choice (assumption log 26). -/
def Obligations.EveryStepLeavesStateShown : Prop :=
  Keeps State.LampsShown ∧ Keeps State.CellsShown
end

