-- ==== Sys2Proof/Laws/FrameParts.lean ====
section
/-!
SUPPORT. What each shared operation over one or a few blocks leaves as it was.
-/

namespace Sys2Proof.Machine

@[simp] theorem State.elapse_frame (s : State) (n : Nat) :
    (s.elapse n).rank = s.rank ∧ (s.elapse n).cfg = s.cfg ∧ (s.elapse n).cfl = s.cfl ∧ (s.elapse n).ssl = s.ssl ∧
    (s.elapse n).pcl = s.pcl ∧ (s.elapse n).bus = s.bus ∧ (s.elapse n).tmu = s.tmu ∧ (s.elapse n).bsv = s.bsv ∧
    (s.elapse n).osw = s.osw ∧ (s.elapse n).fsg = s.fsg ∧ (s.elapse n).lct = s.lct ∧ (s.elapse n).spe = s.spe ∧
    (s.elapse n).roster = s.roster ∧ (s.elapse n).cnu = s.cnu ∧ (s.elapse n).cmp = s.cmp ∧ (s.elapse n).ovg = s.ovg ∧
    (s.elapse n).mnu = s.mnu ∧ (s.elapse n).lamps = s.lamps ∧ (s.elapse n).pending = s.pending := by
  simp [State.elapse]

@[simp] theorem State.advanceTo_frame (s : State) (m : Moment) :
    (s.advanceTo m).rank = s.rank ∧ (s.advanceTo m).cfg = s.cfg ∧ (s.advanceTo m).cfl = s.cfl ∧ (s.advanceTo m).ssl = s.ssl ∧
    (s.advanceTo m).pcl = s.pcl ∧ (s.advanceTo m).bus = s.bus ∧ (s.advanceTo m).tmu = s.tmu ∧ (s.advanceTo m).bsv = s.bsv ∧
    (s.advanceTo m).osw = s.osw ∧ (s.advanceTo m).fsg = s.fsg ∧ (s.advanceTo m).lct = s.lct ∧ (s.advanceTo m).spe = s.spe ∧
    (s.advanceTo m).roster = s.roster ∧ (s.advanceTo m).cnu = s.cnu ∧ (s.advanceTo m).cmp = s.cmp ∧ (s.advanceTo m).ovg = s.ovg ∧
    (s.advanceTo m).mnu = s.mnu ∧ (s.advanceTo m).lamps = s.lamps ∧ (s.advanceTo m).pending = s.pending := by
  simp [State.advanceTo]

@[simp] theorem State.enterAcquiring_frame (s : State) :
    (s.enterAcquiring).now = s.now ∧ (s.enterAcquiring).rank = s.rank ∧ (s.enterAcquiring).cfg = s.cfg ∧
    (s.enterAcquiring).cfl = s.cfl ∧ (s.enterAcquiring).bus = s.bus ∧ (s.enterAcquiring).tmu = s.tmu ∧
    (s.enterAcquiring).bsv = s.bsv ∧ (s.enterAcquiring).osw = s.osw ∧ (s.enterAcquiring).fsg = s.fsg ∧
    (s.enterAcquiring).lct = s.lct ∧ (s.enterAcquiring).spe = s.spe ∧ (s.enterAcquiring).roster = s.roster ∧
    (s.enterAcquiring).cnu = s.cnu ∧ (s.enterAcquiring).cmp = s.cmp ∧ (s.enterAcquiring).ovg = s.ovg ∧
    (s.enterAcquiring).mnu = s.mnu ∧ (s.enterAcquiring).lamps = s.lamps ∧ (s.enterAcquiring).pending = s.pending := by
  simp [State.enterAcquiring]

@[simp] theorem State.freshWindow_frame (s : State) :
    (s.freshWindow).now = s.now ∧ (s.freshWindow).rank = s.rank ∧ (s.freshWindow).cfg = s.cfg ∧ (s.freshWindow).cfl = s.cfl ∧
    (s.freshWindow).pcl = s.pcl ∧ (s.freshWindow).bus = s.bus ∧ (s.freshWindow).tmu = s.tmu ∧ (s.freshWindow).bsv = s.bsv ∧
    (s.freshWindow).osw = s.osw ∧ (s.freshWindow).fsg = s.fsg ∧ (s.freshWindow).lct = s.lct ∧ (s.freshWindow).spe = s.spe ∧
    (s.freshWindow).roster = s.roster ∧ (s.freshWindow).cnu = s.cnu ∧ (s.freshWindow).cmp = s.cmp ∧ (s.freshWindow).ovg = s.ovg ∧
    (s.freshWindow).mnu = s.mnu ∧ (s.freshWindow).lamps = s.lamps ∧ (s.freshWindow).pending = s.pending := by
  simp [State.freshWindow]

@[simp] theorem State.lockFromWindow_frame (s : State) (level : Code) :
    (s.lockFromWindow level).now = s.now ∧ (s.lockFromWindow level).rank = s.rank ∧ (s.lockFromWindow level).cfg = s.cfg ∧
    (s.lockFromWindow level).cfl = s.cfl ∧ (s.lockFromWindow level).bus = s.bus ∧ (s.lockFromWindow level).tmu = s.tmu ∧
    (s.lockFromWindow level).bsv = s.bsv ∧ (s.lockFromWindow level).osw = s.osw ∧ (s.lockFromWindow level).fsg = s.fsg ∧
    (s.lockFromWindow level).lct = s.lct ∧ (s.lockFromWindow level).spe = s.spe ∧ (s.lockFromWindow level).roster = s.roster ∧
    (s.lockFromWindow level).cnu = s.cnu ∧ (s.lockFromWindow level).cmp = s.cmp ∧ (s.lockFromWindow level).ovg = s.ovg ∧
    (s.lockFromWindow level).mnu = s.mnu ∧ (s.lockFromWindow level).lamps = s.lamps ∧ (s.lockFromWindow level).pending = s.pending := by
  simp [State.lockFromWindow]

@[simp] theorem State.lockFixed_frame (s : State) :
    (s.lockFixed).now = s.now ∧ (s.lockFixed).rank = s.rank ∧ (s.lockFixed).cfg = s.cfg ∧ (s.lockFixed).cfl = s.cfl ∧
    (s.lockFixed).pcl = s.pcl ∧ (s.lockFixed).bus = s.bus ∧ (s.lockFixed).tmu = s.tmu ∧ (s.lockFixed).bsv = s.bsv ∧
    (s.lockFixed).osw = s.osw ∧ (s.lockFixed).fsg = s.fsg ∧ (s.lockFixed).lct = s.lct ∧ (s.lockFixed).spe = s.spe ∧
    (s.lockFixed).roster = s.roster ∧ (s.lockFixed).cnu = s.cnu ∧ (s.lockFixed).cmp = s.cmp ∧ (s.lockFixed).ovg = s.ovg ∧
    (s.lockFixed).mnu = s.mnu ∧ (s.lockFixed).lamps = s.lamps ∧ (s.lockFixed).pending = s.pending := by
  simp [State.lockFixed]

@[simp] theorem State.slicerLoadEnd_frame (s : State) :
    (s.slicerLoadEnd).now = s.now ∧ (s.slicerLoadEnd).rank = s.rank ∧ (s.slicerLoadEnd).cfg = s.cfg ∧
    (s.slicerLoadEnd).cfl = s.cfl ∧ (s.slicerLoadEnd).bus = s.bus ∧ (s.slicerLoadEnd).tmu = s.tmu ∧
    (s.slicerLoadEnd).bsv = s.bsv ∧ (s.slicerLoadEnd).osw = s.osw ∧ (s.slicerLoadEnd).fsg = s.fsg ∧
    (s.slicerLoadEnd).lct = s.lct ∧ (s.slicerLoadEnd).spe = s.spe ∧ (s.slicerLoadEnd).roster = s.roster ∧
    (s.slicerLoadEnd).cnu = s.cnu ∧ (s.slicerLoadEnd).cmp = s.cmp ∧ (s.slicerLoadEnd).ovg = s.ovg ∧
    (s.slicerLoadEnd).mnu = s.mnu ∧ (s.slicerLoadEnd).lamps = s.lamps ∧ (s.slicerLoadEnd).pending = s.pending := by
  simp only [State.slicerLoadEnd]
  repeat' split
  all_goals simp

@[simp] theorem State.clearTmu_frame (s : State) :
    (s.clearTmu).now = s.now ∧ (s.clearTmu).rank = s.rank ∧ (s.clearTmu).cfg = s.cfg ∧ (s.clearTmu).cfl = s.cfl ∧
    (s.clearTmu).ssl = s.ssl ∧ (s.clearTmu).pcl = s.pcl ∧ (s.clearTmu).bus = s.bus ∧ (s.clearTmu).bsv = s.bsv ∧
    (s.clearTmu).osw = s.osw ∧ (s.clearTmu).fsg = s.fsg ∧ (s.clearTmu).lct = s.lct ∧ (s.clearTmu).spe = s.spe ∧
    (s.clearTmu).roster = s.roster ∧ (s.clearTmu).cnu = s.cnu ∧ (s.clearTmu).cmp = s.cmp ∧ (s.clearTmu).ovg = s.ovg ∧
    (s.clearTmu).mnu = s.mnu ∧ (s.clearTmu).lamps = s.lamps ∧ (s.clearTmu).pending = s.pending := by
  simp [State.clearTmu]

@[simp] theorem State.setEntry_frame (s : State) (r : Rank) (e : RosterEntry) :
    (s.setEntry r e).now = s.now ∧ (s.setEntry r e).rank = s.rank ∧ (s.setEntry r e).cfg = s.cfg ∧ (s.setEntry r e).cfl = s.cfl ∧
    (s.setEntry r e).ssl = s.ssl ∧ (s.setEntry r e).pcl = s.pcl ∧ (s.setEntry r e).bus = s.bus ∧ (s.setEntry r e).tmu = s.tmu ∧
    (s.setEntry r e).bsv = s.bsv ∧ (s.setEntry r e).osw = s.osw ∧ (s.setEntry r e).fsg = s.fsg ∧ (s.setEntry r e).lct = s.lct ∧
    (s.setEntry r e).spe = s.spe ∧ (s.setEntry r e).cnu = s.cnu ∧ (s.setEntry r e).cmp = s.cmp ∧ (s.setEntry r e).ovg = s.ovg ∧
    (s.setEntry r e).mnu = s.mnu ∧ (s.setEntry r e).lamps = s.lamps ∧ (s.setEntry r e).pending = s.pending := by
  simp only [State.setEntry]
  repeat' split
  all_goals simp

@[simp] theorem State.rosterPresent_frame (s : State) (r : Rank) :
    (s.rosterPresent r).now = s.now ∧ (s.rosterPresent r).rank = s.rank ∧ (s.rosterPresent r).cfg = s.cfg ∧
    (s.rosterPresent r).cfl = s.cfl ∧ (s.rosterPresent r).ssl = s.ssl ∧ (s.rosterPresent r).pcl = s.pcl ∧
    (s.rosterPresent r).bus = s.bus ∧ (s.rosterPresent r).tmu = s.tmu ∧ (s.rosterPresent r).bsv = s.bsv ∧
    (s.rosterPresent r).osw = s.osw ∧ (s.rosterPresent r).fsg = s.fsg ∧ (s.rosterPresent r).lct = s.lct ∧
    (s.rosterPresent r).spe = s.spe ∧ (s.rosterPresent r).cnu = s.cnu ∧ (s.rosterPresent r).cmp = s.cmp ∧
    (s.rosterPresent r).ovg = s.ovg ∧ (s.rosterPresent r).mnu = s.mnu ∧ (s.rosterPresent r).lamps = s.lamps ∧
    (s.rosterPresent r).pending = s.pending := by
  simp [State.rosterPresent]

@[simp] theorem State.rosterSilent_frame (s : State) (r : Rank) :
    (s.rosterSilent r).now = s.now ∧ (s.rosterSilent r).rank = s.rank ∧ (s.rosterSilent r).cfg = s.cfg ∧
    (s.rosterSilent r).cfl = s.cfl ∧ (s.rosterSilent r).ssl = s.ssl ∧ (s.rosterSilent r).pcl = s.pcl ∧
    (s.rosterSilent r).bus = s.bus ∧ (s.rosterSilent r).tmu = s.tmu ∧ (s.rosterSilent r).bsv = s.bsv ∧
    (s.rosterSilent r).osw = s.osw ∧ (s.rosterSilent r).fsg = s.fsg ∧ (s.rosterSilent r).lct = s.lct ∧
    (s.rosterSilent r).spe = s.spe ∧ (s.rosterSilent r).cnu = s.cnu ∧ (s.rosterSilent r).cmp = s.cmp ∧
    (s.rosterSilent r).ovg = s.ovg ∧ (s.rosterSilent r).lamps = s.lamps ∧ (s.rosterSilent r).pending = s.pending := by
  simp only [State.rosterSilent]
  repeat' split
  all_goals simp

@[simp] theorem State.rosterBoard_frame (s : State) (r : Rank) (board : BoardState) :
    (s.rosterBoard r board).now = s.now ∧ (s.rosterBoard r board).rank = s.rank ∧ (s.rosterBoard r board).cfg = s.cfg ∧
    (s.rosterBoard r board).cfl = s.cfl ∧ (s.rosterBoard r board).ssl = s.ssl ∧ (s.rosterBoard r board).pcl = s.pcl ∧
    (s.rosterBoard r board).bus = s.bus ∧ (s.rosterBoard r board).tmu = s.tmu ∧ (s.rosterBoard r board).bsv = s.bsv ∧
    (s.rosterBoard r board).osw = s.osw ∧ (s.rosterBoard r board).fsg = s.fsg ∧ (s.rosterBoard r board).lct = s.lct ∧
    (s.rosterBoard r board).spe = s.spe ∧ (s.rosterBoard r board).cnu = s.cnu ∧ (s.rosterBoard r board).cmp = s.cmp ∧
    (s.rosterBoard r board).ovg = s.ovg ∧ (s.rosterBoard r board).mnu = s.mnu ∧ (s.rosterBoard r board).lamps = s.lamps ∧
    (s.rosterBoard r board).pending = s.pending := by
  simp [State.rosterBoard]

@[simp] theorem State.rosterTitle_frame (s : State) (r : Rank) (title : List Glyph) :
    (s.rosterTitle r title).now = s.now ∧ (s.rosterTitle r title).rank = s.rank ∧ (s.rosterTitle r title).cfg = s.cfg ∧
    (s.rosterTitle r title).cfl = s.cfl ∧ (s.rosterTitle r title).ssl = s.ssl ∧ (s.rosterTitle r title).pcl = s.pcl ∧
    (s.rosterTitle r title).bus = s.bus ∧ (s.rosterTitle r title).tmu = s.tmu ∧ (s.rosterTitle r title).bsv = s.bsv ∧
    (s.rosterTitle r title).osw = s.osw ∧ (s.rosterTitle r title).fsg = s.fsg ∧ (s.rosterTitle r title).lct = s.lct ∧
    (s.rosterTitle r title).spe = s.spe ∧ (s.rosterTitle r title).cnu = s.cnu ∧ (s.rosterTitle r title).cmp = s.cmp ∧
    (s.rosterTitle r title).ovg = s.ovg ∧ (s.rosterTitle r title).mnu = s.mnu ∧ (s.rosterTitle r title).lamps = s.lamps ∧
    (s.rosterTitle r title).pending = s.pending := by
  simp only [State.rosterTitle]
  repeat' split
  all_goals simp

@[simp] theorem State.rosterClaim_frame (s : State) (r : Rank) :
    (s.rosterClaim r).now = s.now ∧ (s.rosterClaim r).rank = s.rank ∧ (s.rosterClaim r).cfg = s.cfg ∧
    (s.rosterClaim r).cfl = s.cfl ∧ (s.rosterClaim r).ssl = s.ssl ∧ (s.rosterClaim r).pcl = s.pcl ∧
    (s.rosterClaim r).bus = s.bus ∧ (s.rosterClaim r).tmu = s.tmu ∧ (s.rosterClaim r).bsv = s.bsv ∧
    (s.rosterClaim r).osw = s.osw ∧ (s.rosterClaim r).fsg = s.fsg ∧ (s.rosterClaim r).lct = s.lct ∧
    (s.rosterClaim r).spe = s.spe ∧ (s.rosterClaim r).cnu = s.cnu ∧ (s.rosterClaim r).cmp = s.cmp ∧
    (s.rosterClaim r).ovg = s.ovg ∧ (s.rosterClaim r).mnu = s.mnu ∧ (s.rosterClaim r).lamps = s.lamps ∧
    (s.rosterClaim r).pending = s.pending := by
  simp only [State.rosterClaim]
  all_goals simp

@[simp] theorem State.rosterRelease_frame (s : State) (r : Rank) :
    (s.rosterRelease r).now = s.now ∧ (s.rosterRelease r).rank = s.rank ∧ (s.rosterRelease r).cfg = s.cfg ∧
    (s.rosterRelease r).cfl = s.cfl ∧ (s.rosterRelease r).ssl = s.ssl ∧ (s.rosterRelease r).pcl = s.pcl ∧
    (s.rosterRelease r).bus = s.bus ∧ (s.rosterRelease r).tmu = s.tmu ∧ (s.rosterRelease r).bsv = s.bsv ∧
    (s.rosterRelease r).osw = s.osw ∧ (s.rosterRelease r).fsg = s.fsg ∧ (s.rosterRelease r).lct = s.lct ∧
    (s.rosterRelease r).spe = s.spe ∧ (s.rosterRelease r).cnu = s.cnu ∧ (s.rosterRelease r).cmp = s.cmp ∧
    (s.rosterRelease r).ovg = s.ovg ∧ (s.rosterRelease r).mnu = s.mnu ∧ (s.rosterRelease r).lamps = s.lamps ∧
    (s.rosterRelease r).pending = s.pending := by
  simp [State.rosterRelease]

@[simp] theorem State.rosterTake_frame (s : State) (r : Rank) (body : Body) :
    (s.rosterTake r body).now = s.now ∧ (s.rosterTake r body).rank = s.rank ∧ (s.rosterTake r body).cfg = s.cfg ∧
    (s.rosterTake r body).cfl = s.cfl ∧ (s.rosterTake r body).ssl = s.ssl ∧ (s.rosterTake r body).pcl = s.pcl ∧
    (s.rosterTake r body).bus = s.bus ∧ (s.rosterTake r body).tmu = s.tmu ∧ (s.rosterTake r body).bsv = s.bsv ∧
    (s.rosterTake r body).osw = s.osw ∧ (s.rosterTake r body).fsg = s.fsg ∧ (s.rosterTake r body).lct = s.lct ∧
    (s.rosterTake r body).spe = s.spe ∧ (s.rosterTake r body).cnu = s.cnu ∧ (s.rosterTake r body).cmp = s.cmp ∧
    (s.rosterTake r body).ovg = s.ovg ∧ (s.rosterTake r body).mnu = s.mnu ∧ (s.rosterTake r body).lamps = s.lamps ∧
    (s.rosterTake r body).pending = s.pending := by
  simp only [State.rosterTake]
  repeat' split
  all_goals simp

@[simp] theorem State.refreshCells_frame (s : State) :
    (s.refreshCells).now = s.now ∧ (s.refreshCells).rank = s.rank ∧ (s.refreshCells).cfg = s.cfg ∧ (s.refreshCells).cfl = s.cfl ∧
    (s.refreshCells).ssl = s.ssl ∧ (s.refreshCells).pcl = s.pcl ∧ (s.refreshCells).bus = s.bus ∧ (s.refreshCells).tmu = s.tmu ∧
    (s.refreshCells).bsv = s.bsv ∧ (s.refreshCells).osw = s.osw ∧ (s.refreshCells).fsg = s.fsg ∧ (s.refreshCells).lct = s.lct ∧
    (s.refreshCells).spe = s.spe ∧ (s.refreshCells).roster = s.roster ∧ (s.refreshCells).cnu = s.cnu ∧
    (s.refreshCells).cmp = s.cmp ∧ (s.refreshCells).mnu = s.mnu ∧ (s.refreshCells).lamps = s.lamps ∧
    (s.refreshCells).pending = s.pending := by
  simp only [State.refreshCells]
  all_goals simp

@[simp] theorem State.clearFaults_frame (s : State) :
    (s.clearFaults).now = s.now ∧ (s.clearFaults).rank = s.rank ∧ (s.clearFaults).cfg = s.cfg ∧ (s.clearFaults).cfl = s.cfl ∧
    (s.clearFaults).pcl = s.pcl ∧ (s.clearFaults).bus = s.bus ∧ (s.clearFaults).tmu = s.tmu ∧ (s.clearFaults).osw = s.osw ∧
    (s.clearFaults).fsg = s.fsg ∧ (s.clearFaults).spe = s.spe ∧ (s.clearFaults).roster = s.roster ∧ (s.clearFaults).cmp = s.cmp ∧
    (s.clearFaults).ovg = s.ovg ∧ (s.clearFaults).mnu = s.mnu ∧ (s.clearFaults).lamps = s.lamps ∧
    (s.clearFaults).pending = s.pending := by
  simp [State.clearFaults]

@[simp] theorem State.refreshLamps_frame (s : State) :
    (s.refreshLamps).now = s.now ∧ (s.refreshLamps).rank = s.rank ∧ (s.refreshLamps).cfg = s.cfg ∧ (s.refreshLamps).cfl = s.cfl ∧
    (s.refreshLamps).ssl = s.ssl ∧ (s.refreshLamps).pcl = s.pcl ∧ (s.refreshLamps).bus = s.bus ∧ (s.refreshLamps).tmu = s.tmu ∧
    (s.refreshLamps).bsv = s.bsv ∧ (s.refreshLamps).osw = s.osw ∧ (s.refreshLamps).fsg = s.fsg ∧ (s.refreshLamps).lct = s.lct ∧
    (s.refreshLamps).spe = s.spe ∧ (s.refreshLamps).roster = s.roster ∧ (s.refreshLamps).cnu = s.cnu ∧
    (s.refreshLamps).cmp = s.cmp ∧ (s.refreshLamps).ovg = s.ovg ∧ (s.refreshLamps).mnu = s.mnu ∧
    (s.refreshLamps).pending = s.pending := by
  simp [State.refreshLamps]

@[simp] theorem State.beginLine_frame (s : State) (n : Nat) (start : Moment) (fieldLines : Nat) :
    (s.beginLine n start fieldLines).now = s.now ∧ (s.beginLine n start fieldLines).rank = s.rank ∧
    (s.beginLine n start fieldLines).cfg = s.cfg ∧ (s.beginLine n start fieldLines).cfl = s.cfl ∧
    (s.beginLine n start fieldLines).ssl = s.ssl ∧ (s.beginLine n start fieldLines).pcl = s.pcl ∧
    (s.beginLine n start fieldLines).bus = s.bus ∧ (s.beginLine n start fieldLines).tmu = s.tmu ∧
    (s.beginLine n start fieldLines).bsv = s.bsv ∧ (s.beginLine n start fieldLines).osw = s.osw ∧
    (s.beginLine n start fieldLines).fsg = s.fsg ∧ (s.beginLine n start fieldLines).lct = s.lct ∧
    (s.beginLine n start fieldLines).spe = s.spe ∧ (s.beginLine n start fieldLines).roster = s.roster ∧
    (s.beginLine n start fieldLines).cnu = s.cnu ∧ (s.beginLine n start fieldLines).cmp = s.cmp ∧
    (s.beginLine n start fieldLines).mnu = s.mnu ∧ (s.beginLine n start fieldLines).lamps = s.lamps ∧
    (s.beginLine n start fieldLines).pending = s.pending := by
  simp only [State.beginLine]
  all_goals simp

@[simp] theorem State.overlayFieldStart_frame (s : State) (start : Moment) :
    (s.overlayFieldStart start).now = s.now ∧ (s.overlayFieldStart start).rank = s.rank ∧
    (s.overlayFieldStart start).cfg = s.cfg ∧ (s.overlayFieldStart start).cfl = s.cfl ∧ (s.overlayFieldStart start).ssl = s.ssl ∧
    (s.overlayFieldStart start).pcl = s.pcl ∧ (s.overlayFieldStart start).bus = s.bus ∧ (s.overlayFieldStart start).tmu = s.tmu ∧
    (s.overlayFieldStart start).bsv = s.bsv ∧ (s.overlayFieldStart start).osw = s.osw ∧ (s.overlayFieldStart start).fsg = s.fsg ∧
    (s.overlayFieldStart start).lct = s.lct ∧ (s.overlayFieldStart start).spe = s.spe ∧
    (s.overlayFieldStart start).roster = s.roster ∧ (s.overlayFieldStart start).cnu = s.cnu ∧
    (s.overlayFieldStart start).cmp = s.cmp ∧ (s.overlayFieldStart start).mnu = s.mnu ∧
    (s.overlayFieldStart start).lamps = s.lamps ∧ (s.overlayFieldStart start).pending = s.pending := by
  simp only [State.overlayFieldStart]
  repeat' split
  all_goals simp

@[simp] theorem State.overlayLineStart_frame (s : State) (start : Moment) :
    (s.overlayLineStart start).now = s.now ∧ (s.overlayLineStart start).rank = s.rank ∧ (s.overlayLineStart start).cfg = s.cfg ∧
    (s.overlayLineStart start).cfl = s.cfl ∧ (s.overlayLineStart start).ssl = s.ssl ∧ (s.overlayLineStart start).pcl = s.pcl ∧
    (s.overlayLineStart start).bus = s.bus ∧ (s.overlayLineStart start).tmu = s.tmu ∧ (s.overlayLineStart start).bsv = s.bsv ∧
    (s.overlayLineStart start).osw = s.osw ∧ (s.overlayLineStart start).fsg = s.fsg ∧ (s.overlayLineStart start).lct = s.lct ∧
    (s.overlayLineStart start).spe = s.spe ∧ (s.overlayLineStart start).roster = s.roster ∧
    (s.overlayLineStart start).cnu = s.cnu ∧ (s.overlayLineStart start).cmp = s.cmp ∧ (s.overlayLineStart start).mnu = s.mnu ∧
    (s.overlayLineStart start).lamps = s.lamps ∧ (s.overlayLineStart start).pending = s.pending := by
  simp only [State.overlayLineStart]
  repeat' split
  all_goals simp

@[simp] theorem State.overlayBoardEdge_frame (s : State) (lead : Moment) :
    (s.overlayBoardEdge lead).now = s.now ∧ (s.overlayBoardEdge lead).rank = s.rank ∧ (s.overlayBoardEdge lead).cfg = s.cfg ∧
    (s.overlayBoardEdge lead).cfl = s.cfl ∧ (s.overlayBoardEdge lead).ssl = s.ssl ∧ (s.overlayBoardEdge lead).pcl = s.pcl ∧
    (s.overlayBoardEdge lead).bus = s.bus ∧ (s.overlayBoardEdge lead).tmu = s.tmu ∧ (s.overlayBoardEdge lead).bsv = s.bsv ∧
    (s.overlayBoardEdge lead).osw = s.osw ∧ (s.overlayBoardEdge lead).fsg = s.fsg ∧ (s.overlayBoardEdge lead).lct = s.lct ∧
    (s.overlayBoardEdge lead).spe = s.spe ∧ (s.overlayBoardEdge lead).roster = s.roster ∧ (s.overlayBoardEdge lead).cnu = s.cnu ∧
    (s.overlayBoardEdge lead).cmp = s.cmp ∧ (s.overlayBoardEdge lead).mnu = s.mnu ∧ (s.overlayBoardEdge lead).lamps = s.lamps ∧
    (s.overlayBoardEdge lead).pending = s.pending := by
  simp only [State.overlayBoardEdge]
  repeat' split
  all_goals simp

@[simp] theorem State.overlayBoardField_frame (s : State) (lead : Moment) :
    (s.overlayBoardField lead).now = s.now ∧ (s.overlayBoardField lead).rank = s.rank ∧ (s.overlayBoardField lead).cfg = s.cfg ∧
    (s.overlayBoardField lead).cfl = s.cfl ∧ (s.overlayBoardField lead).ssl = s.ssl ∧ (s.overlayBoardField lead).pcl = s.pcl ∧
    (s.overlayBoardField lead).bus = s.bus ∧ (s.overlayBoardField lead).tmu = s.tmu ∧ (s.overlayBoardField lead).bsv = s.bsv ∧
    (s.overlayBoardField lead).osw = s.osw ∧ (s.overlayBoardField lead).fsg = s.fsg ∧ (s.overlayBoardField lead).lct = s.lct ∧
    (s.overlayBoardField lead).spe = s.spe ∧ (s.overlayBoardField lead).roster = s.roster ∧
    (s.overlayBoardField lead).cnu = s.cnu ∧ (s.overlayBoardField lead).cmp = s.cmp ∧ (s.overlayBoardField lead).mnu = s.mnu ∧
    (s.overlayBoardField lead).lamps = s.lamps ∧ (s.overlayBoardField lead).pending = s.pending := by
  simp only [State.overlayBoardField]
  repeat' split
  all_goals simp

@[simp] theorem State.overlayStop_frame (s : State) :
    (s.overlayStop).now = s.now ∧ (s.overlayStop).rank = s.rank ∧ (s.overlayStop).cfg = s.cfg ∧ (s.overlayStop).cfl = s.cfl ∧
    (s.overlayStop).ssl = s.ssl ∧ (s.overlayStop).pcl = s.pcl ∧ (s.overlayStop).bus = s.bus ∧ (s.overlayStop).tmu = s.tmu ∧
    (s.overlayStop).bsv = s.bsv ∧ (s.overlayStop).osw = s.osw ∧ (s.overlayStop).fsg = s.fsg ∧ (s.overlayStop).lct = s.lct ∧
    (s.overlayStop).spe = s.spe ∧ (s.overlayStop).roster = s.roster ∧ (s.overlayStop).cnu = s.cnu ∧ (s.overlayStop).cmp = s.cmp ∧
    (s.overlayStop).mnu = s.mnu ∧ (s.overlayStop).lamps = s.lamps ∧ (s.overlayStop).pending = s.pending := by
  simp [State.overlayStop]

@[simp] theorem State.beginFillField_frame (s : State) (start : Moment) (longer : Bool) :
    (s.beginFillField start longer).now = s.now ∧ (s.beginFillField start longer).rank = s.rank ∧
    (s.beginFillField start longer).cfg = s.cfg ∧ (s.beginFillField start longer).cfl = s.cfl ∧
    (s.beginFillField start longer).ssl = s.ssl ∧ (s.beginFillField start longer).pcl = s.pcl ∧
    (s.beginFillField start longer).bus = s.bus ∧ (s.beginFillField start longer).tmu = s.tmu ∧
    (s.beginFillField start longer).bsv = s.bsv ∧ (s.beginFillField start longer).osw = s.osw ∧
    (s.beginFillField start longer).lct = s.lct ∧ (s.beginFillField start longer).spe = s.spe ∧
    (s.beginFillField start longer).roster = s.roster ∧ (s.beginFillField start longer).cnu = s.cnu ∧
    (s.beginFillField start longer).cmp = s.cmp ∧ (s.beginFillField start longer).mnu = s.mnu ∧
    (s.beginFillField start longer).lamps = s.lamps ∧ (s.beginFillField start longer).pending = s.pending := by
  simp only [State.beginFillField]
  repeat' split
  all_goals simp

@[simp] theorem State.startFill_frame (s : State) (start : Moment) :
    (s.startFill start).now = s.now ∧ (s.startFill start).rank = s.rank ∧ (s.startFill start).cfg = s.cfg ∧
    (s.startFill start).cfl = s.cfl ∧ (s.startFill start).ssl = s.ssl ∧ (s.startFill start).pcl = s.pcl ∧
    (s.startFill start).bus = s.bus ∧ (s.startFill start).tmu = s.tmu ∧ (s.startFill start).bsv = s.bsv ∧
    (s.startFill start).lct = s.lct ∧ (s.startFill start).spe = s.spe ∧ (s.startFill start).roster = s.roster ∧
    (s.startFill start).cnu = s.cnu ∧ (s.startFill start).cmp = s.cmp ∧ (s.startFill start).mnu = s.mnu ∧
    (s.startFill start).lamps = s.lamps ∧ (s.startFill start).pending = s.pending := by
  simp [State.startFill]

@[simp] theorem State.ownEdge_frame (s : State) (lead : Moment) :
    (s.ownEdge lead).now = s.now ∧ (s.ownEdge lead).rank = s.rank ∧ (s.ownEdge lead).cfg = s.cfg ∧ (s.ownEdge lead).cfl = s.cfl ∧
    (s.ownEdge lead).ssl = s.ssl ∧ (s.ownEdge lead).pcl = s.pcl ∧ (s.ownEdge lead).bus = s.bus ∧ (s.ownEdge lead).tmu = s.tmu ∧
    (s.ownEdge lead).bsv = s.bsv ∧ (s.ownEdge lead).fsg = s.fsg ∧ (s.ownEdge lead).lct = s.lct ∧ (s.ownEdge lead).spe = s.spe ∧
    (s.ownEdge lead).roster = s.roster ∧ (s.ownEdge lead).cnu = s.cnu ∧ (s.ownEdge lead).cmp = s.cmp ∧
    (s.ownEdge lead).ovg = s.ovg ∧ (s.ownEdge lead).mnu = s.mnu ∧ (s.ownEdge lead).lamps = s.lamps ∧
    (s.ownEdge lead).pending = s.pending := by
  simp only [State.ownEdge]
  repeat' split
  all_goals simp

@[simp] theorem State.ownBoardEdge_frame (s : State) (lead : Moment) :
    (s.ownBoardEdge lead).now = s.now ∧ (s.ownBoardEdge lead).rank = s.rank ∧ (s.ownBoardEdge lead).cfg = s.cfg ∧
    (s.ownBoardEdge lead).cfl = s.cfl ∧ (s.ownBoardEdge lead).ssl = s.ssl ∧ (s.ownBoardEdge lead).pcl = s.pcl ∧
    (s.ownBoardEdge lead).bus = s.bus ∧ (s.ownBoardEdge lead).tmu = s.tmu ∧ (s.ownBoardEdge lead).bsv = s.bsv ∧
    (s.ownBoardEdge lead).fsg = s.fsg ∧ (s.ownBoardEdge lead).lct = s.lct ∧ (s.ownBoardEdge lead).spe = s.spe ∧
    (s.ownBoardEdge lead).roster = s.roster ∧ (s.ownBoardEdge lead).cnu = s.cnu ∧ (s.ownBoardEdge lead).cmp = s.cmp ∧
    (s.ownBoardEdge lead).ovg = s.ovg ∧ (s.ownBoardEdge lead).mnu = s.mnu ∧ (s.ownBoardEdge lead).lamps = s.lamps ∧
    (s.ownBoardEdge lead).pending = s.pending := by
  simp only [State.ownBoardEdge]
  repeat' split
  all_goals simp

@[simp] theorem State.closeVideo_frame (s : State) :
    (s.closeVideo).now = s.now ∧ (s.closeVideo).rank = s.rank ∧ (s.closeVideo).cfg = s.cfg ∧ (s.closeVideo).cfl = s.cfl ∧
    (s.closeVideo).ssl = s.ssl ∧ (s.closeVideo).pcl = s.pcl ∧ (s.closeVideo).tmu = s.tmu ∧ (s.closeVideo).bsv = s.bsv ∧
    (s.closeVideo).lct = s.lct ∧ (s.closeVideo).spe = s.spe ∧ (s.closeVideo).roster = s.roster ∧ (s.closeVideo).cnu = s.cnu ∧
    (s.closeVideo).cmp = s.cmp ∧ (s.closeVideo).mnu = s.mnu ∧ (s.closeVideo).lamps = s.lamps ∧ (s.closeVideo).pending = s.pending := by
  simp only [State.closeVideo]
  repeat' split
  all_goals simp

@[simp] theorem State.openVideo_frame (s : State) :
    (s.openVideo).now = s.now ∧ (s.openVideo).rank = s.rank ∧ (s.openVideo).cfg = s.cfg ∧ (s.openVideo).cfl = s.cfl ∧
    (s.openVideo).ssl = s.ssl ∧ (s.openVideo).pcl = s.pcl ∧ (s.openVideo).tmu = s.tmu ∧ (s.openVideo).bsv = s.bsv ∧
    (s.openVideo).lct = s.lct ∧ (s.openVideo).spe = s.spe ∧ (s.openVideo).roster = s.roster ∧ (s.openVideo).cnu = s.cnu ∧
    (s.openVideo).cmp = s.cmp ∧ (s.openVideo).mnu = s.mnu ∧ (s.openVideo).lamps = s.lamps ∧ (s.openVideo).pending = s.pending := by
  simp [State.openVideo]

@[simp] theorem State.switchesFollow_frame (s : State) (role : Role) :
    (s.switchesFollow role).now = s.now ∧ (s.switchesFollow role).rank = s.rank ∧ (s.switchesFollow role).cfg = s.cfg ∧
    (s.switchesFollow role).cfl = s.cfl ∧ (s.switchesFollow role).ssl = s.ssl ∧ (s.switchesFollow role).pcl = s.pcl ∧
    (s.switchesFollow role).tmu = s.tmu ∧ (s.switchesFollow role).bsv = s.bsv ∧ (s.switchesFollow role).lct = s.lct ∧
    (s.switchesFollow role).spe = s.spe ∧ (s.switchesFollow role).roster = s.roster ∧ (s.switchesFollow role).cnu = s.cnu ∧
    (s.switchesFollow role).cmp = s.cmp ∧ (s.switchesFollow role).mnu = s.mnu ∧ (s.switchesFollow role).lamps = s.lamps ∧
    (s.switchesFollow role).pending = s.pending := by
  simp only [State.switchesFollow]
  repeat' split
  all_goals simp

@[simp] theorem State.cutover_frame (s : State) (board : BoardState) (field : Option Moment) :
    (s.cutover board field).now = s.now ∧ (s.cutover board field).rank = s.rank ∧ (s.cutover board field).cfg = s.cfg ∧
    (s.cutover board field).cfl = s.cfl ∧ (s.cutover board field).ssl = s.ssl ∧ (s.cutover board field).pcl = s.pcl ∧
    (s.cutover board field).bus = s.bus ∧ (s.cutover board field).tmu = s.tmu ∧ (s.cutover board field).bsv = s.bsv ∧
    (s.cutover board field).lct = s.lct ∧ (s.cutover board field).spe = s.spe ∧ (s.cutover board field).roster = s.roster ∧
    (s.cutover board field).cnu = s.cnu ∧ (s.cutover board field).cmp = s.cmp ∧ (s.cutover board field).mnu = s.mnu ∧
    (s.cutover board field).lamps = s.lamps ∧ (s.cutover board field).pending = s.pending := by
  simp only [State.cutover]
  repeat' split
  all_goals simp

@[simp] theorem State.armReturn_frame (s : State) (board : BoardState) (field : Option Moment) :
    (s.armReturn board field).now = s.now ∧ (s.armReturn board field).rank = s.rank ∧ (s.armReturn board field).cfg = s.cfg ∧
    (s.armReturn board field).cfl = s.cfl ∧ (s.armReturn board field).ssl = s.ssl ∧ (s.armReturn board field).pcl = s.pcl ∧
    (s.armReturn board field).bus = s.bus ∧ (s.armReturn board field).tmu = s.tmu ∧ (s.armReturn board field).bsv = s.bsv ∧
    (s.armReturn board field).fsg = s.fsg ∧ (s.armReturn board field).lct = s.lct ∧ (s.armReturn board field).spe = s.spe ∧
    (s.armReturn board field).roster = s.roster ∧ (s.armReturn board field).cnu = s.cnu ∧ (s.armReturn board field).cmp = s.cmp ∧
    (s.armReturn board field).ovg = s.ovg ∧ (s.armReturn board field).mnu = s.mnu ∧ (s.armReturn board field).lamps = s.lamps ∧
    (s.armReturn board field).pending = s.pending := by
  simp only [State.armReturn]
  all_goals simp

@[simp] theorem State.outputBoard_frame (s : State) (board : BoardState) (field : Option Moment) :
    (s.outputBoard board field).now = s.now ∧ (s.outputBoard board field).rank = s.rank ∧
    (s.outputBoard board field).cfg = s.cfg ∧ (s.outputBoard board field).cfl = s.cfl ∧ (s.outputBoard board field).ssl = s.ssl ∧
    (s.outputBoard board field).pcl = s.pcl ∧ (s.outputBoard board field).bus = s.bus ∧ (s.outputBoard board field).tmu = s.tmu ∧
    (s.outputBoard board field).bsv = s.bsv ∧ (s.outputBoard board field).lct = s.lct ∧ (s.outputBoard board field).spe = s.spe ∧
    (s.outputBoard board field).roster = s.roster ∧ (s.outputBoard board field).cnu = s.cnu ∧
    (s.outputBoard board field).cmp = s.cmp ∧ (s.outputBoard board field).mnu = s.mnu ∧
    (s.outputBoard board field).lamps = s.lamps ∧ (s.outputBoard board field).pending = s.pending := by
  simp only [State.outputBoard]
  repeat' split
  all_goals simp

@[simp] theorem State.outputField_frame (s : State) (lead : Moment) :
    (s.outputField lead).now = s.now ∧ (s.outputField lead).rank = s.rank ∧ (s.outputField lead).cfg = s.cfg ∧
    (s.outputField lead).cfl = s.cfl ∧ (s.outputField lead).ssl = s.ssl ∧ (s.outputField lead).pcl = s.pcl ∧
    (s.outputField lead).bus = s.bus ∧ (s.outputField lead).tmu = s.tmu ∧ (s.outputField lead).bsv = s.bsv ∧
    (s.outputField lead).lct = s.lct ∧ (s.outputField lead).spe = s.spe ∧ (s.outputField lead).roster = s.roster ∧
    (s.outputField lead).cnu = s.cnu ∧ (s.outputField lead).cmp = s.cmp ∧ (s.outputField lead).ovg = s.ovg ∧
    (s.outputField lead).mnu = s.mnu ∧ (s.outputField lead).lamps = s.lamps ∧ (s.outputField lead).pending = s.pending := by
  simp only [State.outputField]
  repeat' split
  all_goals simp

@[simp] theorem State.decideCblk_frame (s : State) :
    (s.decideCblk).now = s.now ∧ (s.decideCblk).rank = s.rank ∧ (s.decideCblk).cfg = s.cfg ∧ (s.decideCblk).cfl = s.cfl ∧
    (s.decideCblk).ssl = s.ssl ∧ (s.decideCblk).pcl = s.pcl ∧ (s.decideCblk).bus = s.bus ∧ (s.decideCblk).tmu = s.tmu ∧
    (s.decideCblk).bsv = s.bsv ∧ (s.decideCblk).osw = s.osw ∧ (s.decideCblk).fsg = s.fsg ∧ (s.decideCblk).lct = s.lct ∧
    (s.decideCblk).spe = s.spe ∧ (s.decideCblk).roster = s.roster ∧ (s.decideCblk).cmp = s.cmp ∧ (s.decideCblk).ovg = s.ovg ∧
    (s.decideCblk).mnu = s.mnu ∧ (s.decideCblk).lamps = s.lamps ∧ (s.decideCblk).pending = s.pending := by
  simp [State.decideCblk]

@[simp] theorem State.idleCheck_frame (s : State) (ch : Channel) :
    (s.idleCheck ch).now = s.now ∧ (s.idleCheck ch).rank = s.rank ∧ (s.idleCheck ch).cfg = s.cfg ∧ (s.idleCheck ch).cfl = s.cfl ∧
    (s.idleCheck ch).ssl = s.ssl ∧ (s.idleCheck ch).pcl = s.pcl ∧ (s.idleCheck ch).bus = s.bus ∧ (s.idleCheck ch).tmu = s.tmu ∧
    (s.idleCheck ch).bsv = s.bsv ∧ (s.idleCheck ch).osw = s.osw ∧ (s.idleCheck ch).fsg = s.fsg ∧ (s.idleCheck ch).lct = s.lct ∧
    (s.idleCheck ch).spe = s.spe ∧ (s.idleCheck ch).roster = s.roster ∧ (s.idleCheck ch).cmp = s.cmp ∧
    (s.idleCheck ch).ovg = s.ovg ∧ (s.idleCheck ch).mnu = s.mnu ∧ (s.idleCheck ch).lamps = s.lamps ∧
    (s.idleCheck ch).pending = s.pending := by
  simp only [State.idleCheck]
  repeat' split
  all_goals simp

@[simp] theorem State.cutPulse_frame (s : State) (ch : Channel) :
    (s.cutPulse ch).now = s.now ∧ (s.cutPulse ch).rank = s.rank ∧ (s.cutPulse ch).cfg = s.cfg ∧ (s.cutPulse ch).cfl = s.cfl ∧
    (s.cutPulse ch).ssl = s.ssl ∧ (s.cutPulse ch).pcl = s.pcl ∧ (s.cutPulse ch).bus = s.bus ∧ (s.cutPulse ch).tmu = s.tmu ∧
    (s.cutPulse ch).bsv = s.bsv ∧ (s.cutPulse ch).osw = s.osw ∧ (s.cutPulse ch).fsg = s.fsg ∧ (s.cutPulse ch).lct = s.lct ∧
    (s.cutPulse ch).spe = s.spe ∧ (s.cutPulse ch).roster = s.roster ∧ (s.cutPulse ch).cmp = s.cmp ∧ (s.cutPulse ch).ovg = s.ovg ∧
    (s.cutPulse ch).mnu = s.mnu ∧ (s.cutPulse ch).lamps = s.lamps ∧ (s.cutPulse ch).pending = s.pending := by
  simp only [State.cutPulse]
  repeat' split
  all_goals simp

@[simp] theorem State.addPending_frame (s : State) (ch : Channel) (more : Nat) :
    (s.addPending ch more).now = s.now ∧ (s.addPending ch more).rank = s.rank ∧ (s.addPending ch more).cfg = s.cfg ∧
    (s.addPending ch more).cfl = s.cfl ∧ (s.addPending ch more).ssl = s.ssl ∧ (s.addPending ch more).pcl = s.pcl ∧
    (s.addPending ch more).bus = s.bus ∧ (s.addPending ch more).tmu = s.tmu ∧ (s.addPending ch more).bsv = s.bsv ∧
    (s.addPending ch more).osw = s.osw ∧ (s.addPending ch more).fsg = s.fsg ∧ (s.addPending ch more).lct = s.lct ∧
    (s.addPending ch more).spe = s.spe ∧ (s.addPending ch more).roster = s.roster ∧ (s.addPending ch more).cmp = s.cmp ∧
    (s.addPending ch more).ovg = s.ovg ∧ (s.addPending ch more).mnu = s.mnu ∧ (s.addPending ch more).lamps = s.lamps ∧
    (s.addPending ch more).pending = s.pending := by
  simp [State.addPending]

@[simp] theorem State.addCarried_frame (s : State) (ch : Channel) :
    (s.addCarried ch).now = s.now ∧ (s.addCarried ch).rank = s.rank ∧ (s.addCarried ch).cfg = s.cfg ∧
    (s.addCarried ch).cfl = s.cfl ∧ (s.addCarried ch).ssl = s.ssl ∧ (s.addCarried ch).pcl = s.pcl ∧
    (s.addCarried ch).bus = s.bus ∧ (s.addCarried ch).tmu = s.tmu ∧ (s.addCarried ch).bsv = s.bsv ∧
    (s.addCarried ch).osw = s.osw ∧ (s.addCarried ch).fsg = s.fsg ∧ (s.addCarried ch).lct = s.lct ∧
    (s.addCarried ch).spe = s.spe ∧ (s.addCarried ch).roster = s.roster ∧ (s.addCarried ch).cmp = s.cmp ∧
    (s.addCarried ch).ovg = s.ovg ∧ (s.addCarried ch).mnu = s.mnu ∧ (s.addCarried ch).lamps = s.lamps ∧
    (s.addCarried ch).pending = s.pending := by
  simp [State.addCarried]

@[simp] theorem State.addLate_frame (s : State) (ch : Channel) :
    (s.addLate ch).now = s.now ∧ (s.addLate ch).rank = s.rank ∧ (s.addLate ch).cfg = s.cfg ∧ (s.addLate ch).cfl = s.cfl ∧
    (s.addLate ch).ssl = s.ssl ∧ (s.addLate ch).pcl = s.pcl ∧ (s.addLate ch).bus = s.bus ∧ (s.addLate ch).tmu = s.tmu ∧
    (s.addLate ch).bsv = s.bsv ∧ (s.addLate ch).osw = s.osw ∧ (s.addLate ch).fsg = s.fsg ∧ (s.addLate ch).lct = s.lct ∧
    (s.addLate ch).spe = s.spe ∧ (s.addLate ch).roster = s.roster ∧ (s.addLate ch).cmp = s.cmp ∧ (s.addLate ch).ovg = s.ovg ∧
    (s.addLate ch).mnu = s.mnu ∧ (s.addLate ch).lamps = s.lamps ∧ (s.addLate ch).pending = s.pending := by
  simp [State.addLate]

@[simp] theorem State.coinRole_frame (s : State) (role : Role) :
    (s.coinRole role).now = s.now ∧ (s.coinRole role).rank = s.rank ∧ (s.coinRole role).cfg = s.cfg ∧
    (s.coinRole role).cfl = s.cfl ∧ (s.coinRole role).ssl = s.ssl ∧ (s.coinRole role).pcl = s.pcl ∧
    (s.coinRole role).bus = s.bus ∧ (s.coinRole role).tmu = s.tmu ∧ (s.coinRole role).bsv = s.bsv ∧
    (s.coinRole role).osw = s.osw ∧ (s.coinRole role).fsg = s.fsg ∧ (s.coinRole role).lct = s.lct ∧
    (s.coinRole role).spe = s.spe ∧ (s.coinRole role).roster = s.roster ∧ (s.coinRole role).cmp = s.cmp ∧
    (s.coinRole role).ovg = s.ovg ∧ (s.coinRole role).mnu = s.mnu ∧ (s.coinRole role).lamps = s.lamps ∧
    (s.coinRole role).pending = s.pending := by
  simp [State.coinRole]

@[simp] theorem State.coinBoard_frame (s : State) (board : BoardState) :
    (s.coinBoard board).now = s.now ∧ (s.coinBoard board).rank = s.rank ∧ (s.coinBoard board).cfg = s.cfg ∧
    (s.coinBoard board).cfl = s.cfl ∧ (s.coinBoard board).ssl = s.ssl ∧ (s.coinBoard board).pcl = s.pcl ∧
    (s.coinBoard board).bus = s.bus ∧ (s.coinBoard board).tmu = s.tmu ∧ (s.coinBoard board).bsv = s.bsv ∧
    (s.coinBoard board).osw = s.osw ∧ (s.coinBoard board).fsg = s.fsg ∧ (s.coinBoard board).lct = s.lct ∧
    (s.coinBoard board).spe = s.spe ∧ (s.coinBoard board).roster = s.roster ∧ (s.coinBoard board).cmp = s.cmp ∧
    (s.coinBoard board).ovg = s.ovg ∧ (s.coinBoard board).mnu = s.mnu ∧ (s.coinBoard board).lamps = s.lamps ∧
    (s.coinBoard board).pending = s.pending := by
  simp only [State.coinBoard]
  repeat' split
  all_goals simp

@[simp] theorem State.coinFreeze_frame (s : State) :
    (s.coinFreeze).now = s.now ∧ (s.coinFreeze).rank = s.rank ∧ (s.coinFreeze).cfg = s.cfg ∧ (s.coinFreeze).cfl = s.cfl ∧
    (s.coinFreeze).ssl = s.ssl ∧ (s.coinFreeze).pcl = s.pcl ∧ (s.coinFreeze).bus = s.bus ∧ (s.coinFreeze).tmu = s.tmu ∧
    (s.coinFreeze).bsv = s.bsv ∧ (s.coinFreeze).osw = s.osw ∧ (s.coinFreeze).fsg = s.fsg ∧ (s.coinFreeze).lct = s.lct ∧
    (s.coinFreeze).spe = s.spe ∧ (s.coinFreeze).roster = s.roster ∧ (s.coinFreeze).cmp = s.cmp ∧ (s.coinFreeze).ovg = s.ovg ∧
    (s.coinFreeze).mnu = s.mnu ∧ (s.coinFreeze).lamps = s.lamps ∧ (s.coinFreeze).pending = s.pending := by
  simp [State.coinFreeze]

@[simp] theorem State.coinDelivered_frame (s : State) :
    (s.coinDelivered).now = s.now ∧ (s.coinDelivered).rank = s.rank ∧ (s.coinDelivered).cfg = s.cfg ∧
    (s.coinDelivered).cfl = s.cfl ∧ (s.coinDelivered).ssl = s.ssl ∧ (s.coinDelivered).pcl = s.pcl ∧
    (s.coinDelivered).bus = s.bus ∧ (s.coinDelivered).tmu = s.tmu ∧ (s.coinDelivered).bsv = s.bsv ∧
    (s.coinDelivered).osw = s.osw ∧ (s.coinDelivered).fsg = s.fsg ∧ (s.coinDelivered).lct = s.lct ∧
    (s.coinDelivered).spe = s.spe ∧ (s.coinDelivered).roster = s.roster ∧ (s.coinDelivered).cmp = s.cmp ∧
    (s.coinDelivered).ovg = s.ovg ∧ (s.coinDelivered).mnu = s.mnu ∧ (s.coinDelivered).lamps = s.lamps ∧
    (s.coinDelivered).pending = s.pending := by
  simp [State.coinDelivered]

@[simp] theorem State.returnCoins_frame (s : State) (ch : Channel) :
    (s.returnCoins ch).now = s.now ∧ (s.returnCoins ch).rank = s.rank ∧ (s.returnCoins ch).cfg = s.cfg ∧
    (s.returnCoins ch).cfl = s.cfl ∧ (s.returnCoins ch).ssl = s.ssl ∧ (s.returnCoins ch).pcl = s.pcl ∧
    (s.returnCoins ch).bus = s.bus ∧ (s.returnCoins ch).tmu = s.tmu ∧ (s.returnCoins ch).bsv = s.bsv ∧
    (s.returnCoins ch).osw = s.osw ∧ (s.returnCoins ch).fsg = s.fsg ∧ (s.returnCoins ch).lct = s.lct ∧
    (s.returnCoins ch).spe = s.spe ∧ (s.returnCoins ch).roster = s.roster ∧ (s.returnCoins ch).cmp = s.cmp ∧
    (s.returnCoins ch).ovg = s.ovg ∧ (s.returnCoins ch).mnu = s.mnu ∧ (s.returnCoins ch).lamps = s.lamps ∧
    (s.returnCoins ch).pending = s.pending := by
  simp [State.returnCoins]

@[simp] theorem State.coinFailed_frame (s : State) :
    (s.coinFailed).now = s.now ∧ (s.coinFailed).rank = s.rank ∧ (s.coinFailed).cfg = s.cfg ∧ (s.coinFailed).cfl = s.cfl ∧
    (s.coinFailed).ssl = s.ssl ∧ (s.coinFailed).pcl = s.pcl ∧ (s.coinFailed).bus = s.bus ∧ (s.coinFailed).tmu = s.tmu ∧
    (s.coinFailed).bsv = s.bsv ∧ (s.coinFailed).osw = s.osw ∧ (s.coinFailed).fsg = s.fsg ∧ (s.coinFailed).lct = s.lct ∧
    (s.coinFailed).spe = s.spe ∧ (s.coinFailed).roster = s.roster ∧ (s.coinFailed).cmp = s.cmp ∧ (s.coinFailed).ovg = s.ovg ∧
    (s.coinFailed).mnu = s.mnu ∧ (s.coinFailed).lamps = s.lamps ∧ (s.coinFailed).pending = s.pending := by
  simp [State.coinFailed]

@[simp] theorem State.coinSeated_frame (s : State) (c1 c2 : Nat) :
    (s.coinSeated c1 c2).now = s.now ∧ (s.coinSeated c1 c2).rank = s.rank ∧ (s.coinSeated c1 c2).cfg = s.cfg ∧
    (s.coinSeated c1 c2).cfl = s.cfl ∧ (s.coinSeated c1 c2).ssl = s.ssl ∧ (s.coinSeated c1 c2).pcl = s.pcl ∧
    (s.coinSeated c1 c2).bus = s.bus ∧ (s.coinSeated c1 c2).tmu = s.tmu ∧ (s.coinSeated c1 c2).bsv = s.bsv ∧
    (s.coinSeated c1 c2).osw = s.osw ∧ (s.coinSeated c1 c2).fsg = s.fsg ∧ (s.coinSeated c1 c2).lct = s.lct ∧
    (s.coinSeated c1 c2).spe = s.spe ∧ (s.coinSeated c1 c2).roster = s.roster ∧ (s.coinSeated c1 c2).cmp = s.cmp ∧
    (s.coinSeated c1 c2).ovg = s.ovg ∧ (s.coinSeated c1 c2).mnu = s.mnu ∧ (s.coinSeated c1 c2).lamps = s.lamps ∧
    (s.coinSeated c1 c2).pending = s.pending := by
  simp [State.coinSeated]

@[simp] theorem State.coinLoadEnd_frame (s : State) :
    (s.coinLoadEnd).now = s.now ∧ (s.coinLoadEnd).rank = s.rank ∧ (s.coinLoadEnd).cfg = s.cfg ∧ (s.coinLoadEnd).cfl = s.cfl ∧
    (s.coinLoadEnd).ssl = s.ssl ∧ (s.coinLoadEnd).pcl = s.pcl ∧ (s.coinLoadEnd).bus = s.bus ∧ (s.coinLoadEnd).tmu = s.tmu ∧
    (s.coinLoadEnd).bsv = s.bsv ∧ (s.coinLoadEnd).osw = s.osw ∧ (s.coinLoadEnd).fsg = s.fsg ∧ (s.coinLoadEnd).lct = s.lct ∧
    (s.coinLoadEnd).spe = s.spe ∧ (s.coinLoadEnd).roster = s.roster ∧ (s.coinLoadEnd).cmp = s.cmp ∧ (s.coinLoadEnd).ovg = s.ovg ∧
    (s.coinLoadEnd).mnu = s.mnu ∧ (s.coinLoadEnd).lamps = s.lamps ∧ (s.coinLoadEnd).pending = s.pending := by
  simp [State.coinLoadEnd]

@[simp] theorem State.mirrorLamps_frame (s : State) :
    (s.mirrorLamps).now = s.now ∧ (s.mirrorLamps).rank = s.rank ∧ (s.mirrorLamps).cfg = s.cfg ∧ (s.mirrorLamps).cfl = s.cfl ∧
    (s.mirrorLamps).ssl = s.ssl ∧ (s.mirrorLamps).pcl = s.pcl ∧ (s.mirrorLamps).bus = s.bus ∧ (s.mirrorLamps).tmu = s.tmu ∧
    (s.mirrorLamps).bsv = s.bsv ∧ (s.mirrorLamps).osw = s.osw ∧ (s.mirrorLamps).fsg = s.fsg ∧ (s.mirrorLamps).lct = s.lct ∧
    (s.mirrorLamps).spe = s.spe ∧ (s.mirrorLamps).roster = s.roster ∧ (s.mirrorLamps).cnu = s.cnu ∧ (s.mirrorLamps).ovg = s.ovg ∧
    (s.mirrorLamps).mnu = s.mnu ∧ (s.mirrorLamps).lamps = s.lamps ∧ (s.mirrorLamps).pending = s.pending := by
  simp [State.mirrorLamps]

@[simp] theorem State.decideMapper_frame (s : State) :
    (s.decideMapper).now = s.now ∧ (s.decideMapper).rank = s.rank ∧ (s.decideMapper).cfg = s.cfg ∧ (s.decideMapper).cfl = s.cfl ∧
    (s.decideMapper).ssl = s.ssl ∧ (s.decideMapper).pcl = s.pcl ∧ (s.decideMapper).bus = s.bus ∧ (s.decideMapper).tmu = s.tmu ∧
    (s.decideMapper).bsv = s.bsv ∧ (s.decideMapper).osw = s.osw ∧ (s.decideMapper).fsg = s.fsg ∧ (s.decideMapper).lct = s.lct ∧
    (s.decideMapper).spe = s.spe ∧ (s.decideMapper).roster = s.roster ∧ (s.decideMapper).cnu = s.cnu ∧
    (s.decideMapper).ovg = s.ovg ∧ (s.decideMapper).mnu = s.mnu ∧ (s.decideMapper).lamps = s.lamps ∧
    (s.decideMapper).pending = s.pending := by
  simp only [State.decideMapper]
  repeat' split
  all_goals simp

@[simp] theorem State.mapperDecides_frame (s : State) :
    (s.mapperDecides).now = s.now ∧ (s.mapperDecides).rank = s.rank ∧ (s.mapperDecides).cfg = s.cfg ∧
    (s.mapperDecides).cfl = s.cfl ∧ (s.mapperDecides).ssl = s.ssl ∧ (s.mapperDecides).pcl = s.pcl ∧
    (s.mapperDecides).bus = s.bus ∧ (s.mapperDecides).tmu = s.tmu ∧ (s.mapperDecides).bsv = s.bsv ∧
    (s.mapperDecides).osw = s.osw ∧ (s.mapperDecides).fsg = s.fsg ∧ (s.mapperDecides).lct = s.lct ∧
    (s.mapperDecides).spe = s.spe ∧ (s.mapperDecides).roster = s.roster ∧ (s.mapperDecides).cnu = s.cnu ∧
    (s.mapperDecides).ovg = s.ovg ∧ (s.mapperDecides).mnu = s.mnu ∧ (s.mapperDecides).lamps = s.lamps ∧
    (s.mapperDecides).pending = s.pending := by
  simp [State.mapperDecides]

@[simp] theorem State.setLatch_frame (s : State) (i : PanelInput) (v : Bool) :
    (s.setLatch i v).now = s.now ∧ (s.setLatch i v).rank = s.rank ∧ (s.setLatch i v).cfg = s.cfg ∧ (s.setLatch i v).cfl = s.cfl ∧
    (s.setLatch i v).ssl = s.ssl ∧ (s.setLatch i v).pcl = s.pcl ∧ (s.setLatch i v).bus = s.bus ∧ (s.setLatch i v).tmu = s.tmu ∧
    (s.setLatch i v).bsv = s.bsv ∧ (s.setLatch i v).osw = s.osw ∧ (s.setLatch i v).fsg = s.fsg ∧ (s.setLatch i v).lct = s.lct ∧
    (s.setLatch i v).spe = s.spe ∧ (s.setLatch i v).roster = s.roster ∧ (s.setLatch i v).cnu = s.cnu ∧
    (s.setLatch i v).ovg = s.ovg ∧ (s.setLatch i v).mnu = s.mnu ∧ (s.setLatch i v).lamps = s.lamps ∧
    (s.setLatch i v).pending = s.pending := by
  simp [State.setLatch]

@[simp] theorem State.pressLines_frame (s : State) (i : PanelInput) :
    (s.pressLines i).now = s.now ∧ (s.pressLines i).rank = s.rank ∧ (s.pressLines i).cfg = s.cfg ∧ (s.pressLines i).cfl = s.cfl ∧
    (s.pressLines i).ssl = s.ssl ∧ (s.pressLines i).pcl = s.pcl ∧ (s.pressLines i).bus = s.bus ∧ (s.pressLines i).tmu = s.tmu ∧
    (s.pressLines i).bsv = s.bsv ∧ (s.pressLines i).osw = s.osw ∧ (s.pressLines i).fsg = s.fsg ∧ (s.pressLines i).lct = s.lct ∧
    (s.pressLines i).spe = s.spe ∧ (s.pressLines i).roster = s.roster ∧ (s.pressLines i).cnu = s.cnu ∧
    (s.pressLines i).ovg = s.ovg ∧ (s.pressLines i).mnu = s.mnu ∧ (s.pressLines i).lamps = s.lamps ∧
    (s.pressLines i).pending = s.pending := by
  simp only [State.pressLines]
  repeat' split
  all_goals simp

@[simp] theorem State.releaseLines_frame (s : State) (i : PanelInput) :
    (s.releaseLines i).now = s.now ∧ (s.releaseLines i).rank = s.rank ∧ (s.releaseLines i).cfg = s.cfg ∧
    (s.releaseLines i).cfl = s.cfl ∧ (s.releaseLines i).ssl = s.ssl ∧ (s.releaseLines i).pcl = s.pcl ∧
    (s.releaseLines i).bus = s.bus ∧ (s.releaseLines i).tmu = s.tmu ∧ (s.releaseLines i).bsv = s.bsv ∧
    (s.releaseLines i).osw = s.osw ∧ (s.releaseLines i).fsg = s.fsg ∧ (s.releaseLines i).lct = s.lct ∧
    (s.releaseLines i).spe = s.spe ∧ (s.releaseLines i).roster = s.roster ∧ (s.releaseLines i).cnu = s.cnu ∧
    (s.releaseLines i).ovg = s.ovg ∧ (s.releaseLines i).mnu = s.mnu ∧ (s.releaseLines i).lamps = s.lamps ∧
    (s.releaseLines i).pending = s.pending := by
  simp only [State.releaseLines]
  repeat' split
  all_goals simp

@[simp] theorem State.mapperLoadEnd_frame (s : State) :
    (s.mapperLoadEnd).now = s.now ∧ (s.mapperLoadEnd).rank = s.rank ∧ (s.mapperLoadEnd).cfg = s.cfg ∧
    (s.mapperLoadEnd).cfl = s.cfl ∧ (s.mapperLoadEnd).ssl = s.ssl ∧ (s.mapperLoadEnd).pcl = s.pcl ∧
    (s.mapperLoadEnd).bus = s.bus ∧ (s.mapperLoadEnd).tmu = s.tmu ∧ (s.mapperLoadEnd).bsv = s.bsv ∧
    (s.mapperLoadEnd).osw = s.osw ∧ (s.mapperLoadEnd).fsg = s.fsg ∧ (s.mapperLoadEnd).lct = s.lct ∧
    (s.mapperLoadEnd).spe = s.spe ∧ (s.mapperLoadEnd).roster = s.roster ∧ (s.mapperLoadEnd).cnu = s.cnu ∧
    (s.mapperLoadEnd).ovg = s.ovg ∧ (s.mapperLoadEnd).mnu = s.mnu ∧ (s.mapperLoadEnd).lamps = s.lamps ∧
    (s.mapperLoadEnd).pending = s.pending := by
  simp [State.mapperLoadEnd]

@[simp] theorem State.setMenu_frame (s : State) (st : MenuState) :
    (s.setMenu st).now = s.now ∧ (s.setMenu st).rank = s.rank ∧ (s.setMenu st).cfg = s.cfg ∧ (s.setMenu st).cfl = s.cfl ∧
    (s.setMenu st).ssl = s.ssl ∧ (s.setMenu st).pcl = s.pcl ∧ (s.setMenu st).bus = s.bus ∧ (s.setMenu st).tmu = s.tmu ∧
    (s.setMenu st).bsv = s.bsv ∧ (s.setMenu st).osw = s.osw ∧ (s.setMenu st).fsg = s.fsg ∧ (s.setMenu st).lct = s.lct ∧
    (s.setMenu st).spe = s.spe ∧ (s.setMenu st).roster = s.roster ∧ (s.setMenu st).cnu = s.cnu ∧ (s.setMenu st).ovg = s.ovg ∧
    (s.setMenu st).lamps = s.lamps ∧ (s.setMenu st).pending = s.pending := by
  simp only [State.setMenu]
  repeat' split
  all_goals simp

@[simp] theorem State.closeMenu_frame (s : State) :
    (s.closeMenu).now = s.now ∧ (s.closeMenu).rank = s.rank ∧ (s.closeMenu).cfg = s.cfg ∧ (s.closeMenu).cfl = s.cfl ∧
    (s.closeMenu).ssl = s.ssl ∧ (s.closeMenu).pcl = s.pcl ∧ (s.closeMenu).bus = s.bus ∧ (s.closeMenu).tmu = s.tmu ∧
    (s.closeMenu).bsv = s.bsv ∧ (s.closeMenu).osw = s.osw ∧ (s.closeMenu).fsg = s.fsg ∧ (s.closeMenu).lct = s.lct ∧
    (s.closeMenu).spe = s.spe ∧ (s.closeMenu).roster = s.roster ∧ (s.closeMenu).cnu = s.cnu ∧ (s.closeMenu).ovg = s.ovg ∧
    (s.closeMenu).lamps = s.lamps ∧ (s.closeMenu).pending = s.pending := by
  simp [State.closeMenu]

@[simp] theorem State.enterBrowse_frame (s : State) :
    (s.enterBrowse).now = s.now ∧ (s.enterBrowse).rank = s.rank ∧ (s.enterBrowse).cfg = s.cfg ∧ (s.enterBrowse).cfl = s.cfl ∧
    (s.enterBrowse).ssl = s.ssl ∧ (s.enterBrowse).pcl = s.pcl ∧ (s.enterBrowse).bus = s.bus ∧ (s.enterBrowse).tmu = s.tmu ∧
    (s.enterBrowse).bsv = s.bsv ∧ (s.enterBrowse).osw = s.osw ∧ (s.enterBrowse).fsg = s.fsg ∧ (s.enterBrowse).lct = s.lct ∧
    (s.enterBrowse).spe = s.spe ∧ (s.enterBrowse).roster = s.roster ∧ (s.enterBrowse).cnu = s.cnu ∧ (s.enterBrowse).ovg = s.ovg ∧
    (s.enterBrowse).lamps = s.lamps ∧ (s.enterBrowse).pending = s.pending := by
  simp [State.enterBrowse]

@[simp] theorem State.openBrowse_frame (s : State) :
    (s.openBrowse).now = s.now ∧ (s.openBrowse).rank = s.rank ∧ (s.openBrowse).cfg = s.cfg ∧ (s.openBrowse).cfl = s.cfl ∧
    (s.openBrowse).ssl = s.ssl ∧ (s.openBrowse).pcl = s.pcl ∧ (s.openBrowse).bus = s.bus ∧ (s.openBrowse).tmu = s.tmu ∧
    (s.openBrowse).bsv = s.bsv ∧ (s.openBrowse).osw = s.osw ∧ (s.openBrowse).fsg = s.fsg ∧ (s.openBrowse).lct = s.lct ∧
    (s.openBrowse).spe = s.spe ∧ (s.openBrowse).roster = s.roster ∧ (s.openBrowse).cnu = s.cnu ∧ (s.openBrowse).ovg = s.ovg ∧
    (s.openBrowse).lamps = s.lamps ∧ (s.openBrowse).pending = s.pending := by
  simp [State.openBrowse]

@[simp] theorem State.timedNotice_frame (s : State) (n : Notice) :
    (s.timedNotice n).now = s.now ∧ (s.timedNotice n).rank = s.rank ∧ (s.timedNotice n).cfg = s.cfg ∧
    (s.timedNotice n).cfl = s.cfl ∧ (s.timedNotice n).ssl = s.ssl ∧ (s.timedNotice n).pcl = s.pcl ∧
    (s.timedNotice n).bus = s.bus ∧ (s.timedNotice n).tmu = s.tmu ∧ (s.timedNotice n).bsv = s.bsv ∧
    (s.timedNotice n).osw = s.osw ∧ (s.timedNotice n).fsg = s.fsg ∧ (s.timedNotice n).lct = s.lct ∧
    (s.timedNotice n).spe = s.spe ∧ (s.timedNotice n).roster = s.roster ∧ (s.timedNotice n).cnu = s.cnu ∧
    (s.timedNotice n).cmp = s.cmp ∧ (s.timedNotice n).ovg = s.ovg ∧ (s.timedNotice n).lamps = s.lamps ∧
    (s.timedNotice n).pending = s.pending := by
  simp [State.timedNotice]

@[simp] theorem State.enterNotice_frame (s : State) (n : Notice) :
    (s.enterNotice n).now = s.now ∧ (s.enterNotice n).rank = s.rank ∧ (s.enterNotice n).cfg = s.cfg ∧
    (s.enterNotice n).cfl = s.cfl ∧ (s.enterNotice n).ssl = s.ssl ∧ (s.enterNotice n).pcl = s.pcl ∧
    (s.enterNotice n).bus = s.bus ∧ (s.enterNotice n).tmu = s.tmu ∧ (s.enterNotice n).bsv = s.bsv ∧
    (s.enterNotice n).osw = s.osw ∧ (s.enterNotice n).fsg = s.fsg ∧ (s.enterNotice n).lct = s.lct ∧
    (s.enterNotice n).spe = s.spe ∧ (s.enterNotice n).roster = s.roster ∧ (s.enterNotice n).cnu = s.cnu ∧
    (s.enterNotice n).ovg = s.ovg ∧ (s.enterNotice n).lamps = s.lamps ∧ (s.enterNotice n).pending = s.pending := by
  simp [State.enterNotice]

@[simp] theorem State.enterWait_frame (s : State) :
    (s.enterWait).now = s.now ∧ (s.enterWait).rank = s.rank ∧ (s.enterWait).cfg = s.cfg ∧ (s.enterWait).cfl = s.cfl ∧
    (s.enterWait).ssl = s.ssl ∧ (s.enterWait).pcl = s.pcl ∧ (s.enterWait).bus = s.bus ∧ (s.enterWait).tmu = s.tmu ∧
    (s.enterWait).bsv = s.bsv ∧ (s.enterWait).osw = s.osw ∧ (s.enterWait).fsg = s.fsg ∧ (s.enterWait).lct = s.lct ∧
    (s.enterWait).spe = s.spe ∧ (s.enterWait).roster = s.roster ∧ (s.enterWait).cnu = s.cnu ∧ (s.enterWait).ovg = s.ovg ∧
    (s.enterWait).lamps = s.lamps ∧ (s.enterWait).pending = s.pending := by
  simp [State.enterWait]

@[simp] theorem State.enterService_frame (s : State) :
    (s.enterService).now = s.now ∧ (s.enterService).rank = s.rank ∧ (s.enterService).cfg = s.cfg ∧ (s.enterService).cfl = s.cfl ∧
    (s.enterService).ssl = s.ssl ∧ (s.enterService).pcl = s.pcl ∧ (s.enterService).bus = s.bus ∧ (s.enterService).tmu = s.tmu ∧
    (s.enterService).bsv = s.bsv ∧ (s.enterService).osw = s.osw ∧ (s.enterService).fsg = s.fsg ∧ (s.enterService).lct = s.lct ∧
    (s.enterService).spe = s.spe ∧ (s.enterService).roster = s.roster ∧ (s.enterService).cnu = s.cnu ∧
    (s.enterService).ovg = s.ovg ∧ (s.enterService).lamps = s.lamps ∧ (s.enterService).pending = s.pending := by
  simp [State.enterService]

@[simp] theorem State.menuRole_frame (s : State) (role : Role) :
    (s.menuRole role).now = s.now ∧ (s.menuRole role).rank = s.rank ∧ (s.menuRole role).cfg = s.cfg ∧
    (s.menuRole role).cfl = s.cfl ∧ (s.menuRole role).ssl = s.ssl ∧ (s.menuRole role).pcl = s.pcl ∧
    (s.menuRole role).bus = s.bus ∧ (s.menuRole role).tmu = s.tmu ∧ (s.menuRole role).bsv = s.bsv ∧
    (s.menuRole role).osw = s.osw ∧ (s.menuRole role).fsg = s.fsg ∧ (s.menuRole role).lct = s.lct ∧
    (s.menuRole role).spe = s.spe ∧ (s.menuRole role).roster = s.roster ∧ (s.menuRole role).cnu = s.cnu ∧
    (s.menuRole role).ovg = s.ovg ∧ (s.menuRole role).lamps = s.lamps ∧ (s.menuRole role).pending = s.pending := by
  simp only [State.menuRole]
  repeat' split
  all_goals simp

@[simp] theorem State.menuBoardFailed_frame (s : State) :
    (s.menuBoardFailed).now = s.now ∧ (s.menuBoardFailed).rank = s.rank ∧ (s.menuBoardFailed).cfg = s.cfg ∧
    (s.menuBoardFailed).cfl = s.cfl ∧ (s.menuBoardFailed).ssl = s.ssl ∧ (s.menuBoardFailed).pcl = s.pcl ∧
    (s.menuBoardFailed).bus = s.bus ∧ (s.menuBoardFailed).tmu = s.tmu ∧ (s.menuBoardFailed).bsv = s.bsv ∧
    (s.menuBoardFailed).osw = s.osw ∧ (s.menuBoardFailed).fsg = s.fsg ∧ (s.menuBoardFailed).lct = s.lct ∧
    (s.menuBoardFailed).spe = s.spe ∧ (s.menuBoardFailed).roster = s.roster ∧ (s.menuBoardFailed).cnu = s.cnu ∧
    (s.menuBoardFailed).ovg = s.ovg ∧ (s.menuBoardFailed).lamps = s.lamps ∧ (s.menuBoardFailed).pending = s.pending := by
  simp only [State.menuBoardFailed]
  repeat' split
  all_goals simp

@[simp] theorem State.menuBoard_frame (s : State) (board : BoardState) :
    (s.menuBoard board).now = s.now ∧ (s.menuBoard board).rank = s.rank ∧ (s.menuBoard board).cfg = s.cfg ∧
    (s.menuBoard board).cfl = s.cfl ∧ (s.menuBoard board).ssl = s.ssl ∧ (s.menuBoard board).pcl = s.pcl ∧
    (s.menuBoard board).bus = s.bus ∧ (s.menuBoard board).tmu = s.tmu ∧ (s.menuBoard board).bsv = s.bsv ∧
    (s.menuBoard board).osw = s.osw ∧ (s.menuBoard board).fsg = s.fsg ∧ (s.menuBoard board).lct = s.lct ∧
    (s.menuBoard board).spe = s.spe ∧ (s.menuBoard board).roster = s.roster ∧ (s.menuBoard board).cnu = s.cnu ∧
    (s.menuBoard board).ovg = s.ovg ∧ (s.menuBoard board).lamps = s.lamps ∧ (s.menuBoard board).pending = s.pending := by
  simp only [State.menuBoard]
  repeat' split
  all_goals simp

@[simp] theorem State.menuHandoverFailed_frame (s : State) (reason : Notice) :
    (s.menuHandoverFailed reason).now = s.now ∧ (s.menuHandoverFailed reason).rank = s.rank ∧
    (s.menuHandoverFailed reason).cfg = s.cfg ∧ (s.menuHandoverFailed reason).cfl = s.cfl ∧
    (s.menuHandoverFailed reason).ssl = s.ssl ∧ (s.menuHandoverFailed reason).pcl = s.pcl ∧
    (s.menuHandoverFailed reason).bus = s.bus ∧ (s.menuHandoverFailed reason).tmu = s.tmu ∧
    (s.menuHandoverFailed reason).bsv = s.bsv ∧ (s.menuHandoverFailed reason).osw = s.osw ∧
    (s.menuHandoverFailed reason).fsg = s.fsg ∧ (s.menuHandoverFailed reason).lct = s.lct ∧
    (s.menuHandoverFailed reason).spe = s.spe ∧ (s.menuHandoverFailed reason).roster = s.roster ∧
    (s.menuHandoverFailed reason).cnu = s.cnu ∧ (s.menuHandoverFailed reason).ovg = s.ovg ∧
    (s.menuHandoverFailed reason).lamps = s.lamps ∧ (s.menuHandoverFailed reason).pending = s.pending := by
  simp only [State.menuHandoverFailed]
  repeat' split
  all_goals simp

@[simp] theorem State.menuHandoverComplete_frame (s : State) :
    (s.menuHandoverComplete).now = s.now ∧ (s.menuHandoverComplete).rank = s.rank ∧ (s.menuHandoverComplete).cfg = s.cfg ∧
    (s.menuHandoverComplete).cfl = s.cfl ∧ (s.menuHandoverComplete).ssl = s.ssl ∧ (s.menuHandoverComplete).pcl = s.pcl ∧
    (s.menuHandoverComplete).bus = s.bus ∧ (s.menuHandoverComplete).tmu = s.tmu ∧ (s.menuHandoverComplete).bsv = s.bsv ∧
    (s.menuHandoverComplete).osw = s.osw ∧ (s.menuHandoverComplete).fsg = s.fsg ∧ (s.menuHandoverComplete).lct = s.lct ∧
    (s.menuHandoverComplete).spe = s.spe ∧ (s.menuHandoverComplete).roster = s.roster ∧ (s.menuHandoverComplete).cnu = s.cnu ∧
    (s.menuHandoverComplete).ovg = s.ovg ∧ (s.menuHandoverComplete).lamps = s.lamps ∧ (s.menuHandoverComplete).pending = s.pending := by
  simp only [State.menuHandoverComplete]
  repeat' split
  all_goals simp

end Sys2Proof.Machine
end

