-- ==== Sys2Proof/Laws/FrameScreen.lean ====
section
/-!
SUPPORT. What each operation of roles, reports, sending and the screen protocol engine leaves as it was.
-/

namespace Sys2Proof.Machine

@[simp] theorem State.handRole_frame (s : State) (role : Role) :
    (s.handRole role).now = s.now ∧ (s.handRole role).rank = s.rank ∧ (s.handRole role).cfg = s.cfg ∧
    (s.handRole role).cfl = s.cfl ∧ (s.handRole role).ssl = s.ssl ∧ (s.handRole role).pcl = s.pcl ∧
    (s.handRole role).tmu = s.tmu ∧ (s.handRole role).bsv = s.bsv ∧ (s.handRole role).lct = s.lct ∧
    (s.handRole role).spe = s.spe ∧ (s.handRole role).roster = s.roster ∧ (s.handRole role).lamps = s.lamps ∧
    (s.handRole role).pending = s.pending := by
  simp [State.handRole]

@[simp] theorem State.setRole_frame (s : State) (role : Role) :
    (s.setRole role).now = s.now ∧ (s.setRole role).rank = s.rank ∧ (s.setRole role).cfg = s.cfg ∧ (s.setRole role).cfl = s.cfl ∧
    (s.setRole role).ssl = s.ssl ∧ (s.setRole role).pcl = s.pcl ∧ (s.setRole role).tmu = s.tmu ∧ (s.setRole role).bsv = s.bsv ∧
    (s.setRole role).lct = s.lct ∧ (s.setRole role).roster = s.roster ∧ (s.setRole role).lamps = s.lamps ∧
    (s.setRole role).pending = s.pending := by
  simp only [State.setRole]
  repeat' split
  all_goals simp

@[simp] theorem State.setView_frame (s : State) (view : Option Rank) :
    (s.setView view).now = s.now ∧ (s.setView view).rank = s.rank ∧ (s.setView view).cfg = s.cfg ∧ (s.setView view).cfl = s.cfl ∧
    (s.setView view).ssl = s.ssl ∧ (s.setView view).pcl = s.pcl ∧ (s.setView view).bus = s.bus ∧ (s.setView view).tmu = s.tmu ∧
    (s.setView view).bsv = s.bsv ∧ (s.setView view).osw = s.osw ∧ (s.setView view).fsg = s.fsg ∧ (s.setView view).lct = s.lct ∧
    (s.setView view).roster = s.roster ∧ (s.setView view).cmp = s.cmp ∧ (s.setView view).ovg = s.ovg ∧
    (s.setView view).mnu = s.mnu ∧ (s.setView view).lamps = s.lamps ∧ (s.setView view).pending = s.pending := by
  simp [State.setView]

@[simp] theorem State.offerFails_frame (s : State) (reason : Notice) :
    (s.offerFails reason).now = s.now ∧ (s.offerFails reason).rank = s.rank ∧ (s.offerFails reason).cfg = s.cfg ∧
    (s.offerFails reason).cfl = s.cfl ∧ (s.offerFails reason).ssl = s.ssl ∧ (s.offerFails reason).pcl = s.pcl ∧
    (s.offerFails reason).tmu = s.tmu ∧ (s.offerFails reason).bsv = s.bsv ∧ (s.offerFails reason).lct = s.lct ∧
    (s.offerFails reason).roster = s.roster ∧ (s.offerFails reason).lamps = s.lamps ∧ (s.offerFails reason).pending = s.pending := by
  simp [State.offerFails]

@[simp] theorem State.passFails_frame (s : State) :
    (s.passFails).now = s.now ∧ (s.passFails).rank = s.rank ∧ (s.passFails).cfg = s.cfg ∧ (s.passFails).cfl = s.cfl ∧
    (s.passFails).ssl = s.ssl ∧ (s.passFails).pcl = s.pcl ∧ (s.passFails).bus = s.bus ∧ (s.passFails).tmu = s.tmu ∧
    (s.passFails).bsv = s.bsv ∧ (s.passFails).osw = s.osw ∧ (s.passFails).fsg = s.fsg ∧ (s.passFails).lct = s.lct ∧
    (s.passFails).roster = s.roster ∧ (s.passFails).cmp = s.cmp ∧ (s.passFails).ovg = s.ovg ∧ (s.passFails).mnu = s.mnu ∧
    (s.passFails).lamps = s.lamps ∧ (s.passFails).pending = s.pending := by
  simp only [State.passFails]
  all_goals simp

@[simp] theorem State.handoverFails_frame (s : State) (reason : Notice) :
    (s.handoverFails reason).now = s.now ∧ (s.handoverFails reason).rank = s.rank ∧ (s.handoverFails reason).cfg = s.cfg ∧
    (s.handoverFails reason).cfl = s.cfl ∧ (s.handoverFails reason).ssl = s.ssl ∧ (s.handoverFails reason).pcl = s.pcl ∧
    (s.handoverFails reason).tmu = s.tmu ∧ (s.handoverFails reason).bsv = s.bsv ∧ (s.handoverFails reason).lct = s.lct ∧
    (s.handoverFails reason).roster = s.roster ∧ (s.handoverFails reason).lamps = s.lamps ∧
    (s.handoverFails reason).pending = s.pending := by
  simp [State.handoverFails]

@[simp] theorem State.handoverCompletes_frame (s : State) (t : Rank) :
    (s.handoverCompletes t).now = s.now ∧ (s.handoverCompletes t).rank = s.rank ∧ (s.handoverCompletes t).cfg = s.cfg ∧
    (s.handoverCompletes t).cfl = s.cfl ∧ (s.handoverCompletes t).ssl = s.ssl ∧ (s.handoverCompletes t).pcl = s.pcl ∧
    (s.handoverCompletes t).tmu = s.tmu ∧ (s.handoverCompletes t).bsv = s.bsv ∧ (s.handoverCompletes t).lct = s.lct ∧
    (s.handoverCompletes t).roster = s.roster ∧ (s.handoverCompletes t).lamps = s.lamps ∧
    (s.handoverCompletes t).pending = s.pending := by
  simp [State.handoverCompletes]

@[simp] theorem State.rosterReport_frame (s : State) (rep : Report) (f : Frame) :
    (s.rosterReport rep f).now = s.now ∧ (s.rosterReport rep f).rank = s.rank ∧ (s.rosterReport rep f).cfg = s.cfg ∧
    (s.rosterReport rep f).cfl = s.cfl ∧ (s.rosterReport rep f).ssl = s.ssl ∧ (s.rosterReport rep f).pcl = s.pcl ∧
    (s.rosterReport rep f).bus = s.bus ∧ (s.rosterReport rep f).tmu = s.tmu ∧ (s.rosterReport rep f).bsv = s.bsv ∧
    (s.rosterReport rep f).osw = s.osw ∧ (s.rosterReport rep f).fsg = s.fsg ∧ (s.rosterReport rep f).lct = s.lct ∧
    (s.rosterReport rep f).spe = s.spe ∧ (s.rosterReport rep f).cnu = s.cnu ∧ (s.rosterReport rep f).cmp = s.cmp ∧
    (s.rosterReport rep f).ovg = s.ovg ∧ (s.rosterReport rep f).lamps = s.lamps ∧ (s.rosterReport rep f).pending = s.pending := by
  simp only [State.rosterReport]
  repeat' split
  all_goals simp

@[simp] theorem State.recoveryReport_frame (s : State) (f : Frame) :
    (s.recoveryReport f).now = s.now ∧ (s.recoveryReport f).rank = s.rank ∧ (s.recoveryReport f).cfg = s.cfg ∧
    (s.recoveryReport f).cfl = s.cfl ∧ (s.recoveryReport f).ssl = s.ssl ∧ (s.recoveryReport f).pcl = s.pcl ∧
    (s.recoveryReport f).bus = s.bus ∧ (s.recoveryReport f).tmu = s.tmu ∧ (s.recoveryReport f).bsv = s.bsv ∧
    (s.recoveryReport f).osw = s.osw ∧ (s.recoveryReport f).fsg = s.fsg ∧ (s.recoveryReport f).lct = s.lct ∧
    (s.recoveryReport f).roster = s.roster ∧ (s.recoveryReport f).cnu = s.cnu ∧ (s.recoveryReport f).cmp = s.cmp ∧
    (s.recoveryReport f).ovg = s.ovg ∧ (s.recoveryReport f).mnu = s.mnu ∧ (s.recoveryReport f).lamps = s.lamps ∧
    (s.recoveryReport f).pending = s.pending := by
  simp only [State.recoveryReport]
  repeat' split
  all_goals simp

@[simp] theorem State.roleReport_frame (s : State) (rep : Report) (f : Frame) :
    (s.roleReport rep f).now = s.now ∧ (s.roleReport rep f).rank = s.rank ∧ (s.roleReport rep f).cfg = s.cfg ∧
    (s.roleReport rep f).cfl = s.cfl ∧ (s.roleReport rep f).ssl = s.ssl ∧ (s.roleReport rep f).pcl = s.pcl ∧
    (s.roleReport rep f).tmu = s.tmu ∧ (s.roleReport rep f).bsv = s.bsv ∧ (s.roleReport rep f).lct = s.lct ∧
    (s.roleReport rep f).roster = s.roster ∧ (s.roleReport rep f).lamps = s.lamps ∧ (s.roleReport rep f).pending = s.pending := by
  simp only [State.roleReport]
  repeat' split
  all_goals simp

@[simp] theorem State.report_frame (s : State) (rep : Report) (f : Frame) :
    (s.report rep f).now = s.now ∧ (s.report rep f).rank = s.rank ∧ (s.report rep f).cfg = s.cfg ∧ (s.report rep f).cfl = s.cfl ∧
    (s.report rep f).ssl = s.ssl ∧ (s.report rep f).pcl = s.pcl ∧ (s.report rep f).tmu = s.tmu ∧ (s.report rep f).bsv = s.bsv ∧
    (s.report rep f).lct = s.lct ∧ (s.report rep f).lamps = s.lamps ∧ (s.report rep f).pending = s.pending := by
  simp [State.report]

@[simp] theorem State.tryEnqueue_frame (s : State) (r : PendingRequest) :
    (s.tryEnqueue r).now = s.now ∧ (s.tryEnqueue r).rank = s.rank ∧ (s.tryEnqueue r).cfg = s.cfg ∧ (s.tryEnqueue r).cfl = s.cfl ∧
    (s.tryEnqueue r).ssl = s.ssl ∧ (s.tryEnqueue r).pcl = s.pcl ∧ (s.tryEnqueue r).tmu = s.tmu ∧ (s.tryEnqueue r).bsv = s.bsv ∧
    (s.tryEnqueue r).lamps = s.lamps ∧ (s.tryEnqueue r).pending = s.pending := by
  simp only [State.tryEnqueue]
  repeat' split
  all_goals simp

@[simp] theorem State.send_frame (s : State) (r : PendingRequest) :
    (s.send r).now = s.now ∧ (s.send r).rank = s.rank ∧ (s.send r).cfg = s.cfg ∧ (s.send r).cfl = s.cfl ∧
    (s.send r).ssl = s.ssl ∧ (s.send r).pcl = s.pcl ∧ (s.send r).tmu = s.tmu ∧ (s.send r).bsv = s.bsv ∧
    (s.send r).lamps = s.lamps ∧ (s.send r).pending = s.pending := by
  simp only [State.send]
  repeat' split
  all_goals simp

@[simp] theorem State.drainRequests_frame (s : State) (x : List PendingRequest) :
    (s.drainRequests x).now = s.now ∧ (s.drainRequests x).rank = s.rank ∧ (s.drainRequests x).cfg = s.cfg ∧
    (s.drainRequests x).cfl = s.cfl ∧ (s.drainRequests x).ssl = s.ssl ∧ (s.drainRequests x).pcl = s.pcl ∧
    (s.drainRequests x).tmu = s.tmu ∧ (s.drainRequests x).bsv = s.bsv ∧ (s.drainRequests x).lamps = s.lamps ∧
    (s.drainRequests x).pending = s.pending := by
  induction x generalizing s with
  | nil => simp [State.drainRequests]
  | cons r rest ih =>
    simp only [State.drainRequests]
    repeat' split
    all_goals simp [ih]

@[simp] theorem State.space_frame (s : State) :
    (s.space).now = s.now ∧ (s.space).rank = s.rank ∧ (s.space).cfg = s.cfg ∧ (s.space).cfl = s.cfl ∧ (s.space).ssl = s.ssl ∧
    (s.space).pcl = s.pcl ∧ (s.space).tmu = s.tmu ∧ (s.space).bsv = s.bsv ∧ (s.space).lamps = s.lamps ∧
    (s.space).pending = s.pending := by
  simp [State.space]

@[simp] theorem State.reportHead_frame (s : State) (rep : Report) :
    (s.reportHead rep).now = s.now ∧ (s.reportHead rep).rank = s.rank ∧ (s.reportHead rep).cfg = s.cfg ∧
    (s.reportHead rep).cfl = s.cfl ∧ (s.reportHead rep).ssl = s.ssl ∧ (s.reportHead rep).pcl = s.pcl ∧
    (s.reportHead rep).tmu = s.tmu ∧ (s.reportHead rep).bsv = s.bsv ∧ (s.reportHead rep).lamps = s.lamps ∧
    (s.reportHead rep).pending = s.pending := by
  simp only [State.reportHead]
  repeat' split
  all_goals simp

@[simp] theorem State.reportAll_frame (s : State) (x : List Frame) :
    (s.reportAll x).now = s.now ∧ (s.reportAll x).rank = s.rank ∧ (s.reportAll x).cfg = s.cfg ∧ (s.reportAll x).cfl = s.cfl ∧
    (s.reportAll x).ssl = s.ssl ∧ (s.reportAll x).pcl = s.pcl ∧ (s.reportAll x).tmu = s.tmu ∧ (s.reportAll x).bsv = s.bsv ∧
    (s.reportAll x).lct = s.lct ∧ (s.reportAll x).lamps = s.lamps ∧ (s.reportAll x).pending = s.pending := by
  induction x generalizing s with
  | nil => simp [State.reportAll]
  | cons f rest ih => simp [State.reportAll, ih]

@[simp] theorem State.beginBid_frame (s : State) (joined : Option Rank) :
    (s.beginBid joined).now = s.now ∧ (s.beginBid joined).rank = s.rank ∧ (s.beginBid joined).cfg = s.cfg ∧
    (s.beginBid joined).cfl = s.cfl ∧ (s.beginBid joined).ssl = s.ssl ∧ (s.beginBid joined).pcl = s.pcl ∧
    (s.beginBid joined).tmu = s.tmu ∧ (s.beginBid joined).bsv = s.bsv ∧ (s.beginBid joined).lamps = s.lamps ∧
    (s.beginBid joined).pending = s.pending := by
  simp only [State.beginBid]
  repeat' split
  all_goals simp

@[simp] theorem State.bidCheck_frame (s : State) :
    (s.bidCheck).now = s.now ∧ (s.bidCheck).rank = s.rank ∧ (s.bidCheck).cfg = s.cfg ∧ (s.bidCheck).cfl = s.cfl ∧
    (s.bidCheck).ssl = s.ssl ∧ (s.bidCheck).pcl = s.pcl ∧ (s.bidCheck).tmu = s.tmu ∧ (s.bidCheck).bsv = s.bsv ∧
    (s.bidCheck).lamps = s.lamps ∧ (s.bidCheck).pending = s.pending := by
  simp only [State.bidCheck]
  repeat' split
  all_goals simp

@[simp] theorem State.yieldTo_frame (s : State) (l : Rank) :
    (s.yieldTo l).now = s.now ∧ (s.yieldTo l).rank = s.rank ∧ (s.yieldTo l).cfg = s.cfg ∧ (s.yieldTo l).cfl = s.cfl ∧
    (s.yieldTo l).ssl = s.ssl ∧ (s.yieldTo l).pcl = s.pcl ∧ (s.yieldTo l).tmu = s.tmu ∧ (s.yieldTo l).bsv = s.bsv ∧
    (s.yieldTo l).lct = s.lct ∧ (s.yieldTo l).roster = s.roster ∧ (s.yieldTo l).lamps = s.lamps ∧
    (s.yieldTo l).pending = s.pending := by
  simp [State.yieldTo]

@[simp] theorem State.claim_frame (s : State) (r : Rank) :
    (s.claim r).now = s.now ∧ (s.claim r).rank = s.rank ∧ (s.claim r).cfg = s.cfg ∧ (s.claim r).cfl = s.cfl ∧
    (s.claim r).ssl = s.ssl ∧ (s.claim r).pcl = s.pcl ∧ (s.claim r).tmu = s.tmu ∧ (s.claim r).bsv = s.bsv ∧
    (s.claim r).lamps = s.lamps ∧ (s.claim r).pending = s.pending := by
  simp only [State.claim]
  repeat' split
  all_goals simp

@[simp] theorem State.release_frame (s : State) (r : Rank) :
    (s.release r).now = s.now ∧ (s.release r).rank = s.rank ∧ (s.release r).cfg = s.cfg ∧ (s.release r).cfl = s.cfl ∧
    (s.release r).ssl = s.ssl ∧ (s.release r).pcl = s.pcl ∧ (s.release r).tmu = s.tmu ∧ (s.release r).bsv = s.bsv ∧
    (s.release r).lamps = s.lamps ∧ (s.release r).pending = s.pending := by
  simp only [State.release]
  repeat' split
  all_goals simp

@[simp] theorem State.bidHeard_frame (s : State) (r : Rank) :
    (s.bidHeard r).now = s.now ∧ (s.bidHeard r).rank = s.rank ∧ (s.bidHeard r).cfg = s.cfg ∧ (s.bidHeard r).cfl = s.cfl ∧
    (s.bidHeard r).ssl = s.ssl ∧ (s.bidHeard r).pcl = s.pcl ∧ (s.bidHeard r).tmu = s.tmu ∧ (s.bidHeard r).bsv = s.bsv ∧
    (s.bidHeard r).lamps = s.lamps ∧ (s.bidHeard r).pending = s.pending := by
  simp only [State.bidHeard]
  repeat' split
  all_goals simp

@[simp] theorem State.speBusSilent_frame (s : State) :
    (s.speBusSilent).now = s.now ∧ (s.speBusSilent).rank = s.rank ∧ (s.speBusSilent).cfg = s.cfg ∧ (s.speBusSilent).cfl = s.cfl ∧
    (s.speBusSilent).ssl = s.ssl ∧ (s.speBusSilent).pcl = s.pcl ∧ (s.speBusSilent).tmu = s.tmu ∧ (s.speBusSilent).bsv = s.bsv ∧
    (s.speBusSilent).lamps = s.lamps ∧ (s.speBusSilent).pending = s.pending := by
  simp only [State.speBusSilent]
  repeat' split
  all_goals simp

@[simp] theorem State.contention_frame (s : State) :
    (s.contention).now = s.now ∧ (s.contention).rank = s.rank ∧ (s.contention).cfg = s.cfg ∧ (s.contention).cfl = s.cfl ∧
    (s.contention).ssl = s.ssl ∧ (s.contention).pcl = s.pcl ∧ (s.contention).tmu = s.tmu ∧ (s.contention).bsv = s.bsv ∧
    (s.contention).lamps = s.lamps ∧ (s.contention).pending = s.pending := by
  simp only [State.contention]
  repeat' split
  all_goals simp

@[simp] theorem State.withdraw_frame (s : State) (reason : WithdrawalReason) :
    (s.withdraw reason).now = s.now ∧ (s.withdraw reason).rank = s.rank ∧ (s.withdraw reason).cfg = s.cfg ∧
    (s.withdraw reason).cfl = s.cfl ∧ (s.withdraw reason).ssl = s.ssl ∧ (s.withdraw reason).pcl = s.pcl ∧
    (s.withdraw reason).tmu = s.tmu ∧ (s.withdraw reason).bsv = s.bsv ∧ (s.withdraw reason).roster = s.roster ∧
    (s.withdraw reason).lamps = s.lamps ∧ (s.withdraw reason).pending = s.pending := by
  simp only [State.withdraw]
  repeat' split
  all_goals simp

@[simp] theorem State.speRankClash_frame (s : State) :
    (s.speRankClash).now = s.now ∧ (s.speRankClash).rank = s.rank ∧ (s.speRankClash).cfg = s.cfg ∧ (s.speRankClash).cfl = s.cfl ∧
    (s.speRankClash).ssl = s.ssl ∧ (s.speRankClash).pcl = s.pcl ∧ (s.speRankClash).tmu = s.tmu ∧ (s.speRankClash).bsv = s.bsv ∧
    (s.speRankClash).roster = s.roster ∧ (s.speRankClash).lamps = s.lamps ∧ (s.speRankClash).pending = s.pending := by
  simp only [State.speRankClash]
  repeat' split
  all_goals simp

@[simp] theorem State.sendHello_frame (s : State) (reply : Bool) :
    (s.sendHello reply).now = s.now ∧ (s.sendHello reply).rank = s.rank ∧ (s.sendHello reply).cfg = s.cfg ∧
    (s.sendHello reply).cfl = s.cfl ∧ (s.sendHello reply).ssl = s.ssl ∧ (s.sendHello reply).pcl = s.pcl ∧
    (s.sendHello reply).tmu = s.tmu ∧ (s.sendHello reply).bsv = s.bsv ∧ (s.sendHello reply).lamps = s.lamps ∧
    (s.sendHello reply).pending = s.pending := by
  simp [State.sendHello]

@[simp] theorem State.speRunning_frame (s : State) :
    (s.speRunning).now = s.now ∧ (s.speRunning).rank = s.rank ∧ (s.speRunning).cfg = s.cfg ∧ (s.speRunning).cfl = s.cfl ∧
    (s.speRunning).ssl = s.ssl ∧ (s.speRunning).pcl = s.pcl ∧ (s.speRunning).tmu = s.tmu ∧ (s.speRunning).bsv = s.bsv ∧
    (s.speRunning).lamps = s.lamps ∧ (s.speRunning).pending = s.pending := by
  simp [State.speRunning]

@[simp] theorem State.speBoard_frame (s : State) (board : BoardState) :
    (s.speBoard board).now = s.now ∧ (s.speBoard board).rank = s.rank ∧ (s.speBoard board).cfg = s.cfg ∧
    (s.speBoard board).cfl = s.cfl ∧ (s.speBoard board).ssl = s.ssl ∧ (s.speBoard board).pcl = s.pcl ∧
    (s.speBoard board).tmu = s.tmu ∧ (s.speBoard board).bsv = s.bsv ∧ (s.speBoard board).lamps = s.lamps ∧
    (s.speBoard board).pending = s.pending := by
  simp only [State.speBoard]
  repeat' split
  all_goals simp

@[simp] theorem State.pick_frame (s : State) (t : Rank) :
    (s.pick t).now = s.now ∧ (s.pick t).rank = s.rank ∧ (s.pick t).cfg = s.cfg ∧ (s.pick t).cfl = s.cfl ∧
    (s.pick t).ssl = s.ssl ∧ (s.pick t).pcl = s.pcl ∧ (s.pick t).tmu = s.tmu ∧ (s.pick t).bsv = s.bsv ∧
    (s.pick t).lamps = s.lamps ∧ (s.pick t).pending = s.pending := by
  simp only [State.pick]
  repeat' split
  all_goals simp

@[simp] theorem State.answerOffer_frame (s : State) (h : Rank) (n : HandoverNumber) (yes : Bool) (reason : AnswerReason) :
    (s.answerOffer h n yes reason).now = s.now ∧ (s.answerOffer h n yes reason).rank = s.rank ∧
    (s.answerOffer h n yes reason).cfg = s.cfg ∧ (s.answerOffer h n yes reason).cfl = s.cfl ∧
    (s.answerOffer h n yes reason).ssl = s.ssl ∧ (s.answerOffer h n yes reason).pcl = s.pcl ∧
    (s.answerOffer h n yes reason).tmu = s.tmu ∧ (s.answerOffer h n yes reason).bsv = s.bsv ∧
    (s.answerOffer h n yes reason).lamps = s.lamps ∧ (s.answerOffer h n yes reason).pending = s.pending := by
  simp [State.answerOffer]

@[simp] theorem State.enterAccepted_frame (s : State) (h : Rank) (n : HandoverNumber) :
    (s.enterAccepted h n).now = s.now ∧ (s.enterAccepted h n).rank = s.rank ∧ (s.enterAccepted h n).cfg = s.cfg ∧
    (s.enterAccepted h n).cfl = s.cfl ∧ (s.enterAccepted h n).ssl = s.ssl ∧ (s.enterAccepted h n).pcl = s.pcl ∧
    (s.enterAccepted h n).tmu = s.tmu ∧ (s.enterAccepted h n).bsv = s.bsv ∧ (s.enterAccepted h n).lct = s.lct ∧
    (s.enterAccepted h n).roster = s.roster ∧ (s.enterAccepted h n).lamps = s.lamps ∧ (s.enterAccepted h n).pending = s.pending := by
  simp [State.enterAccepted]

@[simp] theorem State.offerHeard_frame (s : State) (h : Rank) (n : HandoverNumber) :
    (s.offerHeard h n).now = s.now ∧ (s.offerHeard h n).rank = s.rank ∧ (s.offerHeard h n).cfg = s.cfg ∧
    (s.offerHeard h n).cfl = s.cfl ∧ (s.offerHeard h n).ssl = s.ssl ∧ (s.offerHeard h n).pcl = s.pcl ∧
    (s.offerHeard h n).tmu = s.tmu ∧ (s.offerHeard h n).bsv = s.bsv ∧ (s.offerHeard h n).lamps = s.lamps ∧
    (s.offerHeard h n).pending = s.pending := by
  simp only [State.offerHeard]
  repeat' split
  all_goals simp

@[simp] theorem State.enterPassing_frame (s : State) :
    (s.enterPassing).now = s.now ∧ (s.enterPassing).rank = s.rank ∧ (s.enterPassing).cfg = s.cfg ∧ (s.enterPassing).cfl = s.cfl ∧
    (s.enterPassing).ssl = s.ssl ∧ (s.enterPassing).pcl = s.pcl ∧ (s.enterPassing).tmu = s.tmu ∧ (s.enterPassing).bsv = s.bsv ∧
    (s.enterPassing).lct = s.lct ∧ (s.enterPassing).roster = s.roster ∧ (s.enterPassing).lamps = s.lamps ∧
    (s.enterPassing).pending = s.pending := by
  simp [State.enterPassing]

@[simp] theorem State.answerHeard_frame (s : State) (r : Rank) (n : HandoverNumber) (yes : Bool) (reason : AnswerReason) :
    (s.answerHeard r n yes reason).now = s.now ∧ (s.answerHeard r n yes reason).rank = s.rank ∧
    (s.answerHeard r n yes reason).cfg = s.cfg ∧ (s.answerHeard r n yes reason).cfl = s.cfl ∧
    (s.answerHeard r n yes reason).ssl = s.ssl ∧ (s.answerHeard r n yes reason).pcl = s.pcl ∧
    (s.answerHeard r n yes reason).tmu = s.tmu ∧ (s.answerHeard r n yes reason).bsv = s.bsv ∧
    (s.answerHeard r n yes reason).lct = s.lct ∧ (s.answerHeard r n yes reason).roster = s.roster ∧
    (s.answerHeard r n yes reason).lamps = s.lamps ∧ (s.answerHeard r n yes reason).pending = s.pending := by
  simp only [State.answerHeard]
  repeat' split
  all_goals simp

@[simp] theorem State.seatByPass_frame (s : State) (h : Rank) (n : HandoverNumber) (c1 c2 : Nat) :
    (s.seatByPass h n c1 c2).now = s.now ∧ (s.seatByPass h n c1 c2).rank = s.rank ∧ (s.seatByPass h n c1 c2).cfg = s.cfg ∧
    (s.seatByPass h n c1 c2).cfl = s.cfl ∧ (s.seatByPass h n c1 c2).ssl = s.ssl ∧ (s.seatByPass h n c1 c2).pcl = s.pcl ∧
    (s.seatByPass h n c1 c2).tmu = s.tmu ∧ (s.seatByPass h n c1 c2).bsv = s.bsv ∧ (s.seatByPass h n c1 c2).lamps = s.lamps ∧
    (s.seatByPass h n c1 c2).pending = s.pending := by
  simp [State.seatByPass]

@[simp] theorem State.passHeard_frame (s : State) (h : Rank) (n : HandoverNumber) (c1 c2 : Nat) :
    (s.passHeard h n c1 c2).now = s.now ∧ (s.passHeard h n c1 c2).rank = s.rank ∧ (s.passHeard h n c1 c2).cfg = s.cfg ∧
    (s.passHeard h n c1 c2).cfl = s.cfl ∧ (s.passHeard h n c1 c2).ssl = s.ssl ∧ (s.passHeard h n c1 c2).pcl = s.pcl ∧
    (s.passHeard h n c1 c2).tmu = s.tmu ∧ (s.passHeard h n c1 c2).bsv = s.bsv ∧ (s.passHeard h n c1 c2).lamps = s.lamps ∧
    (s.passHeard h n c1 c2).pending = s.pending := by
  simp only [State.passHeard]
  repeat' split
  all_goals simp

@[simp] theorem State.coinHeard_frame (s : State) :
    (s.coinHeard).now = s.now ∧ (s.coinHeard).rank = s.rank ∧ (s.coinHeard).cfg = s.cfg ∧ (s.coinHeard).cfl = s.cfl ∧
    (s.coinHeard).ssl = s.ssl ∧ (s.coinHeard).pcl = s.pcl ∧ (s.coinHeard).bus = s.bus ∧ (s.coinHeard).tmu = s.tmu ∧
    (s.coinHeard).bsv = s.bsv ∧ (s.coinHeard).osw = s.osw ∧ (s.coinHeard).fsg = s.fsg ∧ (s.coinHeard).lct = s.lct ∧
    (s.coinHeard).roster = s.roster ∧ (s.coinHeard).cnu = s.cnu ∧ (s.coinHeard).cmp = s.cmp ∧ (s.coinHeard).ovg = s.ovg ∧
    (s.coinHeard).mnu = s.mnu ∧ (s.coinHeard).lamps = s.lamps ∧ (s.coinHeard).pending = s.pending := by
  simp only [State.coinHeard]
  repeat' split
  all_goals simp

@[simp] theorem State.issuePass_frame (s : State) :
    (s.issuePass).now = s.now ∧ (s.issuePass).rank = s.rank ∧ (s.issuePass).cfg = s.cfg ∧ (s.issuePass).cfl = s.cfl ∧
    (s.issuePass).ssl = s.ssl ∧ (s.issuePass).pcl = s.pcl ∧ (s.issuePass).tmu = s.tmu ∧ (s.issuePass).bsv = s.bsv ∧
    (s.issuePass).lamps = s.lamps ∧ (s.issuePass).pending = s.pending := by
  simp only [State.issuePass]
  repeat' split
  all_goals simp

@[simp] theorem State.leaveAccepted_frame (s : State) :
    (s.leaveAccepted).now = s.now ∧ (s.leaveAccepted).rank = s.rank ∧ (s.leaveAccepted).cfg = s.cfg ∧
    (s.leaveAccepted).cfl = s.cfl ∧ (s.leaveAccepted).ssl = s.ssl ∧ (s.leaveAccepted).pcl = s.pcl ∧
    (s.leaveAccepted).tmu = s.tmu ∧ (s.leaveAccepted).bsv = s.bsv ∧ (s.leaveAccepted).lct = s.lct ∧
    (s.leaveAccepted).roster = s.roster ∧ (s.leaveAccepted).lamps = s.lamps ∧ (s.leaveAccepted).pending = s.pending := by
  simp [State.leaveAccepted]

@[simp] theorem State.speLineStuck_frame (s : State) :
    (s.speLineStuck).now = s.now ∧ (s.speLineStuck).rank = s.rank ∧ (s.speLineStuck).cfg = s.cfg ∧ (s.speLineStuck).cfl = s.cfl ∧
    (s.speLineStuck).ssl = s.ssl ∧ (s.speLineStuck).pcl = s.pcl ∧ (s.speLineStuck).tmu = s.tmu ∧ (s.speLineStuck).bsv = s.bsv ∧
    (s.speLineStuck).lct = s.lct ∧ (s.speLineStuck).roster = s.roster ∧ (s.speLineStuck).lamps = s.lamps ∧
    (s.speLineStuck).pending = s.pending := by
  simp only [State.speLineStuck]
  repeat' split
  all_goals simp

@[simp] theorem State.speLineClear_frame (s : State) :
    (s.speLineClear).now = s.now ∧ (s.speLineClear).rank = s.rank ∧ (s.speLineClear).cfg = s.cfg ∧ (s.speLineClear).cfl = s.cfl ∧
    (s.speLineClear).ssl = s.ssl ∧ (s.speLineClear).pcl = s.pcl ∧ (s.speLineClear).tmu = s.tmu ∧ (s.speLineClear).bsv = s.bsv ∧
    (s.speLineClear).lamps = s.lamps ∧ (s.speLineClear).pending = s.pending := by
  simp only [State.speLineClear]
  repeat' split
  all_goals simp

end Sys2Proof.Machine
end

