-- ==== Sys2Proof/Laws/FrameBoard.lean ====
section
/-!
SUPPORT. What each operation of the board supervisor, start-up, board sync, bus sense and fill leaves as it was.
-/

namespace Sys2Proof.Machine

@[simp] theorem State.handBoard_frame (s : State) (board : BoardState) (field : Option Moment) :
    (s.handBoard board field).now = s.now ∧ (s.handBoard board field).rank = s.rank ∧ (s.handBoard board field).cfg = s.cfg ∧
    (s.handBoard board field).cfl = s.cfl ∧ (s.handBoard board field).ssl = s.ssl ∧ (s.handBoard board field).pcl = s.pcl ∧
    (s.handBoard board field).tmu = s.tmu ∧ (s.handBoard board field).bsv = s.bsv ∧ (s.handBoard board field).lamps = s.lamps ∧
    (s.handBoard board field).pending = s.pending := by
  simp [State.handBoard]

@[simp] theorem State.enterBoard_frame (s : State) (board : BoardState) (field : Option Moment) :
    (s.enterBoard board field).now = s.now ∧ (s.enterBoard board field).rank = s.rank ∧ (s.enterBoard board field).cfg = s.cfg ∧
    (s.enterBoard board field).cfl = s.cfl ∧ (s.enterBoard board field).ssl = s.ssl ∧ (s.enterBoard board field).pcl = s.pcl ∧
    (s.enterBoard board field).tmu = s.tmu ∧ (s.enterBoard board field).lamps = s.lamps ∧
    (s.enterBoard board field).pending = s.pending := by
  simp [State.enterBoard]

@[simp] theorem State.enterBoardCleared_frame (s : State) (board : BoardState) :
    (s.enterBoardCleared board).now = s.now ∧ (s.enterBoardCleared board).rank = s.rank ∧
    (s.enterBoardCleared board).cfg = s.cfg ∧ (s.enterBoardCleared board).cfl = s.cfl ∧ (s.enterBoardCleared board).ssl = s.ssl ∧
    (s.enterBoardCleared board).pcl = s.pcl ∧ (s.enterBoardCleared board).lamps = s.lamps ∧
    (s.enterBoardCleared board).pending = s.pending := by
  simp [State.enterBoardCleared]

@[simp] theorem State.setAttempts_frame (s : State) (n : Nat) :
    (s.setAttempts n).now = s.now ∧ (s.setAttempts n).rank = s.rank ∧ (s.setAttempts n).cfg = s.cfg ∧
    (s.setAttempts n).cfl = s.cfl ∧ (s.setAttempts n).ssl = s.ssl ∧ (s.setAttempts n).pcl = s.pcl ∧
    (s.setAttempts n).bus = s.bus ∧ (s.setAttempts n).tmu = s.tmu ∧ (s.setAttempts n).osw = s.osw ∧
    (s.setAttempts n).fsg = s.fsg ∧ (s.setAttempts n).lct = s.lct ∧ (s.setAttempts n).spe = s.spe ∧
    (s.setAttempts n).roster = s.roster ∧ (s.setAttempts n).cnu = s.cnu ∧ (s.setAttempts n).cmp = s.cmp ∧
    (s.setAttempts n).ovg = s.ovg ∧ (s.setAttempts n).mnu = s.mnu ∧ (s.setAttempts n).lamps = s.lamps ∧
    (s.setAttempts n).pending = s.pending := by
  simp [State.setAttempts]

@[simp] theorem State.enterVacant_frame (s : State) :
    (s.enterVacant).now = s.now ∧ (s.enterVacant).rank = s.rank ∧ (s.enterVacant).cfg = s.cfg ∧ (s.enterVacant).cfl = s.cfl ∧
    (s.enterVacant).ssl = s.ssl ∧ (s.enterVacant).pcl = s.pcl ∧ (s.enterVacant).lamps = s.lamps ∧
    (s.enterVacant).pending = s.pending := by
  simp [State.enterVacant]

@[simp] theorem State.endLoadPeriod_frame (s : State) :
    (s.endLoadPeriod).now = s.now ∧ (s.endLoadPeriod).rank = s.rank ∧ (s.endLoadPeriod).cfg = s.cfg ∧
    (s.endLoadPeriod).cfl = s.cfl ∧ (s.endLoadPeriod).ssl = s.ssl ∧ (s.endLoadPeriod).pcl = s.pcl ∧
    (s.endLoadPeriod).lamps = s.lamps ∧ (s.endLoadPeriod).pending = s.pending := by
  simp only [State.endLoadPeriod]
  repeat' split
  all_goals simp

@[simp] theorem State.boardPresent_frame (s : State) :
    (s.boardPresent).now = s.now ∧ (s.boardPresent).rank = s.rank ∧ (s.boardPresent).cfg = s.cfg ∧ (s.boardPresent).cfl = s.cfl ∧
    (s.boardPresent).ssl = s.ssl ∧ (s.boardPresent).pcl = s.pcl ∧ (s.boardPresent).lamps = s.lamps ∧
    (s.boardPresent).pending = s.pending := by
  simp only [State.boardPresent]
  repeat' split
  all_goals simp

@[simp] theorem State.boardAbsent_frame (s : State) :
    (s.boardAbsent).now = s.now ∧ (s.boardAbsent).rank = s.rank ∧ (s.boardAbsent).cfg = s.cfg ∧ (s.boardAbsent).cfl = s.cfl ∧
    (s.boardAbsent).ssl = s.ssl ∧ (s.boardAbsent).pcl = s.pcl ∧ (s.boardAbsent).lamps = s.lamps ∧
    (s.boardAbsent).pending = s.pending := by
  simp only [State.boardAbsent]
  repeat' split
  all_goals simp

@[simp] theorem State.firstDecision_frame (s : State) :
    (s.firstDecision).now = s.now ∧ (s.firstDecision).rank = s.rank ∧ (s.firstDecision).cfg = s.cfg ∧
    (s.firstDecision).cfl = s.cfl ∧ (s.firstDecision).ssl = s.ssl ∧ (s.firstDecision).pcl = s.pcl ∧
    (s.firstDecision).lamps = s.lamps ∧ (s.firstDecision).pending = s.pending := by
  simp [State.firstDecision]

@[simp] theorem State.latchOffWindow_frame (s : State) :
    (s.latchOffWindow).now = s.now ∧ (s.latchOffWindow).rank = s.rank ∧ (s.latchOffWindow).cfg = s.cfg ∧
    (s.latchOffWindow).cfl = s.cfl ∧ (s.latchOffWindow).ssl = s.ssl ∧ (s.latchOffWindow).pcl = s.pcl ∧
    (s.latchOffWindow).bus = s.bus ∧ (s.latchOffWindow).tmu = s.tmu ∧ (s.latchOffWindow).osw = s.osw ∧
    (s.latchOffWindow).fsg = s.fsg ∧ (s.latchOffWindow).lct = s.lct ∧ (s.latchOffWindow).spe = s.spe ∧
    (s.latchOffWindow).roster = s.roster ∧ (s.latchOffWindow).cnu = s.cnu ∧ (s.latchOffWindow).cmp = s.cmp ∧
    (s.latchOffWindow).ovg = s.ovg ∧ (s.latchOffWindow).mnu = s.mnu ∧ (s.latchOffWindow).lamps = s.lamps ∧
    (s.latchOffWindow).pending = s.pending := by
  simp [State.latchOffWindow]

@[simp] theorem State.boardSignature_frame (s : State) (verdict : Verdict) (field : Moment) :
    (s.boardSignature verdict field).now = s.now ∧ (s.boardSignature verdict field).rank = s.rank ∧
    (s.boardSignature verdict field).cfg = s.cfg ∧ (s.boardSignature verdict field).cfl = s.cfl ∧
    (s.boardSignature verdict field).ssl = s.ssl ∧ (s.boardSignature verdict field).pcl = s.pcl ∧
    (s.boardSignature verdict field).tmu = s.tmu ∧ (s.boardSignature verdict field).lamps = s.lamps ∧
    (s.boardSignature verdict field).pending = s.pending := by
  simp only [State.boardSignature]
  repeat' split
  all_goals simp

@[simp] theorem State.boardDrift_frame (s : State) (field : Moment) :
    (s.boardDrift field).now = s.now ∧ (s.boardDrift field).rank = s.rank ∧ (s.boardDrift field).cfg = s.cfg ∧
    (s.boardDrift field).cfl = s.cfl ∧ (s.boardDrift field).ssl = s.ssl ∧ (s.boardDrift field).pcl = s.pcl ∧
    (s.boardDrift field).tmu = s.tmu ∧ (s.boardDrift field).lamps = s.lamps ∧ (s.boardDrift field).pending = s.pending := by
  simp only [State.boardDrift]
  repeat' split
  all_goals simp

@[simp] theorem State.boardStall_frame (s : State) :
    (s.boardStall).now = s.now ∧ (s.boardStall).rank = s.rank ∧ (s.boardStall).cfg = s.cfg ∧ (s.boardStall).cfl = s.cfl ∧
    (s.boardStall).ssl = s.ssl ∧ (s.boardStall).pcl = s.pcl ∧ (s.boardStall).tmu = s.tmu ∧ (s.boardStall).lamps = s.lamps ∧
    (s.boardStall).pending = s.pending := by
  simp only [State.boardStall]
  repeat' split
  all_goals simp

@[simp] theorem State.boardResume_frame (s : State) :
    (s.boardResume).now = s.now ∧ (s.boardResume).rank = s.rank ∧ (s.boardResume).cfg = s.cfg ∧ (s.boardResume).cfl = s.cfl ∧
    (s.boardResume).ssl = s.ssl ∧ (s.boardResume).pcl = s.pcl ∧ (s.boardResume).tmu = s.tmu ∧ (s.boardResume).lamps = s.lamps ∧
    (s.boardResume).pending = s.pending := by
  simp only [State.boardResume]
  repeat' split
  all_goals simp

@[simp] theorem State.graceExpires_frame (s : State) :
    (s.graceExpires).now = s.now ∧ (s.graceExpires).rank = s.rank ∧ (s.graceExpires).cfg = s.cfg ∧ (s.graceExpires).cfl = s.cfl ∧
    (s.graceExpires).ssl = s.ssl ∧ (s.graceExpires).pcl = s.pcl ∧ (s.graceExpires).lamps = s.lamps ∧
    (s.graceExpires).pending = s.pending := by
  simp only [State.graceExpires]
  repeat' split
  all_goals simp

@[simp] theorem State.resetBoard_frame (s : State) :
    (s.resetBoard).now = s.now ∧ (s.resetBoard).rank = s.rank ∧ (s.resetBoard).cfg = s.cfg ∧ (s.resetBoard).cfl = s.cfl ∧
    (s.resetBoard).ssl = s.ssl ∧ (s.resetBoard).pcl = s.pcl ∧ (s.resetBoard).lamps = s.lamps ∧ (s.resetBoard).pending = s.pending := by
  simp only [State.resetBoard]
  repeat' split
  all_goals simp

@[simp] theorem State.boardTmuEvent_frame (s : State) (e : Option TmuEvent) (field : Moment) :
    (s.boardTmuEvent e field).now = s.now ∧ (s.boardTmuEvent e field).rank = s.rank ∧ (s.boardTmuEvent e field).cfg = s.cfg ∧
    (s.boardTmuEvent e field).cfl = s.cfl ∧ (s.boardTmuEvent e field).ssl = s.ssl ∧ (s.boardTmuEvent e field).pcl = s.pcl ∧
    (s.boardTmuEvent e field).tmu = s.tmu ∧ (s.boardTmuEvent e field).lamps = s.lamps ∧
    (s.boardTmuEvent e field).pending = s.pending := by
  simp only [State.boardTmuEvent]
  repeat' split
  all_goals simp

@[simp] theorem State.fieldStart_frame (s : State) (lead : Moment) :
    (s.fieldStart lead).now = s.now ∧ (s.fieldStart lead).rank = s.rank ∧ (s.fieldStart lead).cfg = s.cfg ∧
    (s.fieldStart lead).cfl = s.cfl ∧ (s.fieldStart lead).ssl = s.ssl ∧ (s.fieldStart lead).lamps = s.lamps ∧
    (s.fieldStart lead).pending = s.pending := by
  simp [State.fieldStart]

@[simp] theorem State.broad_frame (s : State) (lead : Moment) :
    (s.broad lead).now = s.now ∧ (s.broad lead).rank = s.rank ∧ (s.broad lead).cfg = s.cfg ∧ (s.broad lead).cfl = s.cfl ∧
    (s.broad lead).ssl = s.ssl ∧ (s.broad lead).lamps = s.lamps ∧ (s.broad lead).pending = s.pending := by
  simp only [State.broad]
  repeat' split
  all_goals simp

@[simp] theorem State.resume_frame (s : State) :
    (s.resume).now = s.now ∧ (s.resume).rank = s.rank ∧ (s.resume).cfg = s.cfg ∧ (s.resume).cfl = s.cfl ∧
    (s.resume).ssl = s.ssl ∧ (s.resume).pcl = s.pcl ∧ (s.resume).lamps = s.lamps ∧ (s.resume).pending = s.pending := by
  simp [State.resume]

@[simp] theorem State.stalled_frame (s : State) :
    (s.stalled).now = s.now ∧ (s.stalled).rank = s.rank ∧ (s.stalled).cfg = s.cfg ∧ (s.stalled).cfl = s.cfl ∧
    (s.stalled).ssl = s.ssl ∧ (s.stalled).pcl = s.pcl ∧ (s.stalled).lamps = s.lamps ∧ (s.stalled).pending = s.pending := by
  simp [State.stalled]

@[simp] theorem State.loadEnd_frame (s : State) (copy : Option (List Byte)) :
    (s.loadEnd copy).now = s.now ∧ (s.loadEnd copy).rank = s.rank ∧ (s.loadEnd copy).lamps = s.lamps ∧
    (s.loadEnd copy).pending = s.pending := by
  simp only [State.loadEnd]
  repeat' split
  all_goals simp

@[simp] theorem State.nodeResetEnds_frame (s : State) (straps : Straps) :
    (s.nodeResetEnds straps).now = s.now ∧ (s.nodeResetEnds straps).cfg = s.cfg ∧ (s.nodeResetEnds straps).ssl = s.ssl ∧
    (s.nodeResetEnds straps).pcl = s.pcl ∧ (s.nodeResetEnds straps).bus = s.bus ∧ (s.nodeResetEnds straps).tmu = s.tmu ∧
    (s.nodeResetEnds straps).bsv = s.bsv ∧ (s.nodeResetEnds straps).osw = s.osw ∧ (s.nodeResetEnds straps).fsg = s.fsg ∧
    (s.nodeResetEnds straps).lct = s.lct ∧ (s.nodeResetEnds straps).spe = s.spe ∧ (s.nodeResetEnds straps).roster = s.roster ∧
    (s.nodeResetEnds straps).cnu = s.cnu ∧ (s.nodeResetEnds straps).cmp = s.cmp ∧ (s.nodeResetEnds straps).ovg = s.ovg ∧
    (s.nodeResetEnds straps).lamps = s.lamps ∧ (s.nodeResetEnds straps).pending = s.pending := by
  simp [State.nodeResetEnds]

@[simp] theorem State.withCauses_frame (s : State) (c : ResetCauses) :
    (s.withCauses c).now = s.now ∧ (s.withCauses c).rank = s.rank ∧ (s.withCauses c).cfg = s.cfg ∧
    (s.withCauses c).ssl = s.ssl ∧ (s.withCauses c).pcl = s.pcl ∧ (s.withCauses c).bus = s.bus ∧ (s.withCauses c).tmu = s.tmu ∧
    (s.withCauses c).bsv = s.bsv ∧ (s.withCauses c).osw = s.osw ∧ (s.withCauses c).fsg = s.fsg ∧ (s.withCauses c).lct = s.lct ∧
    (s.withCauses c).spe = s.spe ∧ (s.withCauses c).roster = s.roster ∧ (s.withCauses c).cnu = s.cnu ∧
    (s.withCauses c).cmp = s.cmp ∧ (s.withCauses c).ovg = s.ovg ∧ (s.withCauses c).mnu = s.mnu ∧
    (s.withCauses c).lamps = s.lamps ∧ (s.withCauses c).pending = s.pending := by
  simp [State.withCauses]

@[simp] theorem State.causesEnd_frame (s : State) (r : ResetRelease) :
    (s.causesEnd r).now = s.now ∧ (s.causesEnd r).cfg = s.cfg ∧
    (s.causesEnd r).ssl = s.ssl ∧ (s.causesEnd r).pcl = s.pcl ∧
    (s.causesEnd r).bus = s.bus ∧ (s.causesEnd r).tmu = s.tmu ∧
    (s.causesEnd r).bsv = s.bsv ∧ (s.causesEnd r).osw = s.osw ∧
    (s.causesEnd r).fsg = s.fsg ∧ (s.causesEnd r).lct = s.lct ∧
    (s.causesEnd r).spe = s.spe ∧ (s.causesEnd r).roster = s.roster ∧
    (s.causesEnd r).cnu = s.cnu ∧ (s.causesEnd r).cmp = s.cmp ∧
    (s.causesEnd r).ovg = s.ovg ∧ (s.causesEnd r).lamps = s.lamps ∧
    (s.causesEnd r).pending = s.pending := by
  simp only [State.causesEnd]
  repeat' split
  all_goals simp

@[simp] theorem State.portFails_frame (s : State) (linesFree : Bool) :
    (s.portFails linesFree).now = s.now ∧ (s.portFails linesFree).rank = s.rank ∧ (s.portFails linesFree).cfg = s.cfg ∧
    (s.portFails linesFree).ssl = s.ssl ∧ (s.portFails linesFree).pcl = s.pcl ∧ (s.portFails linesFree).bus = s.bus ∧
    (s.portFails linesFree).tmu = s.tmu ∧ (s.portFails linesFree).bsv = s.bsv ∧ (s.portFails linesFree).osw = s.osw ∧
    (s.portFails linesFree).fsg = s.fsg ∧ (s.portFails linesFree).lct = s.lct ∧ (s.portFails linesFree).spe = s.spe ∧
    (s.portFails linesFree).roster = s.roster ∧ (s.portFails linesFree).cnu = s.cnu ∧ (s.portFails linesFree).cmp = s.cmp ∧
    (s.portFails linesFree).ovg = s.ovg ∧ (s.portFails linesFree).mnu = s.mnu ∧ (s.portFails linesFree).lamps = s.lamps ∧
    (s.portFails linesFree).pending = s.pending := by
  simp [State.portFails]

@[simp] theorem State.tryFails_frame (s : State) (linesFree : Bool) :
    (s.tryFails linesFree).now = s.now ∧ (s.tryFails linesFree).rank = s.rank ∧ (s.tryFails linesFree).lamps = s.lamps ∧
    (s.tryFails linesFree).pending = s.pending := by
  simp only [State.tryFails]
  repeat' split
  all_goals simp

@[simp] theorem State.windowEnds_frame (s : State) (runs : List SampleRun) (level : Code) :
    (s.windowEnds runs level).now = s.now ∧ (s.windowEnds runs level).rank = s.rank ∧ (s.windowEnds runs level).cfg = s.cfg ∧
    (s.windowEnds runs level).cfl = s.cfl ∧ (s.windowEnds runs level).bus = s.bus ∧ (s.windowEnds runs level).tmu = s.tmu ∧
    (s.windowEnds runs level).bsv = s.bsv ∧ (s.windowEnds runs level).osw = s.osw ∧ (s.windowEnds runs level).fsg = s.fsg ∧
    (s.windowEnds runs level).lct = s.lct ∧ (s.windowEnds runs level).spe = s.spe ∧ (s.windowEnds runs level).roster = s.roster ∧
    (s.windowEnds runs level).cnu = s.cnu ∧ (s.windowEnds runs level).cmp = s.cmp ∧ (s.windowEnds runs level).ovg = s.ovg ∧
    (s.windowEnds runs level).mnu = s.mnu ∧ (s.windowEnds runs level).lamps = s.lamps ∧
    (s.windowEnds runs level).pending = s.pending := by
  simp only [State.windowEnds]
  repeat' split
  all_goals simp

@[simp] theorem State.resumePulse_frame (s : State) (m : Moment) :
    (s.resumePulse m).now = s.now ∧ (s.resumePulse m).rank = s.rank ∧ (s.resumePulse m).cfg = s.cfg ∧
    (s.resumePulse m).cfl = s.cfl ∧ (s.resumePulse m).ssl = s.ssl ∧ (s.resumePulse m).lamps = s.lamps ∧
    (s.resumePulse m).pending = s.pending := by
  simp [State.resumePulse]

@[simp] theorem State.leadingEdge_frame (s : State) (m : Moment) :
    (s.leadingEdge m).now = s.now ∧ (s.leadingEdge m).rank = s.rank ∧ (s.leadingEdge m).cfg = s.cfg ∧
    (s.leadingEdge m).cfl = s.cfl ∧ (s.leadingEdge m).lamps = s.lamps ∧ (s.leadingEdge m).pending = s.pending := by
  simp only [State.leadingEdge]
  repeat' split
  all_goals simp

@[simp] theorem State.linePulse_frame (s : State) (p : Pulse) (m : Moment) :
    (s.linePulse p m).now = s.now ∧ (s.linePulse p m).rank = s.rank ∧ (s.linePulse p m).cfg = s.cfg ∧
    (s.linePulse p m).cfl = s.cfl ∧ (s.linePulse p m).bus = s.bus ∧ (s.linePulse p m).bsv = s.bsv ∧
    (s.linePulse p m).fsg = s.fsg ∧ (s.linePulse p m).lct = s.lct ∧ (s.linePulse p m).spe = s.spe ∧
    (s.linePulse p m).roster = s.roster ∧ (s.linePulse p m).cnu = s.cnu ∧ (s.linePulse p m).cmp = s.cmp ∧
    (s.linePulse p m).ovg = s.ovg ∧ (s.linePulse p m).mnu = s.mnu ∧ (s.linePulse p m).lamps = s.lamps ∧
    (s.linePulse p m).pending = s.pending := by
  simp [State.linePulse]

@[simp] theorem State.oddPulse_frame (s : State) :
    (s.oddPulse).now = s.now ∧ (s.oddPulse).rank = s.rank ∧ (s.oddPulse).cfg = s.cfg ∧ (s.oddPulse).cfl = s.cfl ∧
    (s.oddPulse).ssl = s.ssl ∧ (s.oddPulse).bus = s.bus ∧ (s.oddPulse).tmu = s.tmu ∧ (s.oddPulse).bsv = s.bsv ∧
    (s.oddPulse).osw = s.osw ∧ (s.oddPulse).fsg = s.fsg ∧ (s.oddPulse).lct = s.lct ∧ (s.oddPulse).spe = s.spe ∧
    (s.oddPulse).roster = s.roster ∧ (s.oddPulse).cnu = s.cnu ∧ (s.oddPulse).cmp = s.cmp ∧ (s.oddPulse).ovg = s.ovg ∧
    (s.oddPulse).mnu = s.mnu ∧ (s.oddPulse).lamps = s.lamps ∧ (s.oddPulse).pending = s.pending := by
  simp [State.oddPulse]

@[simp] theorem State.classify_frame (s : State) (p : Pulse) (m : Moment) :
    (s.classify p m).now = s.now ∧ (s.classify p m).rank = s.rank ∧ (s.classify p m).cfg = s.cfg ∧ (s.classify p m).cfl = s.cfl ∧
    (s.classify p m).lamps = s.lamps ∧ (s.classify p m).pending = s.pending := by
  simp only [State.classify]
  repeat' split
  all_goals simp

@[simp] theorem State.trailingEdge_frame (s : State) (m : Moment) :
    (s.trailingEdge m).now = s.now ∧ (s.trailingEdge m).rank = s.rank ∧ (s.trailingEdge m).cfg = s.cfg ∧
    (s.trailingEdge m).cfl = s.cfl ∧ (s.trailingEdge m).lamps = s.lamps ∧ (s.trailingEdge m).pending = s.pending := by
  simp only [State.trailingEdge]
  repeat' split
  all_goals simp

@[simp] theorem State.decideBroad_frame (s : State) :
    (s.decideBroad).now = s.now ∧ (s.decideBroad).rank = s.rank ∧ (s.decideBroad).cfg = s.cfg ∧ (s.decideBroad).cfl = s.cfl ∧
    (s.decideBroad).ssl = s.ssl ∧ (s.decideBroad).lamps = s.lamps ∧ (s.decideBroad).pending = s.pending := by
  simp only [State.decideBroad]
  repeat' split
  all_goals simp

@[simp] theorem State.takeTip_frame (s : State) (code : Code) :
    (s.takeTip code).now = s.now ∧ (s.takeTip code).rank = s.rank ∧ (s.takeTip code).cfg = s.cfg ∧ (s.takeTip code).cfl = s.cfl ∧
    (s.takeTip code).ssl = s.ssl ∧ (s.takeTip code).bus = s.bus ∧ (s.takeTip code).tmu = s.tmu ∧ (s.takeTip code).bsv = s.bsv ∧
    (s.takeTip code).osw = s.osw ∧ (s.takeTip code).fsg = s.fsg ∧ (s.takeTip code).lct = s.lct ∧ (s.takeTip code).spe = s.spe ∧
    (s.takeTip code).roster = s.roster ∧ (s.takeTip code).cnu = s.cnu ∧ (s.takeTip code).cmp = s.cmp ∧
    (s.takeTip code).ovg = s.ovg ∧ (s.takeTip code).mnu = s.mnu ∧ (s.takeTip code).lamps = s.lamps ∧
    (s.takeTip code).pending = s.pending := by
  simp only [State.takeTip]
  all_goals simp

@[simp] theorem State.takeRest_frame (s : State) (code : Code) :
    (s.takeRest code).now = s.now ∧ (s.takeRest code).rank = s.rank ∧ (s.takeRest code).cfg = s.cfg ∧
    (s.takeRest code).cfl = s.cfl ∧ (s.takeRest code).pcl = s.pcl ∧ (s.takeRest code).bus = s.bus ∧
    (s.takeRest code).tmu = s.tmu ∧ (s.takeRest code).bsv = s.bsv ∧ (s.takeRest code).osw = s.osw ∧
    (s.takeRest code).fsg = s.fsg ∧ (s.takeRest code).lct = s.lct ∧ (s.takeRest code).spe = s.spe ∧
    (s.takeRest code).roster = s.roster ∧ (s.takeRest code).cnu = s.cnu ∧ (s.takeRest code).cmp = s.cmp ∧
    (s.takeRest code).ovg = s.ovg ∧ (s.takeRest code).mnu = s.mnu ∧ (s.takeRest code).lamps = s.lamps ∧
    (s.takeRest code).pending = s.pending := by
  simp only [State.takeRest]
  repeat' split
  all_goals simp

@[simp] theorem State.stallExpires_frame (s : State) :
    (s.stallExpires).now = s.now ∧ (s.stallExpires).rank = s.rank ∧ (s.stallExpires).cfg = s.cfg ∧ (s.stallExpires).cfl = s.cfl ∧
    (s.stallExpires).lamps = s.lamps ∧ (s.stallExpires).pending = s.pending := by
  simp only [State.stallExpires]
  repeat' split
  all_goals simp

@[simp] theorem State.busPulse_frame (s : State) (m : Moment) (high : Bool) :
    (s.busPulse m high).now = s.now ∧ (s.busPulse m high).rank = s.rank ∧ (s.busPulse m high).cfg = s.cfg ∧
    (s.busPulse m high).cfl = s.cfl ∧ (s.busPulse m high).ssl = s.ssl ∧ (s.busPulse m high).pcl = s.pcl ∧
    (s.busPulse m high).tmu = s.tmu ∧ (s.busPulse m high).bsv = s.bsv ∧ (s.busPulse m high).fsg = s.fsg ∧
    (s.busPulse m high).lct = s.lct ∧ (s.busPulse m high).spe = s.spe ∧ (s.busPulse m high).roster = s.roster ∧
    (s.busPulse m high).cnu = s.cnu ∧ (s.busPulse m high).cmp = s.cmp ∧ (s.busPulse m high).ovg = s.ovg ∧
    (s.busPulse m high).mnu = s.mnu ∧ (s.busPulse m high).lamps = s.lamps ∧ (s.busPulse m high).pending = s.pending := by
  simp only [State.busPulse]
  repeat' split
  all_goals simp

@[simp] theorem State.busEdge_frame (s : State) (m : Moment) (high : Bool) :
    (s.busEdge m high).now = s.now ∧ (s.busEdge m high).rank = s.rank ∧ (s.busEdge m high).cfg = s.cfg ∧
    (s.busEdge m high).cfl = s.cfl ∧ (s.busEdge m high).ssl = s.ssl ∧ (s.busEdge m high).pcl = s.pcl ∧
    (s.busEdge m high).tmu = s.tmu ∧ (s.busEdge m high).bsv = s.bsv ∧ (s.busEdge m high).fsg = s.fsg ∧
    (s.busEdge m high).lct = s.lct ∧ (s.busEdge m high).spe = s.spe ∧ (s.busEdge m high).roster = s.roster ∧
    (s.busEdge m high).cnu = s.cnu ∧ (s.busEdge m high).cmp = s.cmp ∧ (s.busEdge m high).ovg = s.ovg ∧
    (s.busEdge m high).mnu = s.mnu ∧ (s.busEdge m high).lamps = s.lamps ∧ (s.busEdge m high).pending = s.pending := by
  simp [State.busEdge]

@[simp] theorem State.busFallsSilent_frame (s : State) :
    (s.busFallsSilent).now = s.now ∧ (s.busFallsSilent).rank = s.rank ∧ (s.busFallsSilent).cfg = s.cfg ∧
    (s.busFallsSilent).cfl = s.cfl ∧ (s.busFallsSilent).ssl = s.ssl ∧ (s.busFallsSilent).pcl = s.pcl ∧
    (s.busFallsSilent).tmu = s.tmu ∧ (s.busFallsSilent).bsv = s.bsv ∧ (s.busFallsSilent).lamps = s.lamps ∧
    (s.busFallsSilent).pending = s.pending := by
  simp [State.busFallsSilent]

@[simp] theorem State.busMismatch_frame (s : State) (l16 : Nat) (b : Moment) :
    (s.busMismatch l16 b).now = s.now ∧ (s.busMismatch l16 b).rank = s.rank ∧ (s.busMismatch l16 b).cfg = s.cfg ∧
    (s.busMismatch l16 b).cfl = s.cfl ∧ (s.busMismatch l16 b).ssl = s.ssl ∧ (s.busMismatch l16 b).pcl = s.pcl ∧
    (s.busMismatch l16 b).tmu = s.tmu ∧ (s.busMismatch l16 b).bsv = s.bsv ∧ (s.busMismatch l16 b).lamps = s.lamps ∧
    (s.busMismatch l16 b).pending = s.pending := by
  simp only [State.busMismatch]
  repeat' split
  all_goals simp

@[simp] theorem State.judgeBusLine_frame (s : State) (b : Moment) :
    (s.judgeBusLine b).now = s.now ∧ (s.judgeBusLine b).rank = s.rank ∧ (s.judgeBusLine b).cfg = s.cfg ∧
    (s.judgeBusLine b).cfl = s.cfl ∧ (s.judgeBusLine b).ssl = s.ssl ∧ (s.judgeBusLine b).pcl = s.pcl ∧
    (s.judgeBusLine b).tmu = s.tmu ∧ (s.judgeBusLine b).bsv = s.bsv ∧ (s.judgeBusLine b).lamps = s.lamps ∧
    (s.judgeBusLine b).pending = s.pending := by
  simp only [State.judgeBusLine]
  repeat' split
  all_goals simp

@[simp] theorem State.judgeOldest_frame (s : State) :
    (s.judgeOldest).now = s.now ∧ (s.judgeOldest).rank = s.rank ∧ (s.judgeOldest).cfg = s.cfg ∧ (s.judgeOldest).cfl = s.cfl ∧
    (s.judgeOldest).ssl = s.ssl ∧ (s.judgeOldest).pcl = s.pcl ∧ (s.judgeOldest).tmu = s.tmu ∧ (s.judgeOldest).bsv = s.bsv ∧
    (s.judgeOldest).lamps = s.lamps ∧ (s.judgeOldest).pending = s.pending := by
  simp only [State.judgeOldest]
  repeat' split
  all_goals simp

@[simp] theorem State.fillLine_frame (s : State) (n : Nat) (start : Moment) :
    (s.fillLine n start).now = s.now ∧ (s.fillLine n start).rank = s.rank ∧ (s.fillLine n start).cfg = s.cfg ∧
    (s.fillLine n start).cfl = s.cfl ∧ (s.fillLine n start).ssl = s.ssl ∧ (s.fillLine n start).pcl = s.pcl ∧
    (s.fillLine n start).bus = s.bus ∧ (s.fillLine n start).tmu = s.tmu ∧ (s.fillLine n start).bsv = s.bsv ∧
    (s.fillLine n start).lct = s.lct ∧ (s.fillLine n start).spe = s.spe ∧ (s.fillLine n start).roster = s.roster ∧
    (s.fillLine n start).cnu = s.cnu ∧ (s.fillLine n start).cmp = s.cmp ∧ (s.fillLine n start).mnu = s.mnu ∧
    (s.fillLine n start).lamps = s.lamps ∧ (s.fillLine n start).pending = s.pending := by
  simp only [State.fillLine]
  repeat' split
  all_goals simp

end Sys2Proof.Machine
end

