-- ==== Sys2Proof/Laws/FrameEvents.lean ====
section
/-!
SUPPORT. What each operation of the wire, the taken frames, the screen timers, coins, panel and menu leaves as it was.
-/

namespace Sys2Proof.Machine

@[simp] theorem State.withLine_frame (s : State) (l : LineController) :
    (s.withLine l).now = s.now ∧ (s.withLine l).rank = s.rank ∧ (s.withLine l).cfg = s.cfg ∧ (s.withLine l).cfl = s.cfl ∧
    (s.withLine l).ssl = s.ssl ∧ (s.withLine l).pcl = s.pcl ∧ (s.withLine l).bus = s.bus ∧ (s.withLine l).tmu = s.tmu ∧
    (s.withLine l).bsv = s.bsv ∧ (s.withLine l).osw = s.osw ∧ (s.withLine l).fsg = s.fsg ∧ (s.withLine l).spe = s.spe ∧
    (s.withLine l).roster = s.roster ∧ (s.withLine l).cnu = s.cnu ∧ (s.withLine l).cmp = s.cmp ∧ (s.withLine l).ovg = s.ovg ∧
    (s.withLine l).mnu = s.mnu ∧ (s.withLine l).lamps = s.lamps ∧ (s.withLine l).pending = s.pending := by
  simp [State.withLine]

@[simp] theorem State.lineBecomesIdle_frame (s : State) :
    (s.lineBecomesIdle).now = s.now ∧ (s.lineBecomesIdle).rank = s.rank ∧ (s.lineBecomesIdle).cfg = s.cfg ∧
    (s.lineBecomesIdle).cfl = s.cfl ∧ (s.lineBecomesIdle).ssl = s.ssl ∧ (s.lineBecomesIdle).pcl = s.pcl ∧
    (s.lineBecomesIdle).bus = s.bus ∧ (s.lineBecomesIdle).tmu = s.tmu ∧ (s.lineBecomesIdle).bsv = s.bsv ∧
    (s.lineBecomesIdle).osw = s.osw ∧ (s.lineBecomesIdle).fsg = s.fsg ∧ (s.lineBecomesIdle).spe = s.spe ∧
    (s.lineBecomesIdle).roster = s.roster ∧ (s.lineBecomesIdle).cnu = s.cnu ∧ (s.lineBecomesIdle).cmp = s.cmp ∧
    (s.lineBecomesIdle).ovg = s.ovg ∧ (s.lineBecomesIdle).mnu = s.mnu ∧ (s.lineBecomesIdle).lamps = s.lamps ∧
    (s.lineBecomesIdle).pending = s.pending := by
  simp [State.lineBecomesIdle]

@[simp] theorem State.gapMet_frame (s : State) :
    (s.gapMet).rank = s.rank ∧ (s.gapMet).cfg = s.cfg ∧ (s.gapMet).cfl = s.cfl ∧ (s.gapMet).ssl = s.ssl ∧
    (s.gapMet).pcl = s.pcl ∧ (s.gapMet).bus = s.bus ∧ (s.gapMet).tmu = s.tmu ∧ (s.gapMet).bsv = s.bsv ∧ (s.gapMet).osw = s.osw ∧
    (s.gapMet).fsg = s.fsg ∧ (s.gapMet).spe = s.spe ∧ (s.gapMet).roster = s.roster ∧ (s.gapMet).cnu = s.cnu ∧
    (s.gapMet).cmp = s.cmp ∧ (s.gapMet).ovg = s.ovg ∧ (s.gapMet).mnu = s.mnu ∧ (s.gapMet).lamps = s.lamps ∧
    (s.gapMet).pending = s.pending := by
  simp only [State.gapMet]
  repeat' split
  all_goals simp

@[simp] theorem State.loseArbitration_frame (s : State) (start : Moment) (bit : Nat) :
    (s.loseArbitration start bit).now = s.now ∧ (s.loseArbitration start bit).rank = s.rank ∧
    (s.loseArbitration start bit).cfg = s.cfg ∧ (s.loseArbitration start bit).cfl = s.cfl ∧
    (s.loseArbitration start bit).ssl = s.ssl ∧ (s.loseArbitration start bit).pcl = s.pcl ∧
    (s.loseArbitration start bit).bus = s.bus ∧ (s.loseArbitration start bit).tmu = s.tmu ∧
    (s.loseArbitration start bit).bsv = s.bsv ∧ (s.loseArbitration start bit).osw = s.osw ∧
    (s.loseArbitration start bit).fsg = s.fsg ∧ (s.loseArbitration start bit).spe = s.spe ∧
    (s.loseArbitration start bit).roster = s.roster ∧ (s.loseArbitration start bit).cnu = s.cnu ∧
    (s.loseArbitration start bit).cmp = s.cmp ∧ (s.loseArbitration start bit).ovg = s.ovg ∧
    (s.loseArbitration start bit).mnu = s.mnu ∧ (s.loseArbitration start bit).lamps = s.lamps ∧
    (s.loseArbitration start bit).pending = s.pending := by
  simp [State.loseArbitration]

@[simp] theorem State.attemptFails_frame (s : State) :
    (s.attemptFails).now = s.now ∧ (s.attemptFails).rank = s.rank ∧ (s.attemptFails).cfg = s.cfg ∧ (s.attemptFails).cfl = s.cfl ∧
    (s.attemptFails).ssl = s.ssl ∧ (s.attemptFails).pcl = s.pcl ∧ (s.attemptFails).tmu = s.tmu ∧ (s.attemptFails).bsv = s.bsv ∧
    (s.attemptFails).lamps = s.lamps ∧ (s.attemptFails).pending = s.pending := by
  simp only [State.attemptFails]
  repeat' split
  all_goals simp

@[simp] theorem State.bitClashes_frame (s : State) (start : Moment) (k i : Nat) (read : Level) :
    (s.bitClashes start k i read).now = s.now ∧ (s.bitClashes start k i read).rank = s.rank ∧
    (s.bitClashes start k i read).cfg = s.cfg ∧ (s.bitClashes start k i read).cfl = s.cfl ∧
    (s.bitClashes start k i read).ssl = s.ssl ∧ (s.bitClashes start k i read).pcl = s.pcl ∧
    (s.bitClashes start k i read).tmu = s.tmu ∧ (s.bitClashes start k i read).bsv = s.bsv ∧
    (s.bitClashes start k i read).lamps = s.lamps ∧ (s.bitClashes start k i read).pending = s.pending := by
  simp [State.bitClashes]

@[simp] theorem State.framingFails_frame (s : State) :
    (s.framingFails).now = s.now ∧ (s.framingFails).rank = s.rank ∧ (s.framingFails).cfg = s.cfg ∧ (s.framingFails).cfl = s.cfl ∧
    (s.framingFails).ssl = s.ssl ∧ (s.framingFails).pcl = s.pcl ∧ (s.framingFails).bus = s.bus ∧ (s.framingFails).tmu = s.tmu ∧
    (s.framingFails).bsv = s.bsv ∧ (s.framingFails).osw = s.osw ∧ (s.framingFails).fsg = s.fsg ∧ (s.framingFails).spe = s.spe ∧
    (s.framingFails).roster = s.roster ∧ (s.framingFails).cnu = s.cnu ∧ (s.framingFails).cmp = s.cmp ∧
    (s.framingFails).ovg = s.ovg ∧ (s.framingFails).mnu = s.mnu ∧ (s.framingFails).lamps = s.lamps ∧
    (s.framingFails).pending = s.pending := by
  simp only [State.framingFails]
  repeat' split
  all_goals simp

@[simp] theorem State.applyJudgement_frame (s : State) (window : Moment) (x : Judgement) :
    (s.applyJudgement window x).now = s.now ∧ (s.applyJudgement window x).rank = s.rank ∧
    (s.applyJudgement window x).cfg = s.cfg ∧ (s.applyJudgement window x).cfl = s.cfl ∧
    (s.applyJudgement window x).ssl = s.ssl ∧ (s.applyJudgement window x).pcl = s.pcl ∧
    (s.applyJudgement window x).tmu = s.tmu ∧ (s.applyJudgement window x).bsv = s.bsv ∧
    (s.applyJudgement window x).roster = s.roster ∧ (s.applyJudgement window x).lamps = s.lamps ∧
    (s.applyJudgement window x).pending = s.pending := by
  simp only [State.applyJudgement]
  repeat' split
  all_goals simp

@[simp] theorem State.judgeAt_frame (s : State) (window : Moment) (read : List Bool) (chars : List Byte) (gapDominant : Bool) :
    (s.judgeAt window read chars gapDominant).now = s.now ∧ (s.judgeAt window read chars gapDominant).rank = s.rank ∧
    (s.judgeAt window read chars gapDominant).cfg = s.cfg ∧ (s.judgeAt window read chars gapDominant).cfl = s.cfl ∧
    (s.judgeAt window read chars gapDominant).ssl = s.ssl ∧ (s.judgeAt window read chars gapDominant).pcl = s.pcl ∧
    (s.judgeAt window read chars gapDominant).tmu = s.tmu ∧ (s.judgeAt window read chars gapDominant).bsv = s.bsv ∧
    (s.judgeAt window read chars gapDominant).roster = s.roster ∧ (s.judgeAt window read chars gapDominant).lamps = s.lamps ∧
    (s.judgeAt window read chars gapDominant).pending = s.pending := by
  simp [State.judgeAt]

@[simp] theorem State.judgeAck_frame (s : State) (middles : BitVec 9) :
    (s.judgeAck middles).now = s.now ∧ (s.judgeAck middles).rank = s.rank ∧ (s.judgeAck middles).cfg = s.cfg ∧
    (s.judgeAck middles).cfl = s.cfl ∧ (s.judgeAck middles).ssl = s.ssl ∧ (s.judgeAck middles).pcl = s.pcl ∧
    (s.judgeAck middles).tmu = s.tmu ∧ (s.judgeAck middles).bsv = s.bsv ∧ (s.judgeAck middles).lamps = s.lamps ∧
    (s.judgeAck middles).pending = s.pending := by
  simp only [State.judgeAck]
  repeat' split
  all_goals simp

@[simp] theorem State.windowCloses_frame (s : State) (middles : BitVec 9) :
    (s.windowCloses middles).now = s.now ∧ (s.windowCloses middles).rank = s.rank ∧ (s.windowCloses middles).cfg = s.cfg ∧
    (s.windowCloses middles).cfl = s.cfl ∧ (s.windowCloses middles).ssl = s.ssl ∧ (s.windowCloses middles).pcl = s.pcl ∧
    (s.windowCloses middles).tmu = s.tmu ∧ (s.windowCloses middles).bsv = s.bsv ∧ (s.windowCloses middles).lamps = s.lamps ∧
    (s.windowCloses middles).pending = s.pending := by
  simp only [State.windowCloses]
  repeat' split
  all_goals simp

@[simp] theorem State.flush_frame (s : State) :
    (s.flush).now = s.now ∧ (s.flush).rank = s.rank ∧ (s.flush).cfg = s.cfg ∧ (s.flush).cfl = s.cfl ∧ (s.flush).ssl = s.ssl ∧
    (s.flush).pcl = s.pcl ∧ (s.flush).tmu = s.tmu ∧ (s.flush).bsv = s.bsv ∧ (s.flush).lamps = s.lamps ∧
    (s.flush).pending = s.pending := by
  simp only [State.flush]
  repeat' split
  all_goals simp

@[simp] theorem State.lineSticks_frame (s : State) :
    (s.lineSticks).now = s.now ∧ (s.lineSticks).rank = s.rank ∧ (s.lineSticks).cfg = s.cfg ∧ (s.lineSticks).cfl = s.cfl ∧
    (s.lineSticks).ssl = s.ssl ∧ (s.lineSticks).pcl = s.pcl ∧ (s.lineSticks).tmu = s.tmu ∧ (s.lineSticks).bsv = s.bsv ∧
    (s.lineSticks).lamps = s.lamps ∧ (s.lineSticks).pending = s.pending := by
  simp [State.lineSticks]

@[simp] theorem State.lineClears_frame (s : State) :
    (s.lineClears).now = s.now ∧ (s.lineClears).rank = s.rank ∧ (s.lineClears).cfg = s.cfg ∧ (s.lineClears).cfl = s.cfl ∧
    (s.lineClears).ssl = s.ssl ∧ (s.lineClears).pcl = s.pcl ∧ (s.lineClears).tmu = s.tmu ∧ (s.lineClears).bsv = s.bsv ∧
    (s.lineClears).lamps = s.lamps ∧ (s.lineClears).pending = s.pending := by
  simp [State.lineClears]

@[simp] theorem State.takeEntry_frame (s : State) (e : RxEntry) :
    (s.takeEntry e).now = s.now ∧ (s.takeEntry e).rank = s.rank ∧ (s.takeEntry e).cfg = s.cfg ∧ (s.takeEntry e).cfl = s.cfl ∧
    (s.takeEntry e).ssl = s.ssl ∧ (s.takeEntry e).pcl = s.pcl ∧ (s.takeEntry e).bus = s.bus ∧ (s.takeEntry e).tmu = s.tmu ∧
    (s.takeEntry e).bsv = s.bsv ∧ (s.takeEntry e).osw = s.osw ∧ (s.takeEntry e).fsg = s.fsg ∧ (s.takeEntry e).spe = s.spe ∧
    (s.takeEntry e).cnu = s.cnu ∧ (s.takeEntry e).cmp = s.cmp ∧ (s.takeEntry e).ovg = s.ovg ∧ (s.takeEntry e).mnu = s.mnu ∧
    (s.takeEntry e).lamps = s.lamps ∧ (s.takeEntry e).pending = s.pending := by
  simp [State.takeEntry]

@[simp] theorem State.helloHeard_frame (s : State) (r : Rank) (holding reply : Bool) :
    (s.helloHeard r holding reply).now = s.now ∧ (s.helloHeard r holding reply).rank = s.rank ∧
    (s.helloHeard r holding reply).cfg = s.cfg ∧ (s.helloHeard r holding reply).cfl = s.cfl ∧
    (s.helloHeard r holding reply).ssl = s.ssl ∧ (s.helloHeard r holding reply).pcl = s.pcl ∧
    (s.helloHeard r holding reply).tmu = s.tmu ∧ (s.helloHeard r holding reply).bsv = s.bsv ∧
    (s.helloHeard r holding reply).lamps = s.lamps ∧ (s.helloHeard r holding reply).pending = s.pending := by
  simp only [State.helloHeard]
  repeat' split
  all_goals simp

@[simp] theorem State.joinExpires_frame (s : State) :
    (s.joinExpires).now = s.now ∧ (s.joinExpires).rank = s.rank ∧ (s.joinExpires).cfg = s.cfg ∧ (s.joinExpires).cfl = s.cfl ∧
    (s.joinExpires).ssl = s.ssl ∧ (s.joinExpires).pcl = s.pcl ∧ (s.joinExpires).tmu = s.tmu ∧ (s.joinExpires).bsv = s.bsv ∧
    (s.joinExpires).lamps = s.lamps ∧ (s.joinExpires).pending = s.pending := by
  simp [State.joinExpires]

@[simp] theorem State.seatByBid_frame (s : State) :
    (s.seatByBid).now = s.now ∧ (s.seatByBid).rank = s.rank ∧ (s.seatByBid).cfg = s.cfg ∧ (s.seatByBid).cfl = s.cfl ∧
    (s.seatByBid).ssl = s.ssl ∧ (s.seatByBid).pcl = s.pcl ∧ (s.seatByBid).tmu = s.tmu ∧ (s.seatByBid).bsv = s.bsv ∧
    (s.seatByBid).lamps = s.lamps ∧ (s.seatByBid).pending = s.pending := by
  simp [State.seatByBid]

@[simp] theorem State.loseRound_frame (s : State) :
    (s.loseRound).now = s.now ∧ (s.loseRound).rank = s.rank ∧ (s.loseRound).cfg = s.cfg ∧ (s.loseRound).cfl = s.cfl ∧
    (s.loseRound).ssl = s.ssl ∧ (s.loseRound).pcl = s.pcl ∧ (s.loseRound).tmu = s.tmu ∧ (s.loseRound).bsv = s.bsv ∧
    (s.loseRound).lct = s.lct ∧ (s.loseRound).roster = s.roster ∧ (s.loseRound).lamps = s.lamps ∧
    (s.loseRound).pending = s.pending := by
  simp [State.loseRound]

@[simp] theorem State.bidExpires_frame (s : State) :
    (s.bidExpires).now = s.now ∧ (s.bidExpires).rank = s.rank ∧ (s.bidExpires).cfg = s.cfg ∧ (s.bidExpires).cfl = s.cfl ∧
    (s.bidExpires).ssl = s.ssl ∧ (s.bidExpires).pcl = s.pcl ∧ (s.bidExpires).tmu = s.tmu ∧ (s.bidExpires).bsv = s.bsv ∧
    (s.bidExpires).lamps = s.lamps ∧ (s.bidExpires).pending = s.pending := by
  simp only [State.bidExpires]
  repeat' split
  all_goals simp

@[simp] theorem State.seatWaitExpires_frame (s : State) :
    (s.seatWaitExpires).now = s.now ∧ (s.seatWaitExpires).rank = s.rank ∧ (s.seatWaitExpires).cfg = s.cfg ∧
    (s.seatWaitExpires).cfl = s.cfl ∧ (s.seatWaitExpires).ssl = s.ssl ∧ (s.seatWaitExpires).pcl = s.pcl ∧
    (s.seatWaitExpires).tmu = s.tmu ∧ (s.seatWaitExpires).bsv = s.bsv ∧ (s.seatWaitExpires).lamps = s.lamps ∧
    (s.seatWaitExpires).pending = s.pending := by
  simp [State.seatWaitExpires]

@[simp] theorem State.withChan_frame (s : State) (ch : Channel) (c : CoinChannel) :
    (s.withChan ch c).now = s.now ∧ (s.withChan ch c).rank = s.rank ∧ (s.withChan ch c).cfg = s.cfg ∧
    (s.withChan ch c).cfl = s.cfl ∧ (s.withChan ch c).ssl = s.ssl ∧ (s.withChan ch c).pcl = s.pcl ∧
    (s.withChan ch c).bus = s.bus ∧ (s.withChan ch c).tmu = s.tmu ∧ (s.withChan ch c).bsv = s.bsv ∧
    (s.withChan ch c).osw = s.osw ∧ (s.withChan ch c).fsg = s.fsg ∧ (s.withChan ch c).lct = s.lct ∧
    (s.withChan ch c).spe = s.spe ∧ (s.withChan ch c).roster = s.roster ∧ (s.withChan ch c).cmp = s.cmp ∧
    (s.withChan ch c).ovg = s.ovg ∧ (s.withChan ch c).mnu = s.mnu ∧ (s.withChan ch c).lamps = s.lamps ∧
    (s.withChan ch c).pending = s.pending := by
  simp [State.withChan]

@[simp] theorem State.closureBegins_frame (s : State) (ch : Channel) (start : Moment) :
    (s.closureBegins ch start).now = s.now ∧ (s.closureBegins ch start).rank = s.rank ∧ (s.closureBegins ch start).cfg = s.cfg ∧
    (s.closureBegins ch start).cfl = s.cfl ∧ (s.closureBegins ch start).ssl = s.ssl ∧ (s.closureBegins ch start).pcl = s.pcl ∧
    (s.closureBegins ch start).bus = s.bus ∧ (s.closureBegins ch start).tmu = s.tmu ∧ (s.closureBegins ch start).bsv = s.bsv ∧
    (s.closureBegins ch start).osw = s.osw ∧ (s.closureBegins ch start).fsg = s.fsg ∧ (s.closureBegins ch start).lct = s.lct ∧
    (s.closureBegins ch start).spe = s.spe ∧ (s.closureBegins ch start).roster = s.roster ∧
    (s.closureBegins ch start).cmp = s.cmp ∧ (s.closureBegins ch start).ovg = s.ovg ∧ (s.closureBegins ch start).mnu = s.mnu ∧
    (s.closureBegins ch start).lamps = s.lamps ∧ (s.closureBegins ch start).pending = s.pending := by
  simp [State.closureBegins]

@[simp] theorem State.closureEnds_frame (s : State) (ch : Channel) :
    (s.closureEnds ch).now = s.now ∧ (s.closureEnds ch).rank = s.rank ∧ (s.closureEnds ch).cfg = s.cfg ∧
    (s.closureEnds ch).cfl = s.cfl ∧ (s.closureEnds ch).ssl = s.ssl ∧ (s.closureEnds ch).pcl = s.pcl ∧
    (s.closureEnds ch).bus = s.bus ∧ (s.closureEnds ch).tmu = s.tmu ∧ (s.closureEnds ch).bsv = s.bsv ∧
    (s.closureEnds ch).osw = s.osw ∧ (s.closureEnds ch).fsg = s.fsg ∧ (s.closureEnds ch).lct = s.lct ∧
    (s.closureEnds ch).spe = s.spe ∧ (s.closureEnds ch).roster = s.roster ∧ (s.closureEnds ch).cmp = s.cmp ∧
    (s.closureEnds ch).ovg = s.ovg ∧ (s.closureEnds ch).mnu = s.mnu ∧ (s.closureEnds ch).lamps = s.lamps ∧
    (s.closureEnds ch).pending = s.pending := by
  simp [State.closureEnds]

@[simp] theorem State.latchJam_frame (s : State) (ch : Channel) :
    (s.latchJam ch).now = s.now ∧ (s.latchJam ch).rank = s.rank ∧ (s.latchJam ch).cfg = s.cfg ∧ (s.latchJam ch).cfl = s.cfl ∧
    (s.latchJam ch).ssl = s.ssl ∧ (s.latchJam ch).pcl = s.pcl ∧ (s.latchJam ch).bus = s.bus ∧ (s.latchJam ch).tmu = s.tmu ∧
    (s.latchJam ch).bsv = s.bsv ∧ (s.latchJam ch).osw = s.osw ∧ (s.latchJam ch).fsg = s.fsg ∧ (s.latchJam ch).lct = s.lct ∧
    (s.latchJam ch).spe = s.spe ∧ (s.latchJam ch).roster = s.roster ∧ (s.latchJam ch).cmp = s.cmp ∧ (s.latchJam ch).ovg = s.ovg ∧
    (s.latchJam ch).mnu = s.mnu ∧ (s.latchJam ch).lamps = s.lamps ∧ (s.latchJam ch).pending = s.pending := by
  simp [State.latchJam]

@[simp] theorem State.countCoin_frame (s : State) (ch : Channel) :
    (s.countCoin ch).now = s.now ∧ (s.countCoin ch).rank = s.rank ∧ (s.countCoin ch).cfg = s.cfg ∧ (s.countCoin ch).cfl = s.cfl ∧
    (s.countCoin ch).ssl = s.ssl ∧ (s.countCoin ch).pcl = s.pcl ∧ (s.countCoin ch).bus = s.bus ∧ (s.countCoin ch).tmu = s.tmu ∧
    (s.countCoin ch).bsv = s.bsv ∧ (s.countCoin ch).osw = s.osw ∧ (s.countCoin ch).fsg = s.fsg ∧ (s.countCoin ch).lct = s.lct ∧
    (s.countCoin ch).roster = s.roster ∧ (s.countCoin ch).cmp = s.cmp ∧ (s.countCoin ch).ovg = s.ovg ∧
    (s.countCoin ch).mnu = s.mnu ∧ (s.countCoin ch).lamps = s.lamps ∧ (s.countCoin ch).pending = s.pending := by
  simp only [State.countCoin]
  repeat' split
  all_goals simp

@[simp] theorem State.closureJudged_frame (s : State) (ch : Channel) (start stop : Moment) :
    (s.closureJudged ch start stop).now = s.now ∧ (s.closureJudged ch start stop).rank = s.rank ∧
    (s.closureJudged ch start stop).cfg = s.cfg ∧ (s.closureJudged ch start stop).cfl = s.cfl ∧
    (s.closureJudged ch start stop).ssl = s.ssl ∧ (s.closureJudged ch start stop).pcl = s.pcl ∧
    (s.closureJudged ch start stop).bus = s.bus ∧ (s.closureJudged ch start stop).tmu = s.tmu ∧
    (s.closureJudged ch start stop).bsv = s.bsv ∧ (s.closureJudged ch start stop).osw = s.osw ∧
    (s.closureJudged ch start stop).fsg = s.fsg ∧ (s.closureJudged ch start stop).lct = s.lct ∧
    (s.closureJudged ch start stop).roster = s.roster ∧ (s.closureJudged ch start stop).cmp = s.cmp ∧
    (s.closureJudged ch start stop).ovg = s.ovg ∧ (s.closureJudged ch start stop).mnu = s.mnu ∧
    (s.closureJudged ch start stop).lamps = s.lamps ∧ (s.closureJudged ch start stop).pending = s.pending := by
  simp only [State.closureJudged]
  repeat' split
  all_goals simp

@[simp] theorem State.closureJams_frame (s : State) (ch : Channel) :
    (s.closureJams ch).now = s.now ∧ (s.closureJams ch).rank = s.rank ∧ (s.closureJams ch).cfg = s.cfg ∧
    (s.closureJams ch).cfl = s.cfl ∧ (s.closureJams ch).ssl = s.ssl ∧ (s.closureJams ch).pcl = s.pcl ∧
    (s.closureJams ch).bus = s.bus ∧ (s.closureJams ch).tmu = s.tmu ∧ (s.closureJams ch).bsv = s.bsv ∧
    (s.closureJams ch).osw = s.osw ∧ (s.closureJams ch).fsg = s.fsg ∧ (s.closureJams ch).lct = s.lct ∧
    (s.closureJams ch).spe = s.spe ∧ (s.closureJams ch).roster = s.roster ∧ (s.closureJams ch).cmp = s.cmp ∧
    (s.closureJams ch).ovg = s.ovg ∧ (s.closureJams ch).mnu = s.mnu ∧ (s.closureJams ch).lamps = s.lamps ∧
    (s.closureJams ch).pending = s.pending := by
  simp only [State.closureJams]
  all_goals simp

@[simp] theorem State.pulseEnds_frame (s : State) (ch : Channel) :
    (s.pulseEnds ch).now = s.now ∧ (s.pulseEnds ch).rank = s.rank ∧ (s.pulseEnds ch).cfg = s.cfg ∧ (s.pulseEnds ch).cfl = s.cfl ∧
    (s.pulseEnds ch).ssl = s.ssl ∧ (s.pulseEnds ch).pcl = s.pcl ∧ (s.pulseEnds ch).bus = s.bus ∧ (s.pulseEnds ch).tmu = s.tmu ∧
    (s.pulseEnds ch).bsv = s.bsv ∧ (s.pulseEnds ch).osw = s.osw ∧ (s.pulseEnds ch).fsg = s.fsg ∧ (s.pulseEnds ch).lct = s.lct ∧
    (s.pulseEnds ch).spe = s.spe ∧ (s.pulseEnds ch).roster = s.roster ∧ (s.pulseEnds ch).cmp = s.cmp ∧
    (s.pulseEnds ch).ovg = s.ovg ∧ (s.pulseEnds ch).mnu = s.mnu ∧ (s.pulseEnds ch).lamps = s.lamps ∧
    (s.pulseEnds ch).pending = s.pending := by
  simp [State.pulseEnds]

@[simp] theorem State.gapEnds_frame (s : State) (ch : Channel) :
    (s.gapEnds ch).now = s.now ∧ (s.gapEnds ch).rank = s.rank ∧ (s.gapEnds ch).cfg = s.cfg ∧ (s.gapEnds ch).cfl = s.cfl ∧
    (s.gapEnds ch).ssl = s.ssl ∧ (s.gapEnds ch).pcl = s.pcl ∧ (s.gapEnds ch).bus = s.bus ∧ (s.gapEnds ch).tmu = s.tmu ∧
    (s.gapEnds ch).bsv = s.bsv ∧ (s.gapEnds ch).osw = s.osw ∧ (s.gapEnds ch).fsg = s.fsg ∧ (s.gapEnds ch).lct = s.lct ∧
    (s.gapEnds ch).spe = s.spe ∧ (s.gapEnds ch).roster = s.roster ∧ (s.gapEnds ch).cmp = s.cmp ∧ (s.gapEnds ch).ovg = s.ovg ∧
    (s.gapEnds ch).mnu = s.mnu ∧ (s.gapEnds ch).lamps = s.lamps ∧ (s.gapEnds ch).pending = s.pending := by
  simp [State.gapEnds]

@[simp] theorem State.touchBrowse_frame (s : State) :
    (s.touchBrowse).now = s.now ∧ (s.touchBrowse).rank = s.rank ∧ (s.touchBrowse).cfg = s.cfg ∧ (s.touchBrowse).cfl = s.cfl ∧
    (s.touchBrowse).ssl = s.ssl ∧ (s.touchBrowse).pcl = s.pcl ∧ (s.touchBrowse).bus = s.bus ∧ (s.touchBrowse).tmu = s.tmu ∧
    (s.touchBrowse).bsv = s.bsv ∧ (s.touchBrowse).osw = s.osw ∧ (s.touchBrowse).fsg = s.fsg ∧ (s.touchBrowse).lct = s.lct ∧
    (s.touchBrowse).spe = s.spe ∧ (s.touchBrowse).roster = s.roster ∧ (s.touchBrowse).cnu = s.cnu ∧ (s.touchBrowse).cmp = s.cmp ∧
    (s.touchBrowse).ovg = s.ovg ∧ (s.touchBrowse).lamps = s.lamps ∧ (s.touchBrowse).pending = s.pending := by
  simp only [State.touchBrowse]
  repeat' split
  all_goals simp

@[simp] theorem State.moveCursor_frame (s : State) (r : Rank) :
    (s.moveCursor r).now = s.now ∧ (s.moveCursor r).rank = s.rank ∧ (s.moveCursor r).cfg = s.cfg ∧ (s.moveCursor r).cfl = s.cfl ∧
    (s.moveCursor r).ssl = s.ssl ∧ (s.moveCursor r).pcl = s.pcl ∧ (s.moveCursor r).bus = s.bus ∧ (s.moveCursor r).tmu = s.tmu ∧
    (s.moveCursor r).bsv = s.bsv ∧ (s.moveCursor r).osw = s.osw ∧ (s.moveCursor r).fsg = s.fsg ∧ (s.moveCursor r).lct = s.lct ∧
    (s.moveCursor r).spe = s.spe ∧ (s.moveCursor r).roster = s.roster ∧ (s.moveCursor r).cnu = s.cnu ∧
    (s.moveCursor r).cmp = s.cmp ∧ (s.moveCursor r).ovg = s.ovg ∧ (s.moveCursor r).lamps = s.lamps ∧
    (s.moveCursor r).pending = s.pending := by
  simp [State.moveCursor]

@[simp] theorem State.pickEntry_frame (s : State) :
    (s.pickEntry).now = s.now ∧ (s.pickEntry).rank = s.rank ∧ (s.pickEntry).cfg = s.cfg ∧ (s.pickEntry).cfl = s.cfl ∧
    (s.pickEntry).ssl = s.ssl ∧ (s.pickEntry).pcl = s.pcl ∧ (s.pickEntry).tmu = s.tmu ∧ (s.pickEntry).bsv = s.bsv ∧
    (s.pickEntry).lamps = s.lamps ∧ (s.pickEntry).pending = s.pending := by
  simp only [State.pickEntry]
  repeat' split
  all_goals simp

@[simp] theorem State.browseKey_frame (s : State) (k : Key) :
    (s.browseKey k).now = s.now ∧ (s.browseKey k).rank = s.rank ∧ (s.browseKey k).cfg = s.cfg ∧ (s.browseKey k).cfl = s.cfl ∧
    (s.browseKey k).ssl = s.ssl ∧ (s.browseKey k).pcl = s.pcl ∧ (s.browseKey k).tmu = s.tmu ∧ (s.browseKey k).bsv = s.bsv ∧
    (s.browseKey k).lamps = s.lamps ∧ (s.browseKey k).pending = s.pending := by
  simp only [State.browseKey]
  repeat' split
  all_goals simp

@[simp] theorem State.serviceKey_frame (s : State) (k : Key) :
    (s.serviceKey k).now = s.now ∧ (s.serviceKey k).rank = s.rank ∧ (s.serviceKey k).cfg = s.cfg ∧ (s.serviceKey k).cfl = s.cfl ∧
    (s.serviceKey k).pcl = s.pcl ∧ (s.serviceKey k).lamps = s.lamps ∧ (s.serviceKey k).pending = s.pending := by
  simp only [State.serviceKey]
  repeat' split
  all_goals simp

@[simp] theorem State.startSelect_frame (s : State) (k : Key) :
    (s.startSelect k).now = s.now ∧ (s.startSelect k).rank = s.rank ∧ (s.startSelect k).cfg = s.cfg ∧
    (s.startSelect k).cfl = s.cfl ∧ (s.startSelect k).ssl = s.ssl ∧ (s.startSelect k).pcl = s.pcl ∧
    (s.startSelect k).bus = s.bus ∧ (s.startSelect k).tmu = s.tmu ∧ (s.startSelect k).bsv = s.bsv ∧
    (s.startSelect k).osw = s.osw ∧ (s.startSelect k).fsg = s.fsg ∧ (s.startSelect k).lct = s.lct ∧
    (s.startSelect k).spe = s.spe ∧ (s.startSelect k).roster = s.roster ∧ (s.startSelect k).cnu = s.cnu ∧
    (s.startSelect k).cmp = s.cmp ∧ (s.startSelect k).ovg = s.ovg ∧ (s.startSelect k).lamps = s.lamps ∧
    (s.startSelect k).pending = s.pending := by
  simp only [State.startSelect]
  repeat' split
  all_goals simp

@[simp] theorem State.menuKey_frame (s : State) (k : Key) :
    (s.menuKey k).now = s.now ∧ (s.menuKey k).rank = s.rank ∧ (s.menuKey k).cfg = s.cfg ∧ (s.menuKey k).cfl = s.cfl ∧
    (s.menuKey k).pcl = s.pcl ∧ (s.menuKey k).lamps = s.lamps ∧ (s.menuKey k).pending = s.pending := by
  simp only [State.menuKey]
  repeat' split
  all_goals simp

@[simp] theorem State.menuPress_frame (s : State) (i : PanelInput) :
    (s.menuPress i).now = s.now ∧ (s.menuPress i).rank = s.rank ∧ (s.menuPress i).cfg = s.cfg ∧ (s.menuPress i).cfl = s.cfl ∧
    (s.menuPress i).pcl = s.pcl ∧ (s.menuPress i).lamps = s.lamps ∧ (s.menuPress i).pending = s.pending := by
  simp only [State.menuPress]
  repeat' split
  all_goals simp

@[simp] theorem State.pressed_frame (s : State) (i : PanelInput) :
    (s.pressed i).now = s.now ∧ (s.pressed i).rank = s.rank ∧ (s.pressed i).cfg = s.cfg ∧ (s.pressed i).cfl = s.cfl ∧
    (s.pressed i).pcl = s.pcl ∧ (s.pressed i).lamps = s.lamps ∧ (s.pressed i).pending = s.pending := by
  simp [State.pressed]

@[simp] theorem State.menuRelease_frame (s : State) (i : PanelInput) :
    (s.menuRelease i).now = s.now ∧ (s.menuRelease i).rank = s.rank ∧ (s.menuRelease i).cfg = s.cfg ∧
    (s.menuRelease i).cfl = s.cfl ∧ (s.menuRelease i).ssl = s.ssl ∧ (s.menuRelease i).pcl = s.pcl ∧
    (s.menuRelease i).bus = s.bus ∧ (s.menuRelease i).tmu = s.tmu ∧ (s.menuRelease i).bsv = s.bsv ∧
    (s.menuRelease i).osw = s.osw ∧ (s.menuRelease i).fsg = s.fsg ∧ (s.menuRelease i).lct = s.lct ∧
    (s.menuRelease i).spe = s.spe ∧ (s.menuRelease i).roster = s.roster ∧ (s.menuRelease i).cnu = s.cnu ∧
    (s.menuRelease i).cmp = s.cmp ∧ (s.menuRelease i).ovg = s.ovg ∧ (s.menuRelease i).lamps = s.lamps ∧
    (s.menuRelease i).pending = s.pending := by
  simp only [State.menuRelease]
  repeat' split
  all_goals simp

@[simp] theorem State.released_frame (s : State) (i : PanelInput) :
    (s.released i).now = s.now ∧ (s.released i).rank = s.rank ∧ (s.released i).cfg = s.cfg ∧ (s.released i).cfl = s.cfl ∧
    (s.released i).ssl = s.ssl ∧ (s.released i).pcl = s.pcl ∧ (s.released i).bus = s.bus ∧ (s.released i).tmu = s.tmu ∧
    (s.released i).bsv = s.bsv ∧ (s.released i).osw = s.osw ∧ (s.released i).fsg = s.fsg ∧ (s.released i).lct = s.lct ∧
    (s.released i).spe = s.spe ∧ (s.released i).roster = s.roster ∧ (s.released i).cnu = s.cnu ∧ (s.released i).ovg = s.ovg ∧
    (s.released i).lamps = s.lamps ∧ (s.released i).pending = s.pending := by
  simp [State.released]

@[simp] theorem State.selectExpires_frame (s : State) :
    (s.selectExpires).now = s.now ∧ (s.selectExpires).rank = s.rank ∧ (s.selectExpires).cfg = s.cfg ∧
    (s.selectExpires).cfl = s.cfl ∧ (s.selectExpires).ssl = s.ssl ∧ (s.selectExpires).pcl = s.pcl ∧
    (s.selectExpires).bus = s.bus ∧ (s.selectExpires).tmu = s.tmu ∧ (s.selectExpires).bsv = s.bsv ∧
    (s.selectExpires).osw = s.osw ∧ (s.selectExpires).fsg = s.fsg ∧ (s.selectExpires).lct = s.lct ∧
    (s.selectExpires).spe = s.spe ∧ (s.selectExpires).roster = s.roster ∧ (s.selectExpires).cnu = s.cnu ∧
    (s.selectExpires).ovg = s.ovg ∧ (s.selectExpires).lamps = s.lamps ∧ (s.selectExpires).pending = s.pending := by
  simp only [State.selectExpires]
  repeat' split
  all_goals simp

@[simp] theorem State.noticeExpires_frame (s : State) :
    (s.noticeExpires).now = s.now ∧ (s.noticeExpires).rank = s.rank ∧ (s.noticeExpires).cfg = s.cfg ∧
    (s.noticeExpires).cfl = s.cfl ∧ (s.noticeExpires).ssl = s.ssl ∧ (s.noticeExpires).pcl = s.pcl ∧
    (s.noticeExpires).bus = s.bus ∧ (s.noticeExpires).tmu = s.tmu ∧ (s.noticeExpires).bsv = s.bsv ∧
    (s.noticeExpires).osw = s.osw ∧ (s.noticeExpires).fsg = s.fsg ∧ (s.noticeExpires).lct = s.lct ∧
    (s.noticeExpires).spe = s.spe ∧ (s.noticeExpires).roster = s.roster ∧ (s.noticeExpires).cnu = s.cnu ∧
    (s.noticeExpires).ovg = s.ovg ∧ (s.noticeExpires).lamps = s.lamps ∧ (s.noticeExpires).pending = s.pending := by
  simp only [State.noticeExpires]
  repeat' split
  all_goals simp

@[simp] theorem State.blinks_frame (s : State) (lamp : StatusLamp) (m : Moment) :
    (s.blinks lamp m).now = s.now ∧ (s.blinks lamp m).rank = s.rank ∧ (s.blinks lamp m).cfg = s.cfg ∧
    (s.blinks lamp m).cfl = s.cfl ∧ (s.blinks lamp m).ssl = s.ssl ∧ (s.blinks lamp m).pcl = s.pcl ∧
    (s.blinks lamp m).bus = s.bus ∧ (s.blinks lamp m).tmu = s.tmu ∧ (s.blinks lamp m).bsv = s.bsv ∧
    (s.blinks lamp m).osw = s.osw ∧ (s.blinks lamp m).fsg = s.fsg ∧ (s.blinks lamp m).lct = s.lct ∧
    (s.blinks lamp m).spe = s.spe ∧ (s.blinks lamp m).roster = s.roster ∧ (s.blinks lamp m).cnu = s.cnu ∧
    (s.blinks lamp m).cmp = s.cmp ∧ (s.blinks lamp m).ovg = s.ovg ∧ (s.blinks lamp m).mnu = s.mnu ∧
    (s.blinks lamp m).pending = s.pending := by
  simp [State.blinks]

end Sys2Proof.Machine
end

