-- ==== Sys2Proof/Laws/State.lean ====
section
/-!
SUPPORT. Field lemmas: what each update of State, and of the parts found by a key, gives of the field it writes. What it leaves as it
was stands in the frame lemmas (FrameParts, FrameScreen, FrameBoard, FrameEvents).
-/

namespace Sys2Proof.Machine

/-! ## The clock -/

@[simp] theorem State.elapse_now (s : State) (n : Nat) : (s.elapse n).now = s.now + n := rfl
@[simp] theorem State.advanceTo_now (s : State) (m : Moment) : (s.advanceTo m).now = max s.now m := rfl
@[simp] theorem State.after_eq (s : State) (d : Nat) : s.after d = some (s.now + d) := rfl
@[simp] theorem State.onExpiry_some (s : State) (due : Moment) (act : State → State) :
    s.onExpiry (some due) act = act (s.advanceTo due) := rfl
@[simp] theorem State.onExpiry_none (s : State) (act : State → State) : s.onExpiry none act = s := rfl

/-- A command's outcome is the next state that its settled effect gives. -/
theorem done_eq (s : State) : done s = .next s.settled := rfl

/-! ## Parts replaced whole -/

@[simp] theorem State.withLine_lct (s : State) (l : LineController) : (s.withLine l).lct = l := rfl
@[simp] theorem State.withPending_pending (s : State) (p : List Instr) : (s.withPending p).pending = p := rfl
@[simp] theorem State.withChan_cnu (s : State) (ch : Channel) (c : CoinChannel) : (s.withChan ch c).cnu = s.cnu.setChan ch c := rfl
@[simp] theorem State.setAttempts_bsv (s : State) (n : Nat) : (s.setAttempts n).bsv = { s.bsv with attempts := n } := rfl
@[simp] theorem State.latchOffWindow_bsv (s : State) : s.latchOffWindow.bsv = { s.bsv with offWindow := true } := rfl
@[simp] theorem State.clearTmu_tmu (s : State) : s.clearTmu.tmu = s.tmu.clear := rfl
@[simp] theorem State.coinFreeze_cnu (s : State) : s.coinFreeze.cnu = { s.cnu with duty := .late } := rfl
@[simp] theorem State.moveCursor_mnu (s : State) (r : Rank) : (s.moveCursor r).mnu = { s.mnu with cursor := r } := rfl
@[simp] theorem State.timedNotice_mnu (s : State) (n : Notice) :
    (s.timedNotice n).mnu = { s.mnu with notice := some n, noticeTimer := some (s.now + noticeTime) } := rfl
@[simp] theorem State.setView_spe (s : State) (v : Option Rank) : (s.setView v).spe = { s.spe with view := v } := rfl
@[simp] theorem State.takeEntry_lct (s : State) (e : RxEntry) : (s.takeEntry e).lct = { s.lct with rxq := s.lct.rxq.tail } := by
  simp [State.takeEntry]
@[simp] theorem State.withCauses_cfl (s : State) (c : ResetCauses) : (s.withCauses c).cfl = { s.cfl with causes := c } := rfl
@[simp] theorem State.portFails_cfl (s : State) (free : Bool) :
    (s.portFails free).cfl = { s.cfl with port := if free then .stopping s.now else .released } := rfl
@[simp] theorem LineController.stopSending_sending (l : LineController) (start : Moment) (chars : List Byte) (k i : Nat) (v : Level) :
    (l.stopSending start chars k i v).sending = none := rfl
@[simp] theorem LineController.stopSending_phase (l : LineController) (start : Moment) (chars : List Byte) (k i : Nat) (v : Level) :
    (l.stopSending start chars k i v).phase = .following start (bitsBefore chars k i ++ bitRead i v) (if i = 0 then k else k + 1) := rfl
@[simp] theorem LineController.stopSending_txq (l : LineController) (start : Moment) (chars : List Byte) (k i : Nat) (v : Level) :
    (l.stopSending start chars k i v).txq = l.txq := rfl
@[simp] theorem LineController.stopSending_attempts (l : LineController) (start : Moment) (chars : List Byte) (k i : Nat) (v : Level) :
    (l.stopSending start chars k i v).attempts = l.attempts := rfl

/-! ## Parts found by a key -/

@[simp] theorem CoinUnit.chan_setChan (u : CoinUnit) (ch : Channel) (c : CoinChannel) : (u.setChan ch c).chan ch = c := by
  cases ch <;> rfl
theorem CoinUnit.chan_setChan_ne (u : CoinUnit) (ch k : Channel) (c : CoinChannel) (h : k ≠ ch) :
    (u.setChan ch c).chan k = u.chan k := by
  cases ch <;> cases k <;> simp_all [CoinUnit.setChan, CoinUnit.chan]
@[simp] theorem CoinUnit.setChan_duty (u : CoinUnit) (ch : Channel) (c : CoinChannel) : (u.setChan ch c).duty = u.duty := by
  cases ch <;> rfl
@[simp] theorem CoinUnit.setChan_dormant (u : CoinUnit) (ch : Channel) (c : CoinChannel) :
    (u.setChan ch c).dormant = u.dormant := by
  cases ch <;> rfl
@[simp] theorem CoinUnit.setChan_cblk (u : CoinUnit) (ch : Channel) (c : CoinChannel) : (u.setChan ch c).cblk = u.cblk := by
  cases ch <;> rfl
@[simp] theorem CoinUnit.setChan_overflow (u : CoinUnit) (ch : Channel) (c : CoinChannel) :
    (u.setChan ch c).overflow = u.overflow := by
  cases ch <;> rfl
@[simp] theorem CoinUnit.setChan_lateCoins (u : CoinUnit) (ch : Channel) (c : CoinChannel) :
    (u.setChan ch c).lateCoins = u.lateCoins := by
  cases ch <;> rfl
@[simp] theorem StatusLamps.lamp_setLamp (u : StatusLamps) (l : StatusLamp) (x : Lamp) : (u.setLamp l x).lamp l = x := by
  cases l <;> rfl
theorem StatusLamps.lamp_setLamp_ne (u : StatusLamps) (l k : StatusLamp) (x : Lamp) (h : k ≠ l) :
    (u.setLamp l x).lamp k = u.lamp k := by
  cases l <;> cases k <;> simp_all [StatusLamps.setLamp, StatusLamps.lamp]

/-! ## Requests and roles -/

/-- A refused request adds to the requests alone (R98). -/
theorem Spe.recordRequest_eq (e : Spe) (r : PendingRequest) :
    e.recordRequest r = { e with requests := (e.recordRequest r).requests } := by
  unfold Spe.recordRequest; split <;> rfl
@[simp] theorem Spe.recordRequest_role (e : Spe) (r : PendingRequest) : (e.recordRequest r).role = e.role := by
  unfold Spe.recordRequest; split <;> rfl
@[simp] theorem Spe.recordRequest_view (e : Spe) (r : PendingRequest) : (e.recordRequest r).view = e.view := by
  unfold Spe.recordRequest; split <;> rfl
@[simp] theorem Spe.recordRequest_bidSet (e : Spe) (r : PendingRequest) : (e.recordRequest r).bidSet = e.bidSet := by
  unfold Spe.recordRequest; split <;> rfl
@[simp] theorem Spe.recordRequest_timers (e : Spe) (r : PendingRequest) :
    (e.recordRequest r).joinWindow = e.joinWindow ∧ (e.recordRequest r).bidWindow = e.bidWindow ∧
    (e.recordRequest r).seatWait = e.seatWait ∧ (e.recordRequest r).answerTimer = e.answerTimer ∧
    (e.recordRequest r).coinQuiet = e.coinQuiet ∧ (e.recordRequest r).passTimer = e.passTimer := by
  unfold Spe.recordRequest; split <;> simp
@[simp] theorem Spe.clearRequest_fields (e : Spe) (r : PendingRequest) :
    (e.clearRequest r).role = e.role ∧ (e.clearRequest r).bidSet = e.bidSet ∧ (e.clearRequest r).view = e.view ∧
    (e.clearRequest r).joinWindow = e.joinWindow ∧ (e.clearRequest r).bidWindow = e.bidWindow ∧
    (e.clearRequest r).seatWait = e.seatWait ∧ (e.clearRequest r).answerTimer = e.answerTimer ∧
    (e.clearRequest r).coinQuiet = e.coinQuiet ∧ (e.clearRequest r).passTimer = e.passTimer := by
  simp [Spe.clearRequest]
@[simp] theorem Spe.enterRole_role (e : Spe) (r : Role) : (e.enterRole r).role = r := rfl
@[simp] theorem Spe.enterRole_view (e : Spe) (r : Role) : (e.enterRole r).view = e.view := rfl
@[simp] theorem Spe.enterRole_withdrawal (e : Spe) (r : Role) : (e.enterRole r).withdrawal = e.withdrawal := rfl

/-! ## What follows the state -/

/-- Lamps and cells follow; every other part stays. -/
@[simp] theorem State.settled_frame (s : State) :
    s.settled.now = s.now ∧ s.settled.rank = s.rank ∧ s.settled.cfg = s.cfg ∧ s.settled.cfl = s.cfl ∧
    s.settled.ssl = s.ssl ∧ s.settled.pcl = s.pcl ∧ s.settled.bus = s.bus ∧ s.settled.tmu = s.tmu ∧
    s.settled.bsv = s.bsv ∧ s.settled.osw = s.osw ∧ s.settled.fsg = s.fsg ∧ s.settled.lct = s.lct ∧
    s.settled.spe = s.spe ∧ s.settled.roster = s.roster ∧ s.settled.cnu = s.cnu ∧ s.settled.cmp = s.cmp ∧
    s.settled.mnu = s.mnu ∧ s.settled.pending = s.pending ∧
    s.settled.ovg.count = s.ovg.count ∧ s.settled.ovg.draw = s.ovg.draw ∧ s.settled.ovg.row = s.ovg.row := by
  simp only [State.settled, State.refreshLamps, State.refreshCells, and_self]

/-- A lamp that follows its pattern goes on following it. -/
theorem Lamp.follow_follow (l : Lamp) (now : Moment) (p : LampPattern) : (l.follow now p).follow now p = l.follow now p := by
  simp only [Lamp.follow]; split <;> simp_all

/-- The lamps at the end of a command (R182). -/
@[simp] theorem State.settled_lamps (s : State) : s.settled.lamps =
    { st0 := s.lamps.st0.follow s.now s.st0Pattern, st1 := s.lamps.st1.follow s.now s.st1Pattern
      st2 := s.lamps.st2.follow s.now s.st2Pattern } := by
  simp only [State.settled, State.refreshLamps, State.refreshCells]

/-- What follows the state does not act on the roster. -/
theorem State.settled_entry (s : State) (r : Rank) : s.settled.entry r = s.entry r := by
  simp [State.entry, State.ownEntry, State.ownTitle, State.quantities]

/-- What a cell shows does not depend on lamps and cells. -/
theorem State.settled_cellContent (s : State) (r c : Nat) : s.settled.cellContent r c = s.cellContent r c := by
  simp only [State.cellContent, State.noticeCell, State.noticeLine, State.listCell, State.gameList, State.entryGlyph, State.serviceCell, State.settled_frame, State.settled_entry]
  have h : s.settled.listed = s.listed := by funext k; simp [State.listed, State.settled_entry]
  have h2 : s.settled.presenceMark = s.presenceMark := by funext k; simp [State.presenceMark, State.settled_entry]
  have h3 : s.settled.servicePieces r = s.servicePieces r := by
    unfold State.servicePieces; rw [h2]; simp only [State.settled_frame]
  rw [h, h3]

/-- The cell memory at the end of a command (R173, R174). -/
theorem State.settled_cells (s : State) :
    s.settled.ovg.cells = Vector.ofFn (fun i => s.cellContent (i.val / 24) (i.val % 24)) := by
  simp only [State.settled, State.refreshLamps, State.refreshCells]
  rfl

/-- Lamps and cells alone follow. -/
theorem State.settled_eq (s : State) :
    s.settled = { s with lamps := s.settled.lamps, ovg := { s.ovg with cells := s.settled.ovg.cells } } := by
  simp only [State.settled, State.refreshLamps, State.refreshCells]

/-- A state whose lamps and cells have followed stays as it is. -/
theorem State.settled_settled (s : State) : s.settled.settled = s.settled := by
  rw [State.settled_eq s.settled]
  have hl : s.settled.settled.lamps = s.settled.lamps := by
    simp [State.st0Pattern, State.st1Pattern, State.st2Pattern, State.anyFault, Lamp.follow_follow]
  have hc : s.settled.settled.ovg.cells = s.settled.ovg.cells := by
    rw [State.settled_cells, State.settled_cells]; simp only [State.settled_cellContent]
  rw [hl, hc]

end Sys2Proof.Machine
end

