-- ==== Sys2Proof/Laws/Spec.lean ====
section
/-!
SUPPORT. What the shared operations can do: for each, one lemma that says it once, so that a proof cites it and does not unfold the
operation.
-/

namespace Sys2Proof.Machine

/-! ## Roles, views and the menu -/

/-- A role entered leaves the engine in that role, with what the role does not keep stopped and cleared (R96, R98). -/
theorem State.setRole_spe (s : State) (r : Role) :
    (s.setRole r).spe = if s.spe.role = r then s.spe else s.spe.enterRole r := by
  unfold State.setRole
  split <;> simp

/-- After a role is entered it is the role. -/
@[simp] theorem State.setRole_role (s : State) (r : Role) : (s.setRole r).spe.role = r := by
  rw [State.setRole_spe]
  split <;> simp_all

/-- Entering a role does not move the view. -/
@[simp] theorem State.setRole_view (s : State) (r : Role) : (s.setRole r).spe.view = s.spe.view := by
  rw [State.setRole_spe]
  split <;> simp

/-- A menu state entered moves the state alone. -/
theorem State.setMenu_mnu (s : State) (st : MenuState) : (s.setMenu st).mnu = { s.mnu with state := st } := by
  unfold State.setMenu
  split
  · next h => rw [← h]
  · simp

/-- CLOSED: no text, no notice timer, no browse timer (R167). -/
theorem State.closeMenu_mnu (s : State) :
    s.closeMenu.mnu = { s.mnu with state := .closed, notice := none, noticeTimer := none, browseTimer := none } := by
  simp [State.closeMenu, State.setMenu_mnu]

/-- BROWSE: the browse timer runs for 20 s (R170). -/
theorem State.enterBrowse_mnu (s : State) :
    s.enterBrowse.mnu = { s.mnu with state := .browse, browseTimer := some (s.now + browseTime) } := by
  simp [State.enterBrowse, State.setMenu_mnu]

/-! ## Board states -/

/-- A board state entered gives the supervisor that `Supervisor.enter` gives; no block it is handed to acts on the supervisor (R40). -/
theorem State.enterBoard_bsv (s : State) (b : BoardState) (f : Option Moment) :
    (s.enterBoard b f).bsv = s.bsv.enter s.now s.quantities b := by
  simp [State.enterBoard]

/-- The same with CLEAR before it (R24). -/
theorem State.enterBoardCleared_bsv (s : State) (b : BoardState) :
    (s.enterBoardCleared b).bsv = s.bsv.enter s.now s.quantities b := by
  simp [State.enterBoardCleared, State.enterBoard_bsv, State.quantities]

/-- CLEAR reaches the measurement unit alone, and what follows leaves it (R24). -/
theorem State.enterBoardCleared_tmu (s : State) (b : BoardState) : (s.enterBoardCleared b).tmu = s.tmu.clear := by
  simp [State.enterBoardCleared]

/-! ## The transmit queue -/

/-- A frame begun stays in the queue. -/
@[simp] theorem LineController.beginIfReady_txq (l : LineController) (now : Moment) : (l.beginIfReady now).txq = l.txq := by
  unfold LineController.beginIfReady LineController.beginFrame
  repeat' split
  all_goals rfl

/-- An enqueue adds the frame behind the others, puts it in the place of the waiting one it replaces, or leaves the queue (R76). -/
theorem LineController.enqueue_txq (l : LineController) (now : Moment) (f : Frame) :
    (l.enqueue now f).txq = match l.answerTo f with
      | .accepted => l.txq ++ [f]
      | .replaced => replaceInQueue f l.txq
      | .refused => l.txq
      | .reported => l.txq := by
  unfold LineController.enqueue
  cases l.answerTo f <;> simp

/-- A replacement keeps the number of frames. -/
@[simp] theorem replaceWaiting_length (f : Frame) (q : List Frame) : (replaceWaiting f q).length = q.length := by
  induction q with
  | nil => rfl
  | cons g rest ih => simp only [replaceWaiting]; split <;> simp [ih]

@[simp] theorem replaceInQueue_length (f : Frame) (q : List Frame) : (replaceInQueue f q).length = q.length := by
  cases q <;> simp [replaceInQueue]

/-- A frame is ACCEPTED only while there is room for it (R76). -/
theorem LineController.answerTo_accepted (l : LineController) (f : Frame) (h : l.answerTo f = .accepted) :
    l.mode = .running ∧ l.stuck = false ∧ waitingMatch f l.txq = false ∧ l.txq.length < queueLimit := by
  unfold LineController.answerTo at h
  repeat' split at h
  all_goals simp_all

/-- An enqueue never takes the queue above four frames (R76). -/
theorem LineController.enqueue_length (l : LineController) (now : Moment) (f : Frame) (h : l.txq.length ≤ queueLimit) :
    (l.enqueue now f).txq.length ≤ queueLimit := by
  rw [LineController.enqueue_txq]
  split
  · next ha => have := (l.answerTo_accepted f ha).2.2.2; simp only [List.length_append, List.length_singleton]; omega
  all_goals simpa using h

/-- A frame sent on a working line with room, not idle and without a waiting frame of its kind and target, joins the queue (R76). -/
theorem State.send_joins (s : State) (r : PendingRequest) (hm : s.lct.mode = .running) (hs : s.lct.stuck = false)
    (hp : s.lct.phase ≠ .idle) (hl : s.lct.txq.length < queueLimit) (hw : waitingMatch (s.buildFrame r) s.lct.txq = false) :
    s.send r = { s with lct := { s.lct with
      txq := s.lct.txq ++ [s.buildFrame r], attempts := if s.lct.txq.isEmpty then 0 else s.lct.attempts } } := by
  have ha : s.lct.answerTo (s.buildFrame r) = .accepted := by
    simp [LineController.answerTo, hm, hs, hw, hl]
  have hb (q : List Frame) (n : Nat) :
      { s.lct with txq := q, attempts := n }.beginIfReady s.now = { s.lct with txq := q, attempts := n } := by
    unfold LineController.beginIfReady
    split
    · next h _ _ => exact absurd h hp
    · rfl
  simp [State.send, State.answerTo, State.tryEnqueue, ha, LineController.enqueue, hb]

/-! ## Reports -/

/-- A frame that was not delivered is reported UNHEARD if broadcast and UNDELIVERED if addressed (R69, R79). -/
theorem failedReport_eq (f : Frame) : failedReport f = if f.target = .all then .unheard else .undelivered := by
  unfold failedReport Frame.addressed
  cases f.target <;> simp

/-- The queue's frames are reported in order, each by `State.report` (R79). -/
theorem State.reportAll_eq (s : State) (q : List Frame) :
    s.reportAll q = q.foldl (fun u f => u.report (if f.target = .all then .unheard else .undelivered) f) s := by
  induction q generalizing s with
  | nil => rfl
  | cons f rest ih => rw [State.reportAll, ih, failedReport_eq]; rfl

/-! ## Coins -/

/-- An increase of a pending count, held at 31 (R140). -/
theorem addCoins_le (n more : Nat) : addCoins n more ≤ 31 := by
  unfold addCoins coinLimit; omega

/-- The IDLE check begins a pulse or changes nothing (R145). -/
theorem State.idleCheck_cnu (s : State) (ch : Channel) :
    (s.idleCheck ch).cnu =
      if s.cnu.dormant = false ∧ (s.cnu.chan ch).delivery = .idle ∧ 0 < (s.cnu.chan ch).pending ∧ s.bsv.board = .ready then
        s.cnu.setChan ch { s.cnu.chan ch with
          delivery := .pulse, timer := some (s.now + ms s.quantities.coinPulseMs) }
      else s.cnu := by
  simp only [State.idleCheck]
  split <;> rfl

/-! ## Counts -/

/-- A saturating count stays within its limit. -/
theorem satInc_le (limit n : Nat) : satInc limit n ≤ limit := by
  unfold satInc; split <;> omega

/-- A ring holds at most four records (R30). -/
theorem pushRecord_length (ring : List FieldRecord) (r : FieldRecord) (h : ring.length ≤ 4) :
    (pushRecord ring r).length ≤ 4 := by
  unfold pushRecord
  split
  · simp only [List.length_drop, List.length_append, List.length_singleton]; omega
  · simp only [List.length_append, List.length_singleton]; omega

/-! ## Filters, frames read, edges kept and dots -/

/-- An input has held its level no longer than it was seen to, and no longer than sampling has run (R41, R136, R150, R160). -/
theorem State.steadyFor_le (s : State) (since : Option Moment) (held : Nat) :
    s.steadyFor since held ≤ held ∧ ∀ m, since = some m → s.steadyFor since held ≤ s.now - m := by
  cases since with
  | none => exact ⟨Nat.zero_le _, nofun⟩
  | some m => exact ⟨Nat.min_le_left .., fun k h => by cases h; exact Nat.min_le_right ..⟩

/-- With no bits read, every character is read from the wire (R71). -/
@[simp] theorem readChars_nil (chars : List Byte) : readChars [] chars = chars := by
  have h (c : Byte) : readChar [] c = c := by
    simp only [readChar, List.nil_append, List.length_nil, List.drop_zero]; revert c; decide +kernel
  induction chars with
  | nil => rfl
  | cons c rest ih => simp only [readChars, List.take_nil, List.drop_nil, h, ih]

/-- Reading with some bits kept gives as many characters as the wire does (R71). -/
@[simp] theorem readChars_length (read : List Bool) (chars : List Byte) : (readChars read chars).length = chars.length := by
  induction chars generalizing read with
  | nil => rfl
  | cons c rest ih => simp only [readChars, List.length_cons, ih]

/-- A fall begins a character exactly where the node waits for one: R62, with the frame's length by R64 and R71. -/
theorem beginsChar_iff (start : Moment) (bits : List Bool) (begun : Nat) (now : Moment) (middle : Level) :
    beginsChar start bits begun now middle = true ↔
      bits.length % 8 = 0 ∧ begun ≤ bits.length / 8 ∧ start + bits.length / 8 * 4800 < now + 240 ∧ frameComplete bits = false ∧
        middle = .dominant := by
  simp only [beginsChar, Bool.and_eq_true, decide_eq_true_eq, Bool.not_eq_true', beq_iff_eq, and_assoc]
  exact Iff.rfl

/-- A fall in a followed frame aligns the count if it begins a character, and otherwise leaves it; the bits read are kept (R62, R71). -/
theorem readOn_eq (start : Moment) (read more : List Bool) (begun : Nat) (now : Moment) (middle : Level) :
    readOn start read more begun now middle =
      if beginsChar start (read ++ more) begun now middle = true then
        .following (now - (read ++ more).length / 8 * 4800) (read ++ more) ((read ++ more).length / 8 + 1)
      else .following start (read ++ more) begun := rfl

/-- The own line edges kept are those of the last 512 ticks (R110). -/
@[simp] theorem mem_keptEdges (now e : Moment) (edges : List Moment) :
    e ∈ keptEdges now edges ↔ e ∈ edges ∧ now ≤ e + 512 := by
  simp [keptEdges]

/-- The overlay dot in progress is the last that has begun, before floor(L16 / 16) (R166). -/
theorem dotAt_eq_some (l16 dots t k : Nat) (hl : 0 < l16) (hd : 0 < dots) :
    dotAt l16 dots t = some k ↔ t < l16 / 16 ∧ dotStart l16 dots k ≤ t ∧ t < dotStart l16 dots (k + 1) := by
  have hD : 0 < 16 * dots := by omega
  have hpos : 0 < (t + 1) * (16 * dots) := Nat.mul_pos (by omega) hD
  unfold dotAt dotStart
  split
  · next ht =>
    have h1 : k * l16 / (16 * dots) ≤ t ↔ k * l16 < (t + 1) * (16 * dots) := by
      rw [← Nat.lt_succ_iff, Nat.div_lt_iff_lt_mul hD]
    have h2 : t < (k + 1) * l16 / (16 * dots) ↔ (t + 1) * (16 * dots) ≤ (k + 1) * l16 := by
      rw [← Nat.succ_le_iff, Nat.le_div_iff_mul_le hD]
    have h3 : ((t + 1) * (16 * dots) - 1) / l16 = k ↔ k * l16 ≤ (t + 1) * (16 * dots) - 1 ∧ (t + 1) * (16 * dots) - 1 < (k + 1) * l16 := by
      rw [Nat.div_eq_iff hl, Nat.add_mul k 1 l16]; omega
    rw [Option.some.injEq, h1, h2, h3]
    omega
  · next ht => simp [ht]

/-! ## Cells -/

/-- A cell of the grid at the end of a command (R163, R172 to R174). -/
theorem State.settled_cell (s : State) (row : Fin 10) (c : Fin 24) :
    s.settled.cell row c = s.cellContent row.val c.val := by
  have h1 : (24 * row.val + c.val) / 24 = row.val := by omega
  have h2 : (24 * row.val + c.val) % 24 = c.val := by omega
  simp only [State.cell, State.settled_cells, Vector.getElem_ofFn, h1, h2]

end Sys2Proof.Machine
end

