-- ==== Sys2Proof/Tests/Slice0.lean ====
section
/-!
SUPPORT. Tests: an ill-formed term for each operand check, worked cases of the spec with the figures it gives, and for each statement
with hypotheses a concrete state that meets them.
-/

namespace Sys2Proof.Tests

set_option Elab.async false

open Sys2Proof.Machine

/-! ## Ill-formed operands are told -/

theorem test_wf_clock_hold : (Instr.tryFails 0 ⟨.clockHold 48000, true⟩).wf = false := by decide
theorem test_wf_reset_short : (Instr.nodeReset 0 (.nresetLow 479)).wf = false := by decide
theorem test_wf_block_short : (Instr.blockRead 0 (List.replicate 127 0#8)).wf = false := by decide +kernel
theorem test_wf_window_short : (Instr.acquisitionWindowEnd [⟨0, 19999⟩] 0).wf = false := by decide
theorem test_wf_window_empty_run : (Instr.acquisitionWindowEnd [⟨0, 20000⟩, ⟨200, 0⟩] 0).wf = false := by decide
theorem test_wf_leading_edge : (Instr.leadingEdge 0 11 0).wf = false := by decide
theorem test_wf_trailing_edge : (Instr.trailingEdge 0 11 0).wf = false := by decide
theorem test_wf_bus_edge : (Instr.busEdge 0 11 0).wf = false := by decide
theorem test_wf_present : (Instr.present 0 959999).wf = false := by decide
theorem test_wf_absent : (Instr.absent 0 959999).wf = false := by decide
theorem test_wf_first_decision : (Instr.presenceFirstDecision 0 959999).wf = false := by decide
theorem test_wf_lost_arbitration : (Instr.lostArbitration 8).wf = false := by decide
theorem test_wf_clash_character : (Instr.bitClash 31 0 .dominant).wf = false := by decide
theorem test_wf_clash_bit : (Instr.bitClash 0 10 .dominant).wf = false := by decide
theorem test_wf_frame_head_only : (Instr.frameJudged [64#8] 15#8 false).wf = false := by decide
theorem test_wf_frame_count_large : (Instr.frameJudged ([64#8, 15#8, 28#8] ++ List.replicate 28 0#8) 0#8 false).wf = false := by decide
theorem test_wf_frame_payload_missing : (Instr.frameJudged [64#8, 15#8, 1#8] 0#8 false).wf = false := by decide
theorem test_wf_closure : (Instr.closure 0 239999 .one).wf = false := by decide
theorem test_wf_detected_coin : (Instr.detectedCoin 0 239999 .two).wf = false := by decide
theorem test_wf_jammed_end : (Instr.jammedClosureEnd 0 239999 .two).wf = false := by decide
theorem test_wf_press : (Instr.press 0 47999 .service).wf = false := by decide
theorem test_wf_release : (Instr.release 0 47999 .service).wf = false := by decide
theorem test_wf_lamp : (Instr.lampLevelChange 0 47999 .bl1 true).wf = false := by decide
theorem test_wf_good_frame : (Instr.frameJudged [64#8, 15#8, 0#8] 69#8 false).wf = true := by decide

/-! ## Worked cases of the spec -/

/-- Spec 11, worked case: SEATED of rank 0 is 64, 15, 0, 69. -/
theorem test_seated_chars : frameChars 0 (Frame.mk .all .seated) = [64#8, 15#8, 0#8, 69#8] := by decide +kernel

/-- Spec 11, worked case: the register after 64 and after 64, 15. -/
theorem test_check_register : crc8 [64#8] = 199#8 ∧ crc8 [64#8, 15#8] = 118#8 := by decide

/-- Spec 04, worked case: the heads of BID of ranks 2 and 5 and of HELLO of rank 3. -/
theorem test_heads : [headChar 2 .bid, headChar 5 .bid, headChar 3 .hello] = [82#8, 85#8, 99#8] := by decide

/-- Spec 04, worked case: node 3 loses at the third data bit. -/
theorem test_third_bit : charLevel 82#8 3 = .dominant ∧ charLevel 99#8 3 = .recessive := by decide

/-- Spec 04, durations: a HELLO without a title has 11 characters, one with 20 glyphs 31. -/
theorem test_hello_lengths :
    (frameChars 1 (Frame.mk .all (.hello true false .ready 48824 524 []))).length = 11 ∧
    (frameChars 1 (Frame.mk .all (.hello true false .ready 48824 524 (List.replicate 20 1)))).length = 31 := by decide +kernel

/-- Spec 01, worked case: pair 2 takes T from 12 to 11 and B from 198 to 200. -/
theorem test_tracking : trackEighth 12 3 = 11 ∧ trackEighth 198 214 = 200 := by decide

/-- Spec 01, worked case: thresholds 105, 106 and 52. -/
theorem test_thresholds :
    thresholdOf .negative 198 (swingUsed 16 240 186) = 105 ∧ thresholdOf .negative 200 (swingUsed 16 240 189) = 106 ∧
    thresholdOf .negative 60 (swingUsed 16 240 8) = 52 := by decide

/-- Spec 02, worked cases: HL of the progressive, the interlaced and the half cases, and saturation. -/
theorem test_half_lines :
    halfLines 799501 48824 = 524 ∧ halfLines 787480 48000 = 525 ∧ halfLines 786750 48000 = 525 ∧
    halfLines 786749 48000 = 524 ∧ halfLines 4000000 48000 = 1023 := by decide

/-- Spec 03, worked case: line starts of a fill field and its length. -/
theorem test_fill_lines :
    [1, 2, 3, 4, 261, 262].map (fillLineOffset 48824) = [3051, 6103, 9154, 12206, 796441, 799493] := by decide

/-- Spec 03, worked case: the fill fields of HL 525 alternate. -/
theorem test_fill_fields :
    fillLines 525 false = 262 ∧ fillLines 525 true = 263 ∧ fillLineOffset 48000 262 = 786000 ∧
    fillLineOffset 48000 263 = 789000 := by decide

/-- Spec 10, worked case: where overlay dots begin. -/
theorem test_dots : [100, 138, 139, 287, 447].map (dotStart 48816 448) = [681, 939, 946, 1954, 3044] := by decide

/-- Spec 10, worked case: field line 109 shows line 4 of row 3, line 239 the last line of row 9. -/
theorem test_grid_lines :
    gridLine ⟨448, 96, 40, 2⟩ 109 = some 34 ∧ gridLine ⟨448, 96, 40, 2⟩ 239 = some 99 ∧
    gridLine ⟨448, 96, 40, 2⟩ 240 = none := by decide

/-- Spec 10, worked case: dot 138 lasts from tick 939 to tick 946, and no dot lasts beyond floor(L16 / 16). -/
theorem test_dot_in_progress :
    [938, 939, 945, 946, 3050, 3051].map (dotAt 48816 448) = [some 137, some 138, some 138, some 139, some 447, none] := by decide

/-- Spec 10, R165: a line's times count from its start as the bus shows it, 12 ticks after the timestamp of a board edge. -/
theorem test_line_shown :
    let c : LineCount := ⟨109, 1000000, 262⟩
    { State.reset with osw := { State.reset.osw with source := .board } }.lineShown c = 1000012 ∧
    { State.reset with osw := { State.reset.osw with source := .fill } }.lineShown c = 1000000 := by decide

/-- Spec 10, R163: the brackets leave dot 7 and lines 8 and 9 unlit. -/
theorem test_brackets : glyphDot 62 7 0 = false ∧ glyphDot 63 0 8 = false ∧ glyphDot 63 0 9 = false := by decide

/-- Spec 11, R178: straps RK0 and RK2 open give rank 5. -/
theorem test_straps : strapRank ⟨true, false, true⟩ = 5 := by decide

/-- Spec 08, R140: thirty and two are thirty-one, with overflow. -/
theorem test_coins_hold : addCoins 30 2 = 31 ∧ coinsOverflow 30 2 = true ∧ coinsOverflow 30 1 = false := by decide

/-- Spec 02, R32: DRIFT rises with the third unstable record and not with the fourth. -/
theorem test_drift_once :
    let t := { State.reset.tmu with drift := 2 }
    t.driftRaised defaultQuantities .incomplete = true ∧
    (t.join defaultQuantities .incomplete).driftRaised defaultQuantities .incomplete = false := by decide

/-- Spec 04, worked case: HELLO c takes the place of HELLO b, behind the head and the ANSWER. -/
theorem test_replaced :
    let hello (l : Nat) : Frame := .mk .all (.hello false false .ready l 0 [])
    let answer : Frame := .mk (.rank 4) (.answer 0 true .none .ready)
    replaceInQueue (hello 3) [hello 1, answer, hello 2] = [hello 1, answer, hello 3] := by decide

/-- Spec 10, R172: a notice, NO SIGNAL and nothing. -/
theorem test_notice_line :
    State.reset.noticeLine = none ∧
    { State.reset with fsg := { State.reset.fsg with active := true } }.noticeLine.isSome = true := by decide

/-! ## One step on a small state -/

/-- Whether a command goes on to a state with a property. -/
def goesTo (r : Result) (p : State → Bool) : Bool :=
  match r with
  | .next t => p t
  | _ => false

/-- The configuration of the tests: the defaults with every edge line on PL0, the four keys on PL0 to PL3, and an overlay. -/
def cfgd : Quantities :=
  { defaultQuantities with
    map := some (Vector.replicate 24 ⟨.player 0, .lowActive⟩), keys := some ⟨0, 1, 2, 3⟩, overlay := some ⟨448, 96, 40, 2⟩ }

/-- A node of rank 3 in STANDBY after a valid load, its line in the idle gap. -/
def node : State :=
  { State.reset with
    now := 1000000, rank := 3, cfg := some cfgd
    cfl := { State.reset.cfl with
      load := .endedValid, tries := 1, causes := ⟨false, false⟩, resetEnded := some 0, loadEnded := some 0 }
    lct := { State.reset.lct with mode := .running, phase := .gap 999000, stretch := some 999000 }
    cnu := { State.reset.cnu with dormant := false }
    cmp := { State.reset.cmp with dormant := false }
    bsv := { State.reset.bsv with loadPeriod := false, decided := true, present := true }
    spe := { State.reset.spe with role := .standby, firstHello := true } }

/-- The reference of the worked cases (spec 02). -/
def sig : Signature := { l16 := 48824, hl := 524, w := 226, polarity := .negative }

/-- The node in a role, its switches as R97 has them. -/
def inRole (r : Role) : State :=
  { node with
    spe := { node.spe with role := r, view := if holdsScreen r then some 3 else none }
    osw := { node.osw with
      video := if holdsScreen r then .isClosed else .isOpen
      audio := if r = .holding ∨ r = .offering then .isClosed else .isOpen } }

/-- The node in a role with the board in a state. -/
def withBoard (r : Role) (b : BoardState) : State :=
  { inRole r with bsv := { node.bsv with board := b } }

/-- The node in a role with one entry, from rank 2, at the front of its receive queue. -/
def taking (r : Role) (b : Body) : State :=
  { withBoard r .ready with lct := { node.lct with rxq := [⟨2, ⟨.all, b⟩, false⟩] } }

/-- The node, ACTIVE and LOCKED at code 105, with a pulse that began at `lead`. -/
def pulsing (lead lines : Nat) : State :=
  { node with
    ssl := { node.ssl with mode := .locked, threshold := 105, logicSync := .syncActive }
    pcl := { node.pcl with
      state := .active, pulse := some { lead := lead, broad := false, resume := false, tip := none }, lineCount := lines } }

/-- A valid configuration block in a slicer mode: every quantity the default, keys PL0 to PL3, D 448, H0 96, V0 40, s 2 (spec 11,
R184). The byte before the last closes the sum. -/
def block (mode last : Byte) : List Byte :=
  [78, 84, 1, mode, 128, 0, 4, 250, 108, 32, 8, 180, 0, 204, 0, 1, 224, 2, 128, 1, 1, 128, 25, 15, 1, 0] ++
    List.replicate 20 0#8 ++ List.replicate 24 25#8 ++ List.replicate 24 0#8 ++
    [0, 1, 2, 3, 4, 10, 50, 50, 0, 1, 192, 96, 40, 2] ++ List.replicate 19 0#8 ++ [last]

/-- Spec 11, R178: NODE_RESET_END samples the rank and begins the first try. -/
theorem test_node_reset_end :
    goesTo (exec (.nodeResetEnd 5 ⟨960000, true, ⟨false, true, true⟩⟩) State.reset)
      (fun t => t.rank == 6 && t.cfl.load == .reading && t.cfl.tries == 1) = true := by decide

/-- Spec 11, R178: at power-on node reset stays in force until the supply has been within its range for 20 ms, and while NRESET is low. -/
theorem test_node_reset_persists :
    goesTo (exec (.nodeResetEnd 5 ⟨959999, true, ⟨false, true, true⟩⟩) State.reset) (fun t => t.cfl.load == .held) = true ∧
    goesTo (exec (.nodeResetEnd 5 ⟨960000, false, ⟨false, true, true⟩⟩) (State.reset.withCauses ⟨true, true⟩))
      (fun t => t.cfl.load == .held && t.cfl.causes == ⟨true, false⟩) = true := by decide

/-- Spec 11, R178: NRESET low for less than 10 µs resets nothing. -/
theorem test_short_nreset :
    goesTo (exec (.nodeReset 479 (.nresetLow 479)) node) (fun t => t.rank == 3 && t.cfl.load == .endedValid) = true ∧
    goesTo (exec (.nodeReset 480 (.nresetLow 480)) node) (fun t => t.cfl.load == .held && t.cfl.causes.pin) = true := by decide

/-- Spec 11, R179: the device address and the write direction, then the memory address 0, begin a try of 1,182 bit times. -/
theorem test_port :
    trySlots.length = 1182 ∧
    slotsDrive trySlots 240 = ⟨.floating, .low⟩ ∧ slotsDrive trySlots 480 = ⟨.low, .floating⟩ ∧
    slotsDrive [.stop] 120 = ⟨.floating, .low⟩ ∧ slotsDrive [.stop] 240 = .released ∧ slotsDrive [.stop] 480 = .released := by
  decide +kernel

/-- Spec 11, R179: after a failed try a stop condition is formed if both lines read high. -/
theorem test_failed_try_stops :
    let s := { State.reset with cfl := { State.reset.cfl with load := .reading, tries := 1 } }
    goesTo (exec (.tryFails 7 ⟨.lineLowAtStart, true⟩) s) (fun t => t.cfl.port == .stopping 7) = true ∧
    goesTo (exec (.tryFails 7 ⟨.lineLowAtStart, false⟩) s) (fun t => t.cfl.port == .released) = true := by decide

/-- Spec 11, R179: a clock hold of 1 ms does not fail the try, a longer one does. -/
theorem test_clock_hold :
    failureCounts (.clockHold 48000) = false ∧ failureCounts (.clockHold 48001) = true := by decide

/-- Spec 01, worked case: the first window locks at 105 with T 12 and B 198, NEGATIVE. -/
theorem test_acquisition :
    let s := { node with
      cfg := some { cfgd with smin := 16, smax := 240 }
      ssl := { node.ssl with mode := .acquiring, windowEnd := some 1960000 } }
    goesTo (exec (.acquisitionWindowEnd [⟨12, 744⟩, ⟨13, 744⟩, ⟨198, 18512⟩] 198) s)
      (fun t => t.ssl.mode == .locked && t.ssl.threshold == 105 && t.ssl.tip == 12 && t.ssl.rest == 198 &&
        t.ssl.polarity == .negative && t.pcl.lockExpiry == some 3880000) = true := by decide

/-- Spec 01, R2: a tip at the threshold is sync-active. -/
theorem test_tip_at_threshold :
    goesTo (exec (.leadingEdge 100 12 52)
      { pulsing 0 0 with ssl := { (pulsing 0 0).ssl with threshold := 52, logicSync := .rest } })
      (fun t => t.pcl.pulse == some ⟨1000088, false, false, none⟩) = true := by decide

/-- Spec 01, worked case: the 255th LINE pulse leaves the line count at 255, and so would another. -/
theorem test_line_count_saturates :
    goesTo (exec (.trailingEdge 238 12 200) (pulsing 1000000 254)) (fun t => t.pcl.lineCount == 255) = true ∧
    goesTo (exec (.trailingEdge 238 12 200) (pulsing 1000000 255)) (fun t => t.pcl.lineCount == 255) = true := by decide

/-- Spec 01, worked case: broad 1 raises FIELD START with a line count of 255, broad 2 raises nothing. -/
theorem test_broad :
    goesTo (exec .broadDecided (pulsing 1000000 255)) (fun t => t.pcl.lineCount == 0 && t.tmu.phase == .masking) = true ∧
    goesTo (exec .broadDecided (pulsing 1000000 7)) (fun t => t.pcl.lineCount == 7 && t.tmu.phase == .partialCycle) = true := by
  decide

/-- Spec 03, R52: the third automatic reset is the last. -/
theorem test_grace :
    goesTo (exec .stallGraceExpiry { node with bsv := { node.bsv with board := .stalled, stallGrace := some 5, attempts := 2 } })
      (fun t => t.bsv.board == .resetting && t.bsv.attempts == 3) = true ∧
    goesTo (exec .stallGraceExpiry { node with bsv := { node.bsv with board := .stalled, stallGrace := some 5, attempts := 3 } })
      (fun t => t.bsv.board == .failed && t.bsv.boardFailed) = true := by decide

/-- Spec 06, R102: a STANDBY node with a READY board bids at BUS SILENT. -/
theorem test_bus_silent_bids :
    goesTo (exec .busSilent { withBoard .standby .ready with bus := ⟨false, .live, some 1500000, none⟩ })
      (fun t => t.spe.role == .bidding && t.spe.bidSet == [3] && t.lct.txq == [⟨.all, .bid .ready⟩]) = true := by decide

/-- Spec 01, R17: a level on the same side of the threshold is no bus edge. -/
theorem test_bus_level_is_no_edge :
    goesTo (exec (.busEdge 20 12 200) { node with bus := ⟨true, .silent, none, none⟩ }) (fun t => t.bus.silence == .silent) = true ∧
    goesTo (exec (.busEdge 20 12 200) node) (fun t => t.bus.output && t.bus.silenceTimer == some 5800008) = true := by decide

/-- Spec 03, R41: a board fitted all along is PRESENT 20 ms after node reset ended, not before. -/
theorem test_presence_from_reset_end :
    let s (r : Moment) := { node with cfl := { node.cfl with resetEnded := some r }, bsv := State.reset.bsv }
    goesTo (exec (.present 0 5000000) (s 40001)) (fun t => t.bsv.present) = false ∧
    goesTo (exec (.present 0 5000000) (s 40000)) (fun t => t.bsv.present && t.bsv.resetHold == some 13000000) = true := by decide

/-- Spec 08, R136: a coin line low all along is CLOSED one filter time after the load ended, and its closure begins then. -/
theorem test_closure_from_load_end :
    goesTo (exec (.closure 480 5000000 .one) { node with cfl := { node.cfl with loadEnded := some 520480 } })
      (fun t => t.cnu.one.closure == some ⟨1000480, false⟩) = true ∧
    goesTo (exec (.closure 480 5000000 .one) { node with cfl := { node.cfl with loadEnded := some 520481 } })
      (fun t => t.cnu.one.closed) = false := by decide

/-- Spec 06, R109: a holder of rank 3 yields to rank 2. -/
theorem test_holder_yields :
    goesTo (exec .seatedTaken (taking .holding .seated))
      (fun t => t.spe.role == .standby && t.spe.view == some 2 && t.osw.video == .isOpen) = true := by decide

/-- Spec 07, R117: an offer to a READY STANDBY node is answered YES, and the node is ACCEPTED. -/
theorem test_offer_accepted :
    goesTo (exec .offerTaken (taking .standby (.offer 9)))
      (fun t => t.spe.role == .accepted && t.lct.txq == [⟨.rank 2, .answer 9 true .none .ready⟩]) = true := by decide

/-- Spec 04, R62: a fall after which the line is recessive again at the middle of the start bit is no character. -/
theorem test_fall_without_character :
    goesTo (exec (.lineFall 7 ⟨.recessive, []⟩) { node with lct := { node.lct with phase := .idle } })
      (fun t => t.lct.phase == .gap 1000007 && t.lct.shortFrame == 0) = true := by decide

/-- Spec 04, R62: after a fall that was no character the next one begins it; R66: none does in the two bit times before the window. -/
theorem test_fall_begins_character :
    let s (read : List Bool) (begun : Nat) := { node with lct := { node.lct with phase := .following 1000000 read begun } }
    let seated := (frameChars 0 ⟨.all, .seated⟩).flatMap charBits
    goesTo (exec (.lineFall 5000 ⟨.dominant, []⟩) (s (charBits 64#8) 1))
      (fun t => t.lct.phase == .following 1000200 (charBits 64#8) 2) = true ∧
    goesTo (exec (.lineFall 5000 ⟨.recessive, []⟩) (s (charBits 64#8) 1))
      (fun t => t.lct.phase == .following 1000000 (charBits 64#8) 1) = true ∧
    goesTo (exec (.lineFall 19500 ⟨.dominant, []⟩) (s seated 4)) (fun t => t.lct.phase == .following 1000000 seated 4) = true := by
  decide +kernel

/-- Spec 04, R66: the window of a SEATED, four characters, begins 42 bit times, 420 µs, after its first start bit. -/
theorem test_window_of_seated :
    goesTo (exec (.frameJudged [64#8, 15#8, 0#8] 69#8 false) { node with lct := { node.lct with phase := .following 1000000 [] 1 } })
      (fun t => t.lct.phase == .window 1020160 true && t.lct.acking == some 1020160) = true := by decide +kernel

/-- Spec 04, R71: a node that clashed in the target character follows on with the bits it has sent and read. -/
theorem test_clash_keeps_bits :
    goesTo (exec (.bitClash 1 1 .recessive)
        { node with lct := { node.lct with sending := some 1000000, phase := .following 1000000 [] 1, txq := [⟨.all, .seated⟩] } })
      (fun t => t.lct.phase == .following 1000000 (charBits 67#8 ++ [true]) 2 && t.lct.clash == 1) = true := by decide +kernel

/-- Spec 08, R137: a closure of exactly 250 ms is a coin. -/
theorem test_closure_of_the_limit :
    goesTo (exec (.detectedCoin 12000000 480000 .one)
      { withBoard .holding .ready with cnu :=
        { node.cnu with duty := .own, one := { CoinChannel.reset with closed := true, closure := some ⟨1000000, false⟩ } } })
      (fun t => t.cnu.one.pending == 1 && t.cnu.one.delivery == .pulse && !t.cnu.one.jam) = true := by decide

/-- Spec 09, R158: a press drives its line only once a release has been seen. -/
theorem test_release_before_press :
    goesTo (exec (.press 9 192000 (.player 0)) { inRole .holding with cmp := { node.cmp with following := true } })
      (fun t => t.cmp.active[0] == false) = true ∧
    goesTo (exec (.press 9 192000 (.player 0))
      { inRole .holding with cmp := { node.cmp with following := true, seen := Vector.replicate 24 true } })
      (fun t => t.cmp.active[0]) = true := by decide

/-- Spec 10, R169: SELECT held opens the menu of a HOLDING node on its own entry. -/
theorem test_select_opens :
    goesTo (exec .selectHoldExpiry
      { inRole .holding with
        mnu := { node.mnu with selectTimer := some 1200000 }
        cmp := { node.cmp with latch := Vector.replicate 26 true } })
      (fun t => t.mnu.state == .browse && t.mnu.cursor == 3 && !t.latched .select) = true := by decide

/-- Spec 11, R182: the second half of a slow blink is dark and lasts 500 ms. -/
theorem test_slow_blink :
    goesTo (exec (.statusLampBlink .st0) { inRole .offering with lamps := { node.lamps with st0 := ⟨.slow, true, some 2000000⟩ } })
      (fun t => t.lamps.st0 == ⟨.slow, false, some 26000000⟩) = true := by decide

/-! ## A state for the hypotheses of each statement -/

theorem witness_StepRunsFrontCommand : { node with pending := [.stall, .lockExpiry] }.pending = .stall :: [.lockExpiry] := rfl

theorem witness_EveryCommandGoesOn :
    (∀ dt cause, Instr.stall = .nodeReset dt cause → resetCounts cause = false) ∧
    (∀ dt release, Instr.stall ≠ .nodeResetEnd dt release) ∧
    ∀ dt cause, Instr.nodeReset 9 (.nresetLow 479) = .nodeReset dt cause → resetCounts cause = false := by
  refine ⟨(fun _ _ h => by cases h), (fun _ _ h => by cases h), (fun _ _ h => by cases h; decide)⟩

/-- NRESET low for 479 and for 480 ticks, and power-on; and a rank other than the node's own. -/
theorem witness_NodeResetSetsEveryBlock :
    ¬(ResetCause.nresetLow 479 = .powerOn ∨ 480 ≤ 479) ∧ (ResetCause.nresetLow 480 = .powerOn ∨ 480 ≤ 480) ∧
    (ResetCause.powerOn = .powerOn ∨ 480 ≤ 0) ∧ (7 : Rank) ≠ State.reset.rank := by decide

/-- The hold of power-on at 20 ms and one tick before it, and a node reset by NRESET with it still low. -/
theorem witness_NodeResetEndTakesRank :
    let pinned := State.reset.withCauses ⟨true, false⟩
    State.reset.cfl.load = .held ∧ State.reset.cfl.causes.pin = false ∧ State.reset.cfl.causes.power = true ∧
    959999 < 960000 ∧ ¬960000 < 960000 ∧ pinned.cfl.load = .held ∧ pinned.cfl.causes.pin = true ∧
    pinned.cfl.causes.power = false := by decide

theorem witness_FailedTryPausesAndRetries :
    let s := { State.reset with cfl := { State.reset.cfl with load := .reading, tries := 2 } }
    s.cfl.load = .reading ∧ s.cfl.tries < 3 ∧ (∀ ticks, TryFailure.clockHold 48001 = .clockHold ticks → 48000 < ticks) ∧
    (∀ ticks, TryFailure.lineLowAtStart = .clockHold ticks → 48000 < ticks) ∧
    TryFailure.clockHold 48000 = .clockHold 48000 ∧
    { s with cfl := { s.cfl with load := .paused, pause := some 480000 } }.cfl.pause = some 480000 := by
  refine ⟨rfl, by decide, (fun k h => by cases h; decide), (fun k h => by cases h), rfl, rfl⟩

/-- A valid block of either mode, for a node still reading, with a board and without, and with the presence not decided. -/
theorem witness_ValidBlockStartsNode :
    let s (present : Bool) := { State.reset with
      cfl := { State.reset.cfl with load := .reading, tries := 1 }
      bsv := { State.reset.bsv with decided := true, present := present } }
    (s true).cfl.load = .reading ∧ blockValid (block 0 162) = true ∧ (blockQuantities (block 0 162)).mode = .adaptive ∧
    blockValid (block 1 161) = true ∧ (blockQuantities (block 1 161)).mode = .fixed ∧
    (s true).lct.mode = .off ∧ (s true).lct.stuck = false ∧ (s true).lct.txq = [] ∧ (s true).spe.role = .startup ∧
    (s true).bsv.loadPeriod = true ∧ (s true).bsv.decided = true ∧ (s true).bsv.present = true ∧
    (s false).bsv.present = false ∧ State.reset.bsv.decided = false := by
  decide +kernel

/-- An invalid block, and a third failed try. -/
theorem witness_InvalidLoadWithdrawsNode :
    let s := { State.reset with cfl := { State.reset.cfl with load := .reading, tries := 3 } }
    s.cfl.load = .reading ∧ s.spe.role = .startup ∧ (block 0 161).length = 128 ∧ blockValid (block 0 161) = false ∧
    s.cfl.tries = 3 := by
  decide +kernel

theorem witness_ValidBlockIsInRange : blockValid (block 0 162) = true := by decide +kernel

/-- Windows whose minority level holds 100, 4,999, 99 and 5,000 samples, low or high. -/
theorem witness_AcquisitionWindowLocksOrReopens :
    let s := { node with ssl := { node.ssl with mode := .acquiring, windowEnd := some 1960000 } }
    let minority (low : Nat) : Nat × Nat :=
      let acq := tallyRuns [⟨12, low⟩, ⟨198, 20000 - low⟩] AcqTotals.cleared
      (acq.lowCount, acq.highCount)
    s.ssl.windowEnd = some 1960000 ∧ s.ssl.mode = .acquiring ∧ runsTotal [⟨12, 100⟩, ⟨198, 19900⟩] = 20000 ∧
    minority 100 = (100, 19900) ∧ minority 4999 = (4999, 15001) ∧ minority 19900 = (19900, 100) ∧
    minority 99 = (99, 19901) ∧ minority 5000 = (5000, 15000) := by
  decide +kernel

theorem witness_ThresholdHalfSwingFromRest :
    defaultQuantities.smin ≤ defaultQuantities.smax ∧ State.reset.ssl.polarity = .negative ∧ State.reset.ssl.rest ≤ 255 ∧
    { State.reset.ssl with polarity := .positive }.polarity = .positive := by
  decide

/-- An edge held for exactly 12 ticks at exactly the threshold, while ACTIVE, while QUIET with a STALLED board and with another. -/
theorem witness_LeadingEdgeBeginsPulse :
    let active := { pulsing 0 0 with ssl := { (pulsing 0 0).ssl with logicSync := .rest } }
    let quiet := { active with pcl := { active.pcl with state := .quiet, pulse := none } }
    active.ssl.mode = .locked ∧ active.ssl.logicSync = .rest ∧ 12 ≤ 12 ∧
    comparatorActive active.ssl.polarity active.ssl.threshold 105 = true ∧ active.pcl.state = .active ∧
    quiet.pcl.state = .quiet ∧ quiet.bsv.board ≠ .stalled ∧
    { quiet with bsv := { quiet.bsv with board := .stalled } }.bsv.board = .stalled := by
  decide

/-- Trailing edges that give widths 133, 134, 383, 384 and 767; a LINE pulse 27,647 and 27,648 ticks after the FIELD START at a mask of 108
units; the sixteenth and the seventeenth hit; and intervals of 4,095 and 4,096 ticks. -/
theorem witness_TrailingEdgeGivesClass :
    let s := pulsing 1000000 9
    let masking (f : Stamp) := { s with tmu := { s.tmu with phase := .masking, fieldStart := some f } }
    let collecting (n : Nat) (last : Stamp) := { s with tmu := { s.tmu with
      phase := .collecting, hits := List.replicate n 0#32 ++ [last] } }
    s.pcl.pulse = some { lead := 1000000, broad := false, resume := false, tip := none } ∧ s.ssl.mode = .locked ∧
    s.pcl.state = .active ∧ s.ssl.logicSync = .syncActive ∧
    comparatorActive s.ssl.polarity s.ssl.threshold 106 = false ∧
    { s with osw := { s.osw with video := .isClosed, source := .board } }.osw.source = .board ∧
    [145, 146, 395, 396, 779].map (fun dt => ticksBetween (s.now + dt - 12) 1000000) = [133, 134, 383, 384, 767] ∧
    s.tmu.phase = .partialCycle ∧ 256 * s.quantities.maskUnits = 27648 ∧
    (masking 972353#32).tmu.fieldStart = some 972353#32 ∧ (stampOf 1000000 - 972353#32).toNat = 27647 ∧
    (stampOf 1000000 - 972352#32).toNat = 27648 ∧
    (collecting 14 995905#32).tmu.hits.getLast? = some 995905#32 ∧ (collecting 14 995905#32).tmu.hits.length = 15 ∧
    (collecting 15 995904#32).tmu.hits.length = 16 ∧ (stampOf 1000000 - 995905#32).toNat = 4095 ∧
    (stampOf 1000000 - 995904#32).toNat = 4096 := by
  decide +kernel

/-- A FULL cycle of the worked case behind `n` stable records of it, with an odd pulse or none, for the FIELD START of a pulse at 1,799,501. -/
def fullCycle (b : BoardState) (stable drift odd : Nat) : State :=
  let s := pulsing 1799501 8
  { s with
    bsv := { node.bsv with board := b }
    pcl := { s.pcl with ageFrom := some 1000000, oddCount := odd }
    tmu := { s.tmu with
      phase := .full, fieldStart := some 1000000#32, width := some 226, stable := stable, drift := drift
      hits := (List.range 17).map (fun k => BitVec.ofNat 32 (1030000 + k * 48824 / 16))
      ring := [.complete sig 799501] } }

/-- What the FIELD START of a full cycle raises. -/
def raisedBy (s : State) : Option TmuEvent :=
  s.tmu.fieldStartRaises s.quantities s.pcl.oddCount (min 4194304 (1799501 - s.pcl.ageFrom.getD 1799501)) s.ssl.polarity

/-- A full cycle at stable count 6 and 7 of 8 settle fields, with L16 in and out of its window, and with an odd pulse at drift counts 1 and
2. -/
theorem witness_BroadPulseMarksField :
    let out := { fullCycle .ready 7 0 0 with cfg := some { cfgd with l16Max := 48823 } }
    (pulsing 1000000 7).pcl.pulse = some { lead := 1000000, broad := false, resume := false, tip := none } ∧
    (pulsing 1000000 7).pcl.state = .active ∧ (pulsing 1000000 7).pcl.lineCount < 8 ∧
    8 ≤ (fullCycle .settling 7 0 0).pcl.lineCount ∧
    raisedBy (fullCycle .settling 7 0 0) = some (.newSignature .inWindow) ∧
    (fullCycle .settling 7 0 0).bsv.board = .settling ∧ (fullCycle .offWindow 7 0 0).bsv.board = .offWindow ∧
    raisedBy out = some (.newSignature .outOfWindow) ∧ out.bsv.board = .ready ∧
    raisedBy (fullCycle .settling 6 0 0) = none ∧ raisedBy (fullCycle .ready 9 2 1) = some .drift ∧
    raisedBy (fullCycle .ready 9 1 1) = none ∧ (fullCycle .vacant 7 0 0).bsv.board = .vacant := by
  decide +kernel

theorem witness_PairSamplesAreTaken :
    let s := pulsing 1000000 9
    s.pcl.pulse = some { lead := 1000000, broad := false, resume := false, tip := none } ∧ s.ssl.mode = .locked ∧
    s.quantities.mode = .adaptive ∧ s.ssl.logicSync = .syncActive ∧
    { s with ssl := { s.ssl with pair := some ⟨12, 1000226⟩ } }.ssl.pair = some ⟨12, 1000226⟩ := by
  decide

theorem witness_CompletePairMovesLevels :
    { State.reset.ssl with tip := 255 }.tip ≤ 255 ∧ { State.reset.ssl with rest := 255 }.rest ≤ 255 := by
  decide

theorem witness_StallAndLockExpiry :
    let s := { withBoard .standby .ready with pcl := { node.pcl with stallTimer := some 2920000, lockExpiry := some 2920000 } }
    s.pcl.stallTimer = some 2920000 ∧ s.pcl.lockExpiry = some 2920000 ∧ s.bsv.board = .ready ∧
    (withBoard .standby .vacant).bsv.board = .vacant := by
  decide

/-- A full cycle of the worked case, and rings of three and of four. -/
theorem witness_RecordsCloseAndJoin :
    let full := { State.reset.tmu with
      phase := .full, fieldStart := some 900000#32, width := some 226
      hits := (List.range 17).map (fun k => BitVec.ofNat 32 (1000000 + k * 48824 / 16)) }
    let ring (n : Nat) := { State.reset.tmu with ring := List.replicate n (.complete sig 799501), drift := 2 }
    full.hits.head? = some 1000000#32 ∧ full.hits.getLast? = some 1048824#32 ∧ full.width = some 226 ∧ full.phase = .full ∧
    full.mark = false ∧ 799501 < 4194304 ∧ State.reset.tmu.phase ≠ .full ∧
    (ring 3).ring.length < 4 ∧ (ring 4).ring.length = 4 ∧ (ring 4).ring.getLast? = some (.complete sig 799501) ∧
    recordStable defaultQuantities (ring 4).ring.getLast? (.complete { sig with w := 238 } 799501) = true ∧
    recordStable defaultQuantities (ring 4).ring.getLast? (.complete { sig with w := 239 } 799501) = false ∧
    (ring 4).drift = 2 := by
  decide +kernel

/-- Verdicts in and out; and a record that leaves the stable count at settle fields, one below, and an unstable one. -/
theorem witness_WindowVerdictOfSignature :
    let t (n : Nat) := (fullCycle .ready n 2 0).tmu
    let r := (t 7).closeRecord 0 799501 .negative
    windowVerdict defaultQuantities sig = .inWindow ∧ windowVerdict defaultQuantities { sig with l16 := 52225 } = .outOfWindow ∧
    recordStable defaultQuantities none (.complete sig 799501) = false ∧
    r = .complete sig 799501 ∧ recordStable defaultQuantities (t 7).ring.getLast? r = true ∧
    defaultQuantities.settleFields ≤ min 15 ((t 7).stable + 1) ∧ min 15 ((t 6).stable + 1) < defaultQuantities.settleFields ∧
    recordStable defaultQuantities (t 7).ring.getLast? ((t 7).closeRecord 1 799501 .negative) = false ∧ (t 7).drift = 2 := by
  decide +kernel

/-- Levels held for exactly 12 ticks since node reset ended, below and above code 70, as a change and as none, with the switch open, and
closed without and with a pulse of 134 and of 383 ticks. -/
theorem witness_BusEdgeMakesBusLive :
    let closed := inRole .holding
    let pulse := { closed with bus := ⟨true, .live, some 5000000, some 1000000⟩ }
    node.cfl.resetEnded = some 0 ∧ min 5000000 (node.now + 12 - node.now) = 12 ∧ min 11 (node.now + 50 - 0) < 12 ∧
    (69 : Code).val < 70 ∧ 70 < (71 : Code).val ∧ busHigh 71 ≠ node.bus.output ∧ busHigh 69 = node.bus.output ∧
    busHigh 69 ≠ pulse.bus.output ∧ node.osw.video = .isOpen ∧
    closed.osw.video = .isClosed ∧ closed.bus.pulse = none ∧ pulse.bus.pulse = some 1000000 ∧
    ticksBetween (pulse.now + 146 - 12) 1000000 = 134 ∧ ticksBetween (pulse.now + 395 - 12) 1000000 = 383 := by
  decide

theorem witness_BusSilenceReachesEngine :
    let live (s : State) := { s with bus := ⟨false, .live, some 5000000, none⟩ }
    (live node).bus.silenceTimer = some 5000000 ∧ (live node).osw.video = .isOpen ∧
    (live (inRole .startup)).spe.role = .startup ∧
    (live (withBoard .standby .settling)).spe.role = .standby ∧ (live (withBoard .standby .settling)).bsv.board ≠ .ready ∧
    (live (withBoard .standby .ready)).bsv.board = .ready ∧ (live (withBoard .standby .ready)).lct.stuck = false ∧
    (live (withBoard .standby .ready)).spe.seatWait = none ∧
    (live (inRole .holding)).spe.role ≠ .startup ∧ (live (inRole .holding)).spe.role ≠ .standby := by
  decide

/-- Bus lines: matched at 24 ticks, by an edge that is 512 ticks old when the line is judged and not by one of 513; without a reference, on
the counted line, one more mismatch, and the eighth. -/
theorem witness_BusLineIsJudged :
    let s := { inRole .holding with osw := { (inRole .holding).osw with awaiting := [999604], ownEdges := [999580] } }
    let alone := { s with osw := { s.osw with ownEdges := [999629, 999580 - 93] }, tmu := { s.tmu with reference := some sig } }
    let counted (c n : Nat) := { alone with osw := { alone.osw with counted := some c, mismatches := n } }
    let own (s : State) := s.osw.ownEdges.filter (fun e => decide (max s.now (999604 + 420) ≤ e + 512))
    s.osw.awaiting.head? = some 999604 ∧ own s = [999580] ∧ own { s with osw := { s.osw with ownEdges := [999511, 999512] } } = [999512] ∧
    (∃ e ∈ own s, ticksBetween e 999604 ≤ 24 ∨ ticksBetween 999604 e ≤ 24) ∧
    (¬∃ e ∈ own alone, ticksBetween e 999604 ≤ 24 ∨ ticksBetween 999604 e ≤ 24) ∧
    s.tmu.reference = none ∧ alone.tmu.reference = some sig ∧ sig.l16 / 32 = 1525 ∧
    ticksBetween 999604 998080 < 1525 ∧ 1525 ≤ ticksBetween 999604 998079 ∧
    (counted 998079 6).osw.mismatches < 7 ∧ 7 ≤ (counted 998079 7).osw.mismatches ∧ (counted 998079 7).spe.role = .holding ∧
    (counted 998079 7).lct.mode = .running ∧ (counted 998079 7).lct.stuck = false ∧ (counted 998079 7).lct.phase ≠ .idle ∧
    (counted 998079 7).lct.txq.length < 4 ∧ (∀ f ∈ (counted 998079 7).lct.txq.tail, f.kind ≠ .seated) ∧
    node.spe.role ≠ .holding ∧ node.spe.role ≠ .offering := by
  decide

/-- A level held for exactly 20 ms since node reset ended: on a running node, and in the load period with the load ended or not. -/
theorem witness_PresenceMovesBoard :
    let since (s : State) := { s with cfl := { s.cfl with resetEnded := some 40000 } }
    let gone := since { withBoard .standby .vacant with bsv := { node.bsv with present := false, board := .vacant } }
    let first (p : Bool) := since { node with bsv := { State.reset.bsv with present := p } }
    let reading := { first false with cfl := { (first false).cfl with load := .reading } }
    gone.cfl.resetEnded = some 40000 ∧ 960000 ≤ gone.now + 0 - 40000 ∧ gone.bsv.present = false ∧
    gone.bsv.loadPeriod = false ∧ gone.bsv.board = .vacant ∧
    node.bsv.present = true ∧ node.bsv.loadPeriod = false ∧ node.bsv.board ≠ .vacant ∧
    (first false).bsv.decided = false ∧ (first false).bsv.present = false ∧ (first true).bsv.present = true ∧
    (first false).bsv.loadPeriod = true ∧ (first false).cfl.load = .endedValid ∧ reading.cfl.load ≠ .endedValid ∧
    reading.cfl.load ≠ .endedInvalid ∧ 959999 < 960000 := by
  decide

theorem witness_BoardTimersMoveBoard :
    let s (n : Nat) := { node with bsv := { node.bsv with
      resetHold := some 5000000, bootLimit := some 5000000, stallGrace := some 5000000, attempts := n } }
    (s 2).bsv.resetHold = some 5000000 ∧ (s 2).bsv.bootLimit = some 5000000 ∧ (s 2).bsv.stallGrace = some 5000000 ∧
    (s 2).quantities.autoRecovery = true ∧ (s 2).bsv.attempts < 3 ∧ 3 ≤ (s 3).bsv.attempts := by
  decide

theorem witness_VerdictAndDriftMoveBoard :
    [BoardState.vacant, .resetting, .settling, .ready, .offWindow, .stalled, .failed].map
        (fun b => (withBoard .standby b).bsv.board) =
      [.vacant, .resetting, .settling, .ready, .offWindow, .stalled, .failed] := by
  decide

theorem witness_CutoverAndReturn :
    let onFill := { inRole .holding with osw := { (inRole .holding).osw with source := .fill, armed := some 7#32 } }
    node.osw.video = .isOpen ∧ (inRole .holding).osw.video = .isClosed ∧ (inRole .holding).osw.source = .board ∧
    onFill.osw.video = .isClosed ∧ onFill.osw.source = .fill ∧ onFill.osw.armed = some 7#32 ∧ 7#32 = stampOf 7 ∧
    7#32 ≠ stampOf 8 ∧ node.osw.armed = none := by
  decide

/-- A fill field of the worked case: in its line 3 (line 4 is next), in its line 4 and in its last line. -/
theorem witness_FillFieldsLinesAndPulses :
    let s (n : Nat) := { inRole .holding with
      tmu := { node.tmu with reference := some sig }
      ovg := { node.ovg with count := some ⟨n, 1000000, 262⟩ }
      fsg := { active := true, start := some 1000000, line := n, longer := false, figures := some sig, sync := .syncActive } }
    (s 4).fsg.start = some 1000000 ∧ (s 4).fsg.figures = some sig ∧ (s 4).fsg.active = true ∧
    (s 4).tmu.reference = some sig ∧ fillLines sig.hl false ≤ (s 261).fsg.line + 1 ∧
    (s 260).fsg.line + 1 < fillLines sig.hl false ∧ (s 3).fsg.line + 1 = 4 ∧ (s 2).fsg.line + 1 = 3 ∧
    4 ≤ (s 4).fsg.line ∧ (s 4).fsg.sync = .syncActive ∧ (s 4).osw.video = .isClosed ∧
    (s 4).ovg.count = some ⟨4, 1000000, 262⟩ ∧ node.osw.video = .isOpen := by
  decide

/-- The largest HELLO a node sends. -/
theorem witness_FrameReadsBack :
    (Frame.mk .all (.hello true true .failed 65520 1023 (List.replicate 20 63))).admissible = true := by
  decide +kernel

/-- A node with and without a frame in every phase; bits that end inside a character and at its end, the next one begun and not; the first
tick past the middle of the stop bit and that middle; and a frame whose four characters are read. -/
theorem witness_IdleLineBeginsHead :
    let queued := { node with lct := { node.lct with txq := [⟨.all, .seated⟩] } }
    let at' (p : LinePhase) := { queued with lct := { queued.lct with phase := p } }
    let bits : List Bool := [false, true, false, false, false, false, false]
    let seated := (frameChars 0 ⟨.all, .seated⟩).flatMap charBits
    node.lct.mode ≠ .off ∧ node.lct.stuck = false ∧ node.lct.phase = .gap 999000 ∧ node.lct.txq = [] ∧
    queued.lct.mode = .running ∧ queued.lct.txq ≠ [] ∧ (at' (.spoilt 5)).lct.phase = .spoilt 5 ∧
    (at' (.following 999990 bits 1)).lct.phase = .following 999990 bits 1 ∧ (at' (.following 999990 bits 1)).lct.sending = none ∧
    (bits ++ [false]).length % 8 = 0 ∧ (bits ++ []).length % 8 ≠ 0 ∧ (1 ≤ 8 / 8 ∧ ¬2 ≤ 8 / 8) ∧
    (999990 + 4800 * 1 < (node.now + 4551) + 240 ∧ ¬999990 + 4800 * 1 < (node.now + 4550) + 240) ∧
    seated.length / 8 = 4 ∧ ((seated.drop 16).take 8).foldl (fun n b => 2 * n + b.toNat) 0 = 0 ∧
    { queued.lct with sending := some 999990 }.sending ≠ none ∧ (at' (.window 999990 true)).lct.phase = .window 999990 true ∧
    (at' .idle).lct.phase = .idle := by
  decide +kernel

/-- HELLO of rank 3, head 99, sent recessive in its third and its eighth data bit. -/
theorem witness_LostArbitrationFollowsOn :
    let s := { node with lct := { node.lct with
      sending := some 1000000, phase := .following 1000000 [] 1, txq := [⟨.all, .hello false true .ready 0 0 []⟩] } }
    s.lct.sending = some 1000000 ∧ s.lct.phase = .following 1000000 [] 1 ∧
    s.lct.txq.head? = some ⟨.all, .hello false true .ready 0 0 []⟩ ∧
    (charBits (headChar s.rank .hello))[2]? = some true ∧ (charBits (headChar s.rank .hello))[7]? = some true := by
  decide

theorem witness_LowerHeadWinsArbitration : (82#8).toNat < (85#8).toNat ∧ (85#8).toNat < (99#8).toNat := by decide

/-- A clash in the target character, at the third and at the fourth attempt, with one frame queued and with four, and one in the head where
a dominant bit is sent. -/
theorem witness_BitClashFailsAttempt :
    let f : Frame := ⟨.rank 2, .offer 9⟩
    let s (n : Nat) (q : List Frame) := { node with lct := { node.lct with
      sending := some 1000000, phase := .following 1000000 [] 1, attempts := n, txq := f :: q } }
    (s 2 []).lct.sending = some 1000000 ∧ (s 2 []).lct.phase = .following 1000000 [] 1 ∧ (s 2 []).lct.acking = none ∧
    (s 2 []).lct.txq.head? = some f ∧ 1 < (frameChars 3 f).length ∧
    frameLevel (frameChars 3 f) 1 8 = .dominant ∧ frameLevel (frameChars 3 f) 0 1 = .dominant ∧
    frameLevel (frameChars 3 f) 0 9 = .recessive ∧ (s 2 []).lct.attempts < 3 ∧ 3 ≤ (s 3 []).lct.attempts ∧
    (s 3 []).lct.txq.length ≠ 4 ∧ (s 3 [f, f, f]).lct.txq.length = 4 ∧ (s 3 [f, f, f]).spe.requests = [] ∧
    f.target = .rank 2 ∧ (2 : Rank) ≠ (s 3 []).rank ∧ (Frame.mk .all .seated).target = .all := by
  decide

/-- SEATED of rank 0 and an OFFER of rank 0 to this node, followed from the start, and SEATED after five bits, as at a lost arbitration, and
after eleven, as at a clash in its target. -/
theorem witness_GoodFrameIsTaken :
    let s (k : Nat) := { node with lct := { node.lct with
      phase := .following 1000000 (((frameChars 0 ⟨.all, .seated⟩).flatMap charBits).take k) 2 } }
    (Frame.mk .all .seated).admissible = true ∧ (Frame.mk (.rank 3) (.offer 9)).admissible = true ∧ (0 : Rank) ≠ (s 5).rank ∧
    (s 0).lct.phase = .following 1000000 [] 2 ∧ (s 5).lct.phase = .following 1000000 [false, true, false, false, false] 2 ∧
    (s 11).lct.sending = none ∧ (s 5).lct.sending = none ∧ (s 5).lct.rxq.length < 4 := by
  decide +kernel

/-- A wrong check; a right check over the head of an unknown kind; frames for another node, for a full queue and with the own rank, in
RUNNING and in MUTE; each with none and with eleven of its bits read; and a frame this node sends. -/
theorem witness_BadFrameIsRefused :
    let e : RxEntry := ⟨2, ⟨.all, .seated⟩, false⟩
    let s := { node with lct := { node.lct with phase := .following 1000000 [] 1 } }
    let full := { s with lct := { s.lct with rxq := [e, e, e, e] } }
    let sends := { s with lct := { s.lct with sending := some 1000000, txq := [⟨.all, .seated⟩] } }
    let kept (chars : List Byte) (k : Nat) := (chars.flatMap charBits).take k
    let part (chars : List Byte) := { node with lct := { node.lct with
      mode := .mute, phase := .following 1000000 (kept chars 11) 2 }, spe := { node.spe with role := .withdrawn } }
    s.lct.phase = .following 1000000 [] 1 ∧ s.lct.sending = none ∧
    kept [64#8, 15#8, 0#8, 70#8] 0 = [] ∧ (kept [64#8, 15#8, 0#8, 70#8] 11).length = 11 ∧
    (part [64#8, 15#8, 0#8, 70#8]).lct.phase =
      .following 1000000 [false, true, false, false, false, false, false, false, false, false, false] 2 ∧
    (part (frameChars 3 ⟨.all, .seated⟩)).lct.mode = .mute ∧ (part (frameChars 3 ⟨.all, .seated⟩)).spe.role = .withdrawn ∧
    (part (frameChars 3 ⟨.all, .seated⟩)).lct.sending = none ∧ (part (frameChars 3 ⟨.all, .seated⟩)).rank = 3 ∧
    (70#8 ≠ crc8 [64#8, 15#8, 0#8]) ∧
    readFrame [112#8, 15#8, 0#8] = none ∧
    (Frame.mk (.rank 4) (.offer 9)).admissible = true ∧ (2 : Rank) ≠ s.rank ∧
    (Frame.mk (.rank 4) (.offer 9)).target ≠ .rank s.rank ∧ (Frame.mk (.rank 4) (.offer 9)).target ≠ .all ∧
    (Frame.mk .all .seated).admissible = true ∧ 4 ≤ full.lct.rxq.length ∧ (3 : Rank) = s.rank ∧
    s.lct.mode = .running ∧ s.spe.role ≠ .withdrawn ∧ sends.lct.txq.head? = some ⟨.all, .seated⟩ ∧ sends.lct.sending ≠ none := by
  decide +kernel

/-- No frame of the part has a head of kind code 7. -/
theorem witness_BadFrameIsRefused_form (sender : Rank) (f : Frame) : frameContents sender f ≠ [112#8, 15#8, 0#8] := by
  have h (k : FrameKind) : headChar sender k ≠ 112#8 := by cases k <;> revert sender <;> decide
  intro e
  exact h f.kind (List.cons.inj e).1

/-- Windows of a receiver and of a sender, with one frame queued and with four; a request refused by a full queue and in MUTE; and pending
requests with a place free, with a waiting frame to replace, and with none. -/
theorem witness_AckWindowReportsHead :
    let q (l : List Frame) (n : Nat) := { node with lct := { node.lct with
      phase := .window 1000000 false, sending := some 997600, attempts := n, txq := l } }
    let s (f : Frame) (n : Nat) := q [f] n
    let other := { node with lct := { node.lct with phase := .window 1000000 true } }
    let seated : Frame := ⟨.all, .seated⟩
    let offer : Frame := ⟨.rank 2, .offer 9⟩
    let full := q [seated, offer, ⟨.rank 4, .offer 9⟩, ⟨.rank 5, .offer 9⟩] 0
    let owes (l : List Frame) := { q l 0 with spe := { node.spe with requests := [bidRequest, helloRequest true] } }
    let answered := { node with spe := { node.spe with answers := Vector.replicate 8 (some ⟨9, true, .none⟩), frozen := some (1, 2) } }
    (s seated 0).lct.phase = .window 1000000 false ∧ other.lct.sending = none ∧
    (s seated 0).lct.sending = some 997600 ∧ (s seated 0).lct.txq.head? = some seated ∧
    (s seated 0).lct.txq.length ≠ 4 ∧ full.lct.txq.length = 4 ∧ full.spe.requests = [] ∧ (1#9 : BitVec 9) ≠ 0#9 ∧
    (s offer 2).lct.txq.head? = some offer ∧ (s offer 2).lct.attempts < 3 ∧
    3 ≤ (s offer 3).lct.attempts ∧ (2 : Rank) ≠ (s offer 3).rank ∧
    (∀ g ∈ full.lct.txq.tail, ¬(g.kind = bidRequest.kind ∧ g.target = bidRequest.target)) ∧ full.lct.stuck = false ∧
    { full.lct with mode := .mute }.mode ≠ .running ∧
    (owes [seated]).lct.mode = .running ∧ (owes [seated]).lct.phase ≠ .idle ∧
    (owes [seated]).spe.requests.head? = some bidRequest ∧ bidRequest ∉ (owes [seated]).spe.requests.tail ∧
    (¬∃ g ∈ (owes [seated]).lct.txq.tail, g.kind = .bid ∧ g.target = .all) ∧
    (∃ g ∈ (owes [seated, ⟨.all, .bid .failed⟩]).lct.txq.tail, g.kind = .bid ∧ g.target = .all) ∧
    (¬∃ g ∈ (owes full.lct.txq).lct.txq.tail, g.kind = .bid ∧ g.target = .all) ∧ 4 ≤ (owes full.lct.txq).lct.txq.length ∧
    answered.spe.answers[(2 : Rank)] = some ⟨9, true, .none⟩ ∧ answered.spe.frozen = some (1, 2) := by
  decide

/-- A line that sticks in every role, with an addressed frame queued, with broadcasts alone, and with four of them, without and with a
pending request. -/
theorem witness_StuckLineIsFlushed :
    let offer : Frame := ⟨.rank 2, .offer 9⟩
    let seated : Frame := ⟨.all, .seated⟩
    let q (l : List Frame) (r : List PendingRequest) := { node with
      lct := { node.lct with txq := l }, spe := { node.spe with requests := r } }
    let four := [seated, seated, seated, seated]
    node.lct.mode ≠ .off ∧ node.lct.stuck = false ∧ offer ∈ (q [seated, offer] []).lct.txq ∧ offer.target = .rank 2 ∧
    (2 : Rank) ≠ node.rank ∧ (∀ f ∈ (q [seated] [bidRequest]).lct.txq, f.target = .all) ∧
    (q [seated] [bidRequest]).lct.txq.length ≠ 4 ∧ (∀ f ∈ (q four []).lct.txq, f.target = .all) ∧
    (q four []).lct.txq.length = 4 ∧ (q four []).spe.requests = [] ∧ (q four [bidRequest]).spe.requests ≠ [] ∧
    [Role.startup, .withdrawn, .standby, .bidding, .holding, .offering, .passing, .accepted].map (fun r => (inRole r).spe.role) =
      [.startup, .withdrawn, .standby, .bidding, .holding, .offering, .passing, .accepted] := by
  decide

theorem witness_ClearLineSendsHello :
    let s (r : Role) := { inRole r with
      lct := { node.lct with stuck := true, phase := .blind }, bsv := { node.bsv with board := .ready } }
    (s .holding).lct.stuck = true ∧ (s .holding).spe.role ≠ .withdrawn ∧ (s .holding).lct.mode = .running ∧
    (s .holding).lct.txq = [] ∧ (s .withdrawn).spe.role = .withdrawn ∧ (s .standby).spe.role = .standby ∧
    (s .standby).spe.view = none ∧ (s .standby).bsv.board = .ready ∧ (s .standby).spe.seatWait = none := by
  decide

/-- Claims of rank 2 against rank 3, of rank 4 against rank 3, by SEATED and by a HELLO with reply requested, and in the other roles. -/
theorem witness_ClaimReachesEngine :
    let high := { taking .holding .seated with lct := { node.lct with rxq := [⟨4, ⟨.all, .seated⟩, false⟩] } }
    let asks := { high with lct := { high.lct with rxq := [⟨4, ⟨.all, .hello true true .ready 0 0 []⟩, false⟩] } }
    (taking .holding .seated).lct.rxq.head? = some ⟨2, ⟨.all, .seated⟩, false⟩ ∧ (Frame.mk .all .seated).kind = .seated ∧
    (taking .standby (.hello true false .ready 0 0 [])).lct.rxq.head? =
      some ⟨2, ⟨.all, .hello true false .ready 0 0 []⟩, false⟩ ∧
    (2 : Rank) < (taking .holding .seated).rank ∧ high.rank ≤ (4 : Rank) ∧ high.lct.mode = .running ∧
    high.lct.stuck = false ∧ high.lct.phase ≠ .idle ∧ high.lct.txq.length < 4 ∧
    (∀ f ∈ high.lct.txq.tail, f.kind ≠ .seated) ∧
    asks.lct.rxq.head? = some ⟨4, ⟨.all, .hello true true .ready 0 0 []⟩, false⟩ ∧ asks.lct.mode = .running ∧
    asks.lct.stuck = false ∧ asks.lct.phase ≠ .idle ∧ asks.lct.txq.length < 3 ∧ asks.spe.role = .holding ∧
    (∀ f ∈ asks.lct.txq.tail, f.kind ≠ .seated ∧ f.kind ≠ .hello) ∧
    (taking .withdrawn (.hello true true .ready 0 0 [])).spe.role = .withdrawn ∧
    [Role.startup, .standby, .bidding, .offering, .passing, .accepted, .withdrawn].map (fun r => (taking r .seated).spe.role) =
      [.startup, .standby, .bidding, .offering, .passing, .accepted, .withdrawn] := by
  decide

/-- A HELLO without the holding flag from a rank that is not in view and from the rank in view, without and with reply requested, in every
role it acts in, in ACCEPTED and in WITHDRAWN. -/
theorem witness_HelloReachesRosterAndEngine :
    let body : Body := .hello false false .ready 0 0 []
    let asks : Body := .hello false true .ready 0 0 []
    let sees (r : Role) (b : BoardState) := { taking r body with
      spe := { (taking r body).spe with view := some 2 }, bsv := { node.bsv with board := b } }
    let seen (r : Role) := { taking r asks with spe := { (taking r asks).spe with view := some 2 } }
    (taking .standby body).lct.rxq.head? = some ⟨2, ⟨.all, body⟩, false⟩ ∧ (2 : Rank) ≠ node.rank ∧
    (taking .standby (.hello true true .ready 0 0 [])).lct.rxq.head? =
      some ⟨2, ⟨.all, .hello true true .ready 0 0 []⟩, false⟩ ∧
    (taking .standby body).lct.mode = .running ∧ (taking .standby body).lct.stuck = false ∧
    (taking .standby body).lct.phase ≠ .idle ∧ (taking .standby body).lct.txq.length < 4 ∧
    (∀ f ∈ (taking .standby body).lct.txq.tail, f.kind ≠ .hello) ∧ (taking .standby body).spe.view ≠ some 2 ∧
    (sees .startup .ready).spe.view = some 2 ∧ (sees .startup .ready).spe.role = .startup ∧
    (sees .standby .settling).bsv.board ≠ .ready ∧ (sees .standby .ready).bsv.board = .ready ∧
    (sees .standby .ready).spe.seatWait = none ∧ (sees .accepted .ready).spe.role ≠ .startup ∧
    (sees .accepted .ready).spe.role ≠ .standby ∧
    [Role.startup, .standby, .accepted, .withdrawn].map (fun r => ((seen r).spe.role, (seen r).spe.view, (seen r).lct.rxq.head?)) =
      [Role.startup, .standby, .accepted, .withdrawn].map (fun r => (r, some 2, some ⟨2, ⟨.all, asks⟩, false⟩)) ∧
    (taking .standby asks).spe.view ≠ some 2 := by
  decide

theorem witness_BidJoinsRound :
    let s (r : Role) := taking r (.bid .ready)
    (s .standby).lct.rxq.head? = some ⟨2, ⟨.all, .bid .ready⟩, false⟩ ∧ (2 : Rank) ≠ (s .standby).rank ∧
    (s .standby).spe.role = .standby ∧ (s .standby).spe.view = none ∧ (s .standby).bsv.board = .ready ∧
    (s .standby).lct.stuck = false ∧ (s .bidding).spe.role = .bidding ∧ (s .holding).spe.role = .holding ∧
    (s .holding).lct.mode = .running ∧ (s .holding).lct.phase ≠ .idle ∧ (s .holding).lct.txq.length < 4 ∧
    (∀ f ∈ (s .holding).lct.txq.tail, f.kind ≠ .seated) ∧ (s .passing).spe.role ≠ .bidding ∧
    (s .passing).spe.role ≠ .holding ∧ (s .passing).spe.role ≠ .offering := by
  decide

/-- Each row of the table of R117. -/
theorem witness_OfferIsAnswered :
    let key : Option OfferKey := some ⟨2, 9⟩
    let s (r : Role) := taking r (.offer 9)
    let again := { s .accepted with spe := { (s .accepted).spe with accepted := key } }
    let repeated := { s .standby with spe := { (s .standby).spe with lastPass := key } }
    (s .standby).lct.rxq.head? = some ⟨2, ⟨.all, .offer 9⟩, false⟩ ∧ (2 : Rank) ≠ (s .standby).rank ∧
    (s .standby).lct.mode = .running ∧ (s .standby).lct.stuck = false ∧ (s .standby).lct.phase ≠ .idle ∧
    (s .standby).lct.txq.length < 4 ∧ (∀ f ∈ (s .standby).lct.txq.tail, f.kind ≠ .answer) ∧
    again.spe.role = .accepted ∧ again.spe.accepted = key ∧ (s .accepted).spe.accepted ≠ key ∧
    (s .standby).bsv.board = .ready ∧ (s .standby).spe.recovering = false ∧ (s .standby).spe.lastPass ≠ key ∧
    repeated.spe.lastPass = key ∧ (withBoard .standby .settling).bsv.board ≠ .ready ∧ (s .withdrawn).spe.role = .withdrawn ∧
    (s .holding).spe.role = .holding ∧
    { s .standby with spe := { (s .standby).spe with recovering := true } }.spe.recovering = true := by
  decide

theorem witness_AnswerDecidesOffer :
    let s (yes : Bool) (n : HandoverNumber) := { taking .offering (.answer 9 yes .busy .ready) with
      spe := { (inRole .offering).spe with target := some 2, number := n }
      mnu := { node.mnu with state := .wait } }
    (s true 9).lct.rxq.head? = some ⟨2, ⟨.all, .answer 9 true .busy .ready⟩, false⟩ ∧
    (s false 9).lct.rxq.head? = some ⟨2, ⟨.all, .answer 9 false .busy .ready⟩, false⟩ ∧ (2 : Rank) ≠ (s true 9).rank ∧
    (s true 9).spe.role = .offering ∧ (s true 9).spe.target = some 2 ∧ (s true 9).spe.number = 9 ∧
    (s true 8).spe.number ≠ 9 ∧ (s false 9).mnu.state = .wait := by
  decide

theorem witness_PassSeatsTarget :
    let s (k : Option OfferKey) := { taking .accepted (.pass 9 31 1) with spe := { (inRole .accepted).spe with accepted := k } }
    (s (some ⟨2, 9⟩)).lct.rxq.head? = some ⟨2, ⟨.all, .pass 9 31 1⟩, false⟩ ∧ (2 : Rank) ≠ (s none).rank ∧
    (s (some ⟨2, 9⟩)).spe.role = .accepted ∧ (s (some ⟨2, 9⟩)).spe.accepted = some ⟨2, 9⟩ ∧
    (s (some ⟨2, 8⟩)).spe.accepted ≠ some ⟨2, 9⟩ ∧ (s (some ⟨2, 9⟩)).lct.mode = .running ∧
    (s (some ⟨2, 9⟩)).lct.stuck = false ∧ (s (some ⟨2, 9⟩)).lct.phase ≠ .idle ∧ (s (some ⟨2, 9⟩)).lct.txq.length < 4 ∧
    (∀ f ∈ (s (some ⟨2, 9⟩)).lct.txq.tail, f.kind ≠ .seated) := by
  decide

theorem witness_JoinAndBidTimersEnd :
    let s (r : Role) (b : BoardState) (set : List Rank) := { withBoard r b with spe := { (inRole r).spe with
      bidSet := set, joinWindow := some 5000000, bidWindow := some 5000000, seatWait := none } }
    let waits (b : BoardState) := { withBoard .standby b with spe := { (inRole .standby).spe with seatWait := some 5000000 } }
    (s .startup .ready []).spe.joinWindow = some 5000000 ∧ (s .startup .ready []).spe.role = .startup ∧
    (s .startup .ready []).spe.seatWait = none ∧ (s .startup .ready []).spe.view = none ∧
    (s .startup .ready []).bsv.board = .ready ∧ (s .startup .settling []).bsv.board ≠ .ready ∧
    (waits .ready).spe.seatWait = some 5000000 ∧ (waits .ready).spe.role = .standby ∧ (waits .ready).spe.view = none ∧
    (waits .ready).bsv.board = .ready ∧ (waits .ready).lct.stuck = false ∧ (waits .failed).bsv.board ≠ .ready ∧
    (s .bidding .ready [3, 5]).spe.bidWindow = some 5000000 ∧ (s .bidding .ready [3, 5]).spe.role = .bidding ∧
    (∀ r ∈ (s .bidding .ready [3, 5]).spe.bidSet, (s .bidding .ready [3, 5]).rank ≤ r) ∧
    (∃ r ∈ (s .bidding .ready [3, 2]).spe.bidSet, r < (s .bidding .ready [3, 2]).rank) ∧
    (s .bidding .stalled [3]).bsv.board ≠ .ready ∧ (s .bidding .ready [3]).lct.mode = .running ∧
    (s .bidding .ready [3]).lct.phase ≠ .idle ∧ (s .bidding .ready [3]).lct.txq.length < 4 ∧
    (∀ f ∈ (s .bidding .ready [3]).lct.txq.tail, f.kind ≠ .seated) := by
  decide

theorem witness_HandoverTimersEnd :
    let s (r : Role) := { withBoard r .ready with
      spe := { (inRole r).spe with
        target := some 2, answerTimer := some 5000000, coinQuiet := some 5000000, passTimer := some 5000000 }
      mnu := { node.mnu with state := .wait } }
    let silent := { s .accepted with bus := ⟨false, .silent, none, none⟩ }
    let live := { s .accepted with
      bus := ⟨false, .live, some 9000000, none⟩, spe := { (s .accepted).spe with view := some 2 } }
    (s .offering).spe.answerTimer = some 5000000 ∧ (s .offering).spe.role = .offering ∧ (s .offering).mnu.state = .wait ∧
    (inRole .offering).mnu.state ≠ .wait ∧ (s .passing).spe.coinQuiet = some 5000000 ∧ (s .passing).lct.stuck = false ∧
    (s .passing).spe.target = some 2 ∧ (s .passing).lct.mode = .running ∧ (s .passing).lct.phase ≠ .idle ∧
    (s .passing).lct.txq.length < 4 ∧ (∀ f ∈ (s .passing).lct.txq.tail, f.kind ≠ .pass) ∧
    live.spe.passTimer = some 5000000 ∧ live.spe.role = .accepted ∧ live.bus.silence = .live ∧ live.spe.view ≠ none ∧
    silent.bus.silence = .silent ∧ silent.bsv.board = .ready ∧ silent.lct.stuck = false ∧ silent.spe.seatWait = none ∧
    { silent with bsv := { silent.bsv with board := .stalled } }.bsv.board ≠ .ready := by
  decide

/-- This handover's PASS and OFFER, a PASS of another number, target and role, the own BID, the accepted ANSWER YES and another, and the
HELLO of a recovered line. -/
theorem witness_PassReportEndsHandover :
    let s (r : Role) := { inRole r with
      spe := { (inRole r).spe with target := some 2, number := 9, accepted := some ⟨2, 9⟩, recoveryHello := true }
      mnu := { node.mnu with state := .wait } }
    (s .passing).spe.target = some 2 ∧ (s .passing).spe.role = .passing ∧ (2 : Rank) ≠ (s .passing).rank ∧
    (s .passing).mnu.state = .wait ∧ (s .bidding).spe.role = .bidding ∧ (s .offering).spe.role = .offering ∧
    (s .offering).spe.target = some 2 ∧ (s .offering).spe.number = 9 ∧ (9 : HandoverNumber) ≠ 8 ∧
    (s .accepted).spe.role = .accepted ∧ (s .accepted).spe.accepted.map (·.number) = some 9 ∧
    (s .standby).spe.recoveryHello = true ∧ node.spe.recoveryHello = false ∧ (8 : HandoverNumber) ≠ (s .passing).spe.number ∧
    (s .passing).spe.target ≠ some 4 ∧ (s .holding).spe.role ≠ .passing ∧ (4 : Rank) ≠ (s .passing).rank ∧
    (Frame.mk (.rank 4) (.pass 9 0 0)).target = .rank 4 ∧ (Frame.mk (.rank 4) (.pass 9 0 0)).target ≠ .rank 2 := by
  decide

/-- Closures seen for exactly the filter time since the load ended and for one tick less, one going on, one jammed, a pulse and a gap, with
and without a coin owed, and READY and another state handed. -/
theorem witness_CoinChannelEvents :
    let s (c : CoinChannel) := { withBoard .standby .ready with
      cnu := { node.cnu with one := c }, cfl := { node.cfl with loadEnded := some 520000 } }
    let c := CoinChannel.reset
    let going (jammed : Bool) := s { c with closed := true, closure := some ⟨900000, jammed⟩ }
    let paying (d : Delivery) (n : Nat) := s { c with delivery := d, timer := some 5000000, pending := n }
    (s c).cfl.loadEnded = some 520000 ∧ (s c).cnu.dormant = false ∧ (s c).quantities.coinFilterMs * 48000 = 480000 ∧
    480000 ≤ min 5000000 ((s c).now + 0 - 520000) ∧ min 479999 ((s c).now + 0 - 520000) < 480000 ∧
    ((s c).cnu.chan .one).closed = false ∧
    ((going false).cnu.chan .one).closure = some ⟨900000, false⟩ ∧
    ((going true).cnu.chan .one).closure = some ⟨900000, true⟩ ∧
    ((paying .pulse 1).cnu.chan .one).timer = some 5000000 ∧ ((paying .pulse 1).cnu.chan .one).delivery = .pulse ∧
    ((paying .gap 1).cnu.chan .one).delivery = .gap ∧ 0 < ((paying .gap 1).cnu.chan .one).pending ∧
    (paying .gap 1).bsv.board = .ready ∧ ((paying .gap 0).cnu.chan .one).pending = 0 ∧
    ((paying .idle 1).cnu.chan .one).delivery = .idle ∧ 0 < ((paying .idle 1).cnu.chan .one).pending ∧
    (withBoard .standby .stalled).bsv.board ≠ .ready := by
  decide

/-- A closure of exactly 250 ms under each duty, with the count at 30 and at 31. -/
theorem witness_CoinIsCountedByDuty :
    let s (d : CoinDuty) (n : Nat) := { withBoard .passing .ready with
      spe := { (inRole .passing).spe with quietCap := some 50000000 }
      cnu := { node.cnu with duty := d, one := { CoinChannel.reset with
        closed := true, closure := some ⟨1000000, false⟩, pending := n, carried := n, late := n } } }
    (s .own 30).cfl.loadEnded = some 0 ∧
    ((s .own 30).cnu.chan .one).closure = some ⟨1000000, false⟩ ∧ (s .own 30).cnu.dormant = false ∧
    (s .own 30).quantities.coinFilterMs * 48000 = 480000 ∧ 480000 ≤ min 480000 ((s .own 30).now + 12000000 - 0) ∧
    (s .own 30).now + 12000000 - (480000 - 480000) - 1000000 = 12000000 ∧
    [CoinDuty.own, .carrying, .late, .none].map (fun d => (s d 31).cnu.duty) = [.own, .carrying, .late, .none] ∧
    ((s .own 30).cnu.chan .one).delivery = .idle ∧ (s .own 30).bsv.board = .ready ∧ (inRole .holding).bsv.board ≠ .ready ∧
    ((s .own 31).cnu.chan .one).pending = 31 ∧ (s .carrying 30).spe.quietCap = some 50000000 ∧
    (s .carrying 30).spe.role = .passing ∧ (s .carrying 30).spe.passIssued = false ∧ node.spe.role ≠ .passing := by
  decide

/-- An input held for exactly 4 ms since the load ended and for one tick less, parked and following, a release with the menu open; an entry to FOLLOWING with the source
pressed and released, an exit from it, and a mapper that stays. -/
theorem witness_PanelMovesLatchesAndLines :
    let following := { inRole .holding with cmp := { node.cmp with following := true } }
    let held := { following with cmp := { following.cmp with pressed := Vector.replicate 26 true } }
    let enters := { withBoard .holding .ready with cmp := { node.cmp with lit1 := true } }
    node.cfl.loadEnded = some 0 ∧ node.cmp.dormant = false ∧ node.quantities.panelFilterMs * 48000 = 192000 ∧
    192000 ≤ min 192000 (node.now + 0 - 0) ∧ min 191999 (node.now + 0 - 0) < 192000 ∧ node.mnu.state = .closed ∧
    node.cmp.pressed[panelIndex .select] = false ∧ node.cmp.following = false ∧ following.cmp.following = true ∧
    following.mapTable = some (Vector.replicate 24 ⟨.player 0, .lowActive⟩) ∧ held.cmp.pressed[panelIndex (.player 0)] = true ∧
    { held with mnu := { node.mnu with state := .browse } }.mnu.state ≠ .closed ∧
    enters.shouldFollow = true ∧ enters.cmp.following = false ∧ enters.mapTable.isSome = true ∧ following.shouldFollow = false ∧
    (withBoard .standby .ready).shouldFollow = false ∧ Role.holding ≠ node.spe.role ∧ MenuState.browse ≠ enters.mnu.state ∧
    enters.setRole .offering ≠ enters ∧ enters.spe.role ≠ .standby ∧ enters.bsv.board ≠ .failed ∧
    enters.mapperDecides.cmp.following = true ∧ (enters.handBoard .ready none).cmp.following = true := by
  decide +kernel

/-- A press seen for exactly 4 ms, parked and following; every key, and the states of the menu they act in and do nothing in. -/
theorem witness_MenuKeysAct :
    let s (m : MenuState) (c : Rank) (b : BoardState) := { withBoard .holding b with
      mnu := { node.mnu with state := m, cursor := c }
      roster := Vector.replicate 8 { presence := .present, board := some .ready, title := none, holding := false } }
    let following := { s .browse 3 .ready with cmp := { node.cmp with following := true } }
    [PanelInput.player 0, .player 1, .player 2, .player 3, .service, .select, .player 5].map
      (fun i => (s .browse 3 .ready).keyOf i) = [.up, .down, .pick, .back, .service, .select, .plain] ∧
    (s .browse 3 .ready).cfl.loadEnded = some 0 ∧ (s .browse 3 .ready).cmp.dormant = false ∧
    (s .browse 3 .ready).quantities.panelFilterMs * 48000 = min 192000 ((s .browse 3 .ready).now + 0 - 0) ∧
    (s .browse 3 .ready).cmp.pressed[panelIndex (.player 2)] = false ∧ (s .browse 3 .ready).cmp.following = false ∧
    following.cmp.following = true ∧ following.mapTable = some (Vector.replicate 24 ⟨.player 0, .lowActive⟩) ∧
    (s .wait 3 .ready).mnu.state = .wait ∧ (s .notice 3 .ready).mnu.state = .notice ∧ (s .closed 3 .ready).mnu.state = .closed ∧
    (s .browse 3 .ready).mnu.state = .browse ∧ (s .browse 3 .ready).mnu.cursor = (s .browse 3 .ready).rank ∧
    (s .browse 2 .ready).listed 2 = true ∧ (2 : Rank) < (s .browse 3 .ready).mnu.cursor ∧
    (s .browse 3 .ready).mnu.cursor < (4 : Rank) ∧ (s .browse 2 .ready).mnu.cursor ≠ (s .browse 2 .ready).rank ∧
    ((s .browse 2 .ready).entry 2).board = some .ready ∧ (s .browse 2 .ready).spe.role = .holding ∧
    (s .browse 2 .ready).lct.stuck = false ∧
    ({ node with mnu := { node.mnu with state := .browse, cursor := 2 } }.entry 2).board ≠ some .ready ∧
    (s .service 3 .stalled).mnu.state = .service ∧ (s .service 3 .stalled).bsv.board ≠ .vacant ∧
    (s .service 3 .stalled).bsv.board ≠ .resetting ∧ (s .service 3 .resetting).bsv.board = .resetting ∧
    { (s .service 3 .resetting).bsv with resetHold := some 5 }.resetHold = some 5 ∧ (s .service 3 .vacant).bsv.board = .vacant := by
  decide

/-- The three timers in the states they act in, and FAILED handed to a menu in each state. -/
theorem witness_MenuTimersEnd :
    let s (m : MenuState) (v : Bool) := { inRole .holding with
      mnu := { node.mnu with
        state := m, selectTimer := some 5000000, browseTimer := some 5000000, noticeTimer := some 5000000 }
      cmp := { node.cmp with latch := Vector.replicate 26 v } }
    (s .closed true).mnu.selectTimer = some 5000000 ∧ (s .closed true).latched .select = true ∧
    (s .closed true).mnu.state = .closed ∧ (s .closed true).spe.role = .holding ∧ (s .closed false).latched .select = false ∧
    (s .browse true).mnu.browseTimer = some 5000000 ∧ (s .notice true).mnu.noticeTimer = some 5000000 ∧
    (s .notice true).mnu.state = .notice ∧ (s .browse true).mnu.state ≠ .notice ∧ (s .browse true).mnu.state = .browse ∧
    (s .wait true).mnu.state = .wait ∧ (s .service true).mnu.state = .service ∧ (inRole .offering).mnu.state = .closed ∧
    (inRole .offering).spe.role ≠ .holding ∧ BoardState.stalled ≠ .failed := by
  decide

theorem witness_LampsMirrorAndBlink :
    let s (r : Role) (p : LampPattern) := { inRole r with lamps := { node.lamps with st0 := ⟨p, true, some 2000000⟩ } }
    let lost := { inRole .withdrawn with
      spe := { (inRole .withdrawn).spe with withdrawal := some .noConfig }
      lamps := { node.lamps with st2 := ⟨.fast, true, some 2000000⟩ } }
    node.cfl.loadEnded = some 0 ∧ 48000 ≤ min 48000 (node.now + 0 - 0) ∧
    node.cmp.dormant = false ∧ node.cmp.litInput .bl1 ≠ true ∧ node.cmp.litInput .bl2 ≠ true ∧
    (s .offering .slow).lamps.st0.phaseEnd = some 2000000 ∧
    (s .offering .slow).lamps.st0.pattern = (s .offering .slow).lampPattern .st0 ∧
    lost.lamps.st2.phaseEnd = some 2000000 ∧ lost.lamps.st2.pattern = lost.lampPattern .st2 ∧
    [(inRole .holding).lampPattern .st0, (inRole .passing).lampPattern .st0, (inRole .standby).lampPattern .st0,
      lost.lampPattern .st2] = [.steady, .slow, .dark, .fast] ∧ (inRole .holding).lamps.st0.pattern = .dark := by
  decide

/-- The worked case on line 109, the first and the last tick of dot 138, with lines at each edge of the grid, a menu open and closed, the
switch open, and a board edge at the least distance of a line start and one tick less. -/
theorem witness_OverlayGridIsPlaced :
    let o : OverlayConfig := ⟨448, 96, 40, 2⟩
    let row : DrawnRow := ⟨48816, 4, Vector.replicate 24 ⟨1, 7, true⟩⟩
    let s (now : Nat) := { inRole .holding with
      now := now, mnu := { node.mnu with state := .browse }, tmu := { node.tmu with reference := some { sig with l16 := 48816 } }
      ovg := { node.ovg with count := some ⟨109, 1000000, 262⟩, draw := true, row := some row } }
    let shown := 1000000 + 12
    0 < o.scale ∧ 0 < o.dots ∧ (s 0).quantities.overlay = some o ∧ (s 0).tmu.reference = some { sig with l16 := 48816 } ∧
    (2 < 3 ∧ 262 ≤ 262 ∧ 39 < o.v0 ∧ o.v0 + 100 * o.scale ≤ 240) ∧
    (o.v0 + o.scale * (10 * 3 + 4) ≤ 109 ∧ 109 < o.v0 + o.scale * (10 * 3 + 4 + 1)) ∧
    node.osw.video = .isOpen ∧ (s 0).osw.video = .isClosed ∧ node.ovg.count = none ∧ (s 0).ovg.count = some ⟨109, 1000000, 262⟩ ∧
    (s 0).osw.source = .board ∧ 3 * 48816 / 64 = 2288 ∧ ticksBetween 1002288 1000000 = 2288 ∧ ticksBetween 1002287 1000000 < 2288 ∧
    (s 0).ovg.row = some row ∧ (s 0).ovg.draw = true ∧ o.h0 + 8 * 5 + 2 = 138 ∧
    shown + dotStart 48816 448 138 ≤ (s 1000951).now ∧ (s 1000957).now < shown + dotStart 48816 448 139 ∧
    shown + dotStart 48816 448 (96 + 192) ≤ (s 1001973).now ∧ shown + 48816 / 16 ≤ (s 1003063).now ∧
    (s 1000664).now < shown + dotStart 48816 448 96 ∧
    { (s 0).osw with source := .fill }.source = .fill ∧ node.ovg.row = none ∧ (62 : Glyph).val = 62 := by
  decide +kernel

/-! ## A state, not that of reset, for each invariant -/

/-- A holder with a READY board, its menu closed and its mapper following. -/
def holder : State :=
  { withBoard .holding .ready with
    lct := { node.lct with txq := [⟨.all, .seated⟩, ⟨.rank 2, .offer 9⟩, ⟨.all, .bid .ready⟩] }
    bsv := { node.bsv with board := .ready, brst := false, attempts := 3 }
    tmu := { node.tmu with phase := .collecting, hits := [5#32], ring := [.incomplete], stable := 15, drift := 3 }
    cnu := { node.cnu with duty := .own, cblk := false, one := { CoinChannel.reset with pending := 31 } }
    cmp := { node.cmp with following := true } }

theorem witness_EveryStepKeepsCounts :
    holder.cnu.one.pending = 31 ∧ holder.bsv.attempts = 3 ∧ holder.tmu.stable = 15 ∧ holder.tmu.hits.length = 1 ∧
    holder.CoinsWithin ∧ holder.AttemptsWithin ∧ holder.CountsWithin ∧ holder.HitsFollowPhase := by
  unfold State.CoinsWithin CoinChannel.Within State.AttemptsWithin State.CountsWithin State.HitsFollowPhase
  decide

theorem witness_EveryStepKeepsQueues : holder.lct.txq.length = 3 ∧ holder.QueuesWithin := by
  unfold State.QueuesWithin distinctWaiting
  decide

theorem witness_EveryStepKeepsRoleFollowed :
    holder.osw.video = .isClosed ∧ holder.SwitchesFollowRole ∧ holder.MenuFollowsRole ∧ holder.EdgesFollow ∧
    holder.DutyFollowsRole := by
  unfold State.SwitchesFollowRole State.MenuFollowsRole State.EdgesFollow State.DutyFollowsRole
  decide

theorem witness_EveryStepKeepsSyncSource :
    holder.osw.source = .board ∧ holder.FillFollowsSource ∧ holder.BoardSourceIsReady ∧ holder.SupervisorConsistent := by
  unfold State.FillFollowsSource State.BoardSourceIsReady State.SupervisorConsistent
  decide

theorem witness_EveryStepKeepsWithdrawnSilent :
    holder.lct.mode = .running ∧ holder.WithdrawnIsSilent ∧ holder.RoleTimers ∧ holder.BidSetDistinct := by
  unfold State.WithdrawnIsSilent State.RoleTimers State.BidSetDistinct
  decide

theorem witness_EveryStepKeepsViewAndCblk :
    holder.spe.view = some 3 ∧ holder.WithdrawnIsSilent ∧ holder.RoleTimers ∧ holder.ViewFollowsRole ∧ holder.CblkFollows := by
  unfold State.WithdrawnIsSilent State.RoleTimers State.ViewFollowsRole State.CblkFollows
  decide

/-- The holder with its game list open under the notice BUSY. -/
def browsing : State :=
  { holder with mnu := { holder.mnu with state := .browse, cursor := 3, notice := some .busy } }

/-- It shows its state at the end of a command. -/
theorem witness_EveryStepLeavesStateShown :
    browsing.settled.lamps.st0.pattern = .steady ∧ browsing.settled.lamps.st1.pattern = .steady ∧
    browsing.settled.lamps.st2.pattern = .dark ∧ browsing.settled.mnu.state = .browse ∧ browsing.settled.LampsShown ∧
    browsing.settled.CellsShown := by
  refine ⟨rfl, rfl, rfl, rfl, ⟨⟨⟨rfl, rfl⟩, ⟨rfl, rfl⟩, ⟨rfl, rfl⟩⟩, (fun h => nomatch h), fun _ => ?_⟩,
    ⟨fun n h => ?_, (fun h => nomatch h), (fun h => nomatch h)⟩, ⟨(fun h => nomatch h), fun _ => ?_⟩, (fun h => nomatch h)⟩
  · unfold State.SomeFault; decide +kernel
  · cases h
    unfold State.RowHolds
    simp only [State.settled_cell]
    decide +kernel
  · unfold State.RowHolds
    simp only [State.settled_cell]
    refine ⟨by decide +kernel, by decide +kernel, by decide +kernel, fun r => ?_, by decide +kernel⟩
    revert r
    decide +kernel

end Sys2Proof.Tests
end

section
/-!
SUPPORT. One step, and what it is taken to keep: an invariant of every command is one of every step.
-/

namespace Sys2Proof.Machine

/-- An invariant that the queue of waiting commands and the clock do not touch, and that every command keeps, is kept by every step. -/
theorem keeps_of_exec {Inv : State → Prop} (hqueue : ∀ s p, Inv s → Inv (s.withPending p))
    (htick : ∀ s n, Inv s → Inv (s.elapse n))
    (hexec : ∀ c s t, Inv s → exec c s = .next t → Inv t) : Keeps Inv := by
  intro s t hs ht
  unfold step at ht
  split at ht
  · exact hexec _ _ _ (hqueue s _ hs) ht
  · split at ht
    · exact hexec _ _ _ hs ht
    · cases ht
      exact htick s 1 hs

/-- Every command ends in `done` of what it makes of the state. -/
theorem next_of_done {s t : State} (h : done s = .next t) : t = s.settled := by
  cases h
  rfl

end Sys2Proof.Machine
end

section
/-!
SUPPORT. The two longest events in parts that have names: FIELD START (R13, R20) is taken by classifier and measurement unit, then handed
on; LOAD END (R181) is taken by the loader, then by the blocks that come before the engine, then by the rest.
-/

namespace Sys2Proof.Machine

/-- The field age that a FIELD START at `lead` closes the cycle with (R12, R27). -/
def State.fieldAge (s : State) (lead : Moment) : Nat :=
  saturatedAge (lead - s.pcl.ageFrom.getD lead)

/-- FIELD START at the classifier and the measurement unit (R12, R20). -/
def State.fieldTaken (s : State) (lead : Moment) : State :=
  { s with
    pcl := { s.pcl with lineCount := 0, oddCount := 0, ageFrom := some lead }
    tmu := s.tmu.fieldStartTaken s.quantities s.bsv.board (stampOf lead) s.pcl.oddCount (s.fieldAge lead) s.ssl.polarity }

/-- What a FIELD START at `lead` raises to the board supervisor (R32, R33). -/
def State.fieldRaises (s : State) (lead : Moment) : Option TmuEvent :=
  s.tmu.fieldStartRaises s.quantities s.pcl.oddCount (s.fieldAge lead) s.ssl.polarity

theorem State.fieldStart_eq (s : State) (lead : Moment) :
    s.fieldStart lead =
      (((s.fieldTaken lead).boardTmuEvent (s.fieldRaises lead) lead).outputField lead).overlayBoardField lead :=
  rfl

/-- LOAD END at the loader: the quantities and the block are taken, the port is released (R181). -/
def State.loadTaken (s : State) (copy : Option (List Byte)) : State :=
  { s with
    cfg := some (match copy with
      | some b => blockQuantities b
      | none => defaultQuantities)
    cfl := { s.cfl with
      load := if copy.isSome then .endedValid else .endedInvalid, pause := none, copy := copy, port := .released
      loadEnded := some s.now } }

/-- LOAD END up to the line controller: slicer, board supervisor, and RUNNING or MUTE (R1, R42, R70). -/
def State.loadStarted (s : State) (copy : Option (List Byte)) : State :=
  let u := (s.loadTaken copy).slicerLoadEnd.endLoadPeriod
  u.withLine (u.lct.loadEnd u.now copy.isSome)

theorem State.loadEnd_eq (s : State) (copy : Option (List Byte)) :
    s.loadEnd copy =
      (if copy.isSome then (s.loadStarted copy).speRunning else (s.loadStarted copy).withdraw .noConfig).coinLoadEnd.mapperLoadEnd :=
  rfl

end Sys2Proof.Machine
end

section
/-!
SUPPORT. The counts of O54. `CountsKept r s` says that `s`, reached from `r`, has its counts in range wherever `r` has; for each operation
one lemma says that it goes on doing so. The lemmas compose in the order in which an operation calls others: `(h.setRole r).send f`.
-/

namespace Sys2Proof.Machine

/-! ## The relation -/

/-- From `r` to `s` no count leaves its range, and the hits go on following the phase. -/
def State.CountsKept (r s : State) : Prop :=
  (r.CoinsWithin → s.CoinsWithin) ∧ (r.AttemptsWithin → s.AttemptsWithin) ∧ (r.CountsWithin → s.CountsWithin) ∧
  (r.HitsFollowPhase → s.HitsFollowPhase)

namespace State.CountsKept

variable {r s t : State}

theorem refl (s : State) : s.CountsKept s := ⟨id, id, id, id⟩

theorem trans (h : r.CountsKept s) (h' : s.CountsKept t) : r.CountsKept t := by
  obtain ⟨coins, attempts, counts, hits⟩ := h
  obtain ⟨coins', attempts', counts', hits'⟩ := h'
  exact ⟨coins' ∘ coins, attempts' ∘ attempts, counts' ∘ counts, hits' ∘ hits⟩

/-- What leaves the counting blocks as they are keeps their counts. -/
theorem of_frame (h : t.cnu = s.cnu ∧ t.bsv.attempts = s.bsv.attempts ∧ t.pcl = s.pcl ∧ t.tmu = s.tmu ∧ t.lct = s.lct ∧
    t.osw.mismatches = s.osw.mismatches) : s.CountsKept t := by
  obtain ⟨hcnu, hbsv, hpcl, htmu, hlct, hosw⟩ := h
  simp only [State.CountsKept, State.CoinsWithin, State.AttemptsWithin, State.CountsWithin, State.HitsFollowPhase, hcnu, hbsv, hpcl,
    htmu, hlct, hosw, imp_self, and_self]

/-- The coin unit alone changes, its counts within their range. -/
theorem of_coins (hc : s.CoinsWithin → t.CoinsWithin) (h : t.bsv = s.bsv ∧ t.pcl = s.pcl ∧ t.tmu = s.tmu ∧ t.lct = s.lct ∧
    t.osw = s.osw) : s.CountsKept t := by
  obtain ⟨hbsv, hpcl, htmu, hlct, hosw⟩ := h
  simp only [State.CountsKept, State.AttemptsWithin, State.CountsWithin, State.HitsFollowPhase, hbsv, hpcl, htmu, hlct, hosw,
    imp_self, and_true]
  exact hc

/-- The classifier, the line controller and the contention check alone change, their counts within their ranges. -/
theorem of_counts (hc : s.CountsWithin → t.CountsWithin) (h : t.cnu = s.cnu ∧ t.bsv = s.bsv ∧ t.tmu = s.tmu) : s.CountsKept t := by
  obtain ⟨hcnu, hbsv, htmu⟩ := h
  simp only [State.CountsKept, State.CoinsWithin, State.AttemptsWithin, State.HitsFollowPhase, hcnu, hbsv, htmu, imp_self, and_true,
    true_and]
  exact hc

/-- The engine's own state, the clock, the menu and the like are changed with the counting blocks as they are. -/
theorem withSpe (h : r.CountsKept s) (e : Spe) : r.CountsKept { s with spe := e } := h
theorem withMnu (h : r.CountsKept s) (m : Menu) : r.CountsKept { s with mnu := m } := h
theorem withSsl (h : r.CountsKept s) (l : Slicer) : r.CountsKept { s with ssl := l } := h
theorem withBus (h : r.CountsKept s) (b : BusSense) : r.CountsKept { s with bus := b } := h
theorem elapse (h : r.CountsKept s) (n : Nat) : r.CountsKept (s.elapse n) := h
theorem advanceTo (h : r.CountsKept s) (m : Moment) : r.CountsKept (s.advanceTo m) := h
theorem settled (h : r.CountsKept s) : r.CountsKept s.settled := h.trans (of_frame (by simp))

end State.CountsKept

/-! ## The coin unit (R140) -/

/-- Both channels stay within their range when one is replaced by a channel within it. -/
theorem CoinUnit.setChan_within {u : CoinUnit} {ch : Channel} {c : CoinChannel} (hu : u.one.Within ∧ u.two.Within) (hc : c.Within) :
    (u.setChan ch c).one.Within ∧ (u.setChan ch c).two.Within := by
  obtain ⟨hone, htwo⟩ := hu
  cases ch
  · exact ⟨hc, htwo⟩
  · exact ⟨hone, hc⟩

theorem State.CoinsWithin.chan {s : State} (h : s.CoinsWithin) (ch : Channel) : (s.cnu.chan ch).Within := by
  obtain ⟨hone, htwo⟩ := h
  cases ch
  · exact hone
  · exact htwo

/-- A channel that keeps its counts is within its range where it was. -/
theorem CoinChannel.Within.of_counts {c d : CoinChannel} (h : c.Within) (hp : d.pending ≤ c.pending) (hc : d.carried = c.carried)
    (hl : d.late = c.late) : d.Within := by
  obtain ⟨pending, carried, late⟩ := h
  exact ⟨hp.trans pending, hc ▸ carried, hl ▸ late⟩

namespace State.CountsKept

variable {r s t : State}

/-- A channel whose pending count does not rise takes its place in the coin unit. -/
theorem withChan (h : r.CountsKept s) (ch : Channel) (c : CoinChannel) (hp : c.pending ≤ (s.cnu.chan ch).pending)
    (hc : c.carried = (s.cnu.chan ch).carried) (hl : c.late = (s.cnu.chan ch).late) : r.CountsKept (s.withChan ch c) :=
  h.trans (of_coins (fun hs => CoinUnit.setChan_within hs ((hs.chan ch).of_counts hp hc hl)) (by simp))

theorem decideCblk (h : r.CountsKept s) : r.CountsKept s.decideCblk := h

theorem idleCheck (h : r.CountsKept s) (ch : Channel) : r.CountsKept (s.idleCheck ch) := by
  simp only [State.idleCheck]
  split
  · exact h.withChan ch _ le_rfl rfl rfl
  · exact h

theorem cutPulse (h : r.CountsKept s) (ch : Channel) : r.CountsKept (s.cutPulse ch) := by
  simp only [State.cutPulse]
  split
  · exact h.withChan ch _ le_rfl rfl rfl
  · exact h

theorem addPending (h : r.CountsKept s) (ch : Channel) (n : Nat) : r.CountsKept (s.addPending ch n) := by
  refine idleCheck (h.trans (of_coins (fun hs => ?_) (by simp))) ch
  obtain ⟨-, carried, late⟩ := hs.chan ch
  exact CoinUnit.setChan_within hs ⟨addCoins_le _ _, carried, late⟩

theorem addCarried (h : r.CountsKept s) (ch : Channel) : r.CountsKept (s.addCarried ch) :=
  h.trans (of_coins (fun hs =>
    have ⟨pending, _, late⟩ := hs.chan ch
    CoinUnit.setChan_within hs ⟨pending, addCoins_le _ _, late⟩) (by simp))

theorem addLate (h : r.CountsKept s) (ch : Channel) : r.CountsKept (s.addLate ch) :=
  h.trans (of_coins (fun hs =>
    have ⟨pending, carried, _⟩ := hs.chan ch
    CoinUnit.setChan_within hs ⟨pending, carried, addCoins_le _ _⟩) (by simp))

theorem clearTravelling (h : r.CountsKept s) : r.CountsKept { s with cnu := s.cnu.clearTravelling } :=
  h.trans (of_coins (fun hs =>
    have ⟨⟨one, _⟩, two, _⟩ := hs
    ⟨⟨one, Nat.zero_le _, Nat.zero_le _⟩, two, Nat.zero_le _, Nat.zero_le _⟩) (by simp))

theorem coinRole (h : r.CountsKept s) (role : Role) : r.CountsKept (s.coinRole role) := h
theorem coinFreeze (h : r.CountsKept s) : r.CountsKept s.coinFreeze := h
theorem coinDelivered (h : r.CountsKept s) : r.CountsKept s.coinDelivered := h.clearTravelling

theorem coinBoard (h : r.CountsKept s) (board : BoardState) : r.CountsKept (s.coinBoard board) := by
  unfold State.coinBoard
  split
  · exact ((h.idleCheck .one).idleCheck .two).decideCblk
  · exact ((h.cutPulse .one).cutPulse .two).decideCblk

theorem returnCoins (h : r.CountsKept s) (ch : Channel) : r.CountsKept (s.returnCoins ch) :=
  (h.addPending ch _).addPending ch _

theorem coinFailed (h : r.CountsKept s) : r.CountsKept s.coinFailed :=
  ((h.returnCoins .one).returnCoins .two).clearTravelling

theorem coinSeated (h : r.CountsKept s) (c1 c2 : Nat) : r.CountsKept (s.coinSeated c1 c2) :=
  (h.addPending .one c1).addPending .two c2

theorem coinLoadEnd (h : r.CountsKept s) : r.CountsKept s.coinLoadEnd := by
  have awake : r.CountsKept { s with cnu := { s.cnu with dormant := false } } := h
  exact ((awake.idleCheck .one).idleCheck .two).decideCblk

theorem closureEnds (h : r.CountsKept s) (ch : Channel) : r.CountsKept (s.closureEnds ch) := h.withChan ch _ le_rfl rfl rfl
theorem latchJam (h : r.CountsKept s) (ch : Channel) : r.CountsKept (s.latchJam ch) := h.withChan ch _ le_rfl rfl rfl
theorem closureJams (h : r.CountsKept s) (ch : Channel) : r.CountsKept (s.closureJams ch) := h.withChan ch _ le_rfl rfl rfl
theorem closureBegins (h : r.CountsKept s) (ch : Channel) (m : Moment) : r.CountsKept (s.closureBegins ch m) :=
  h.withChan ch _ le_rfl rfl rfl
theorem pulseEnds (h : r.CountsKept s) (ch : Channel) : r.CountsKept (s.pulseEnds ch) := h.withChan ch _ (Nat.sub_le _ _) rfl rfl
theorem gapEnds (h : r.CountsKept s) (ch : Channel) : r.CountsKept (s.gapEnds ch) :=
  (h.withChan ch { s.cnu.chan ch with delivery := .idle, timer := none } le_rfl rfl rfl).idleCheck ch

theorem coinHeard (h : r.CountsKept s) : r.CountsKept s.coinHeard := by
  unfold State.coinHeard
  split
  · split
    · exact h
    · exact h.withSpe _
  · exact h

theorem countCoin (h : r.CountsKept s) (ch : Channel) : r.CountsKept (s.countCoin ch) := by
  unfold State.countCoin
  split
  · exact h.addPending ch 1
  · exact (h.addCarried ch).coinHeard
  · exact h.addLate ch
  · exact h

theorem closureJudged (h : r.CountsKept s) (ch : Channel) (start stop : Moment) : r.CountsKept (s.closureJudged ch start stop) := by
  unfold State.closureJudged
  split
  · exact (h.closureEnds ch).countCoin ch
  · exact (h.closureEnds ch).latchJam ch

/-! ## The menu, the mapper and the roster -/

theorem mapperDecides (h : r.CountsKept s) : r.CountsKept s.mapperDecides := h.trans (of_frame (by simp))
theorem setLatch (h : r.CountsKept s) (i : PanelInput) (v : Bool) : r.CountsKept (s.setLatch i v) := h
theorem closeMenu (h : r.CountsKept s) : r.CountsKept s.closeMenu := h.trans (of_frame (by simp))
theorem openBrowse (h : r.CountsKept s) : r.CountsKept s.openBrowse := h.trans (of_frame (by simp))
theorem enterWait (h : r.CountsKept s) : r.CountsKept s.enterWait := h.trans (of_frame (by simp))
theorem enterService (h : r.CountsKept s) : r.CountsKept s.enterService := h.trans (of_frame (by simp))
theorem enterNotice (h : r.CountsKept s) (n : Notice) : r.CountsKept (s.enterNotice n) := h.trans (of_frame (by simp))
theorem menuRole (h : r.CountsKept s) (role : Role) : r.CountsKept (s.menuRole role) := h.trans (of_frame (by simp))
theorem menuBoard (h : r.CountsKept s) (board : BoardState) : r.CountsKept (s.menuBoard board) := h.trans (of_frame (by simp))
theorem menuHandoverFailed (h : r.CountsKept s) (n : Notice) : r.CountsKept (s.menuHandoverFailed n) := h.trans (of_frame (by simp))
theorem menuHandoverComplete (h : r.CountsKept s) : r.CountsKept s.menuHandoverComplete := h.trans (of_frame (by simp))
theorem mapperLoadEnd (h : r.CountsKept s) : r.CountsKept s.mapperLoadEnd := h.trans (of_frame (by simp))
theorem rosterReport (h : r.CountsKept s) (rep : Report) (f : Frame) : r.CountsKept (s.rosterReport rep f) :=
  h.trans (of_frame (by simp))
theorem rosterTake (h : r.CountsKept s) (k : Rank) (body : Body) : r.CountsKept (s.rosterTake k body) :=
  h.trans (of_frame (by simp))

end State.CountsKept

/-! ## The output switch: no operation but the judgement of a bus line raises the mismatch count (R110) -/

/-- Starting the fill leaves the mismatch count. -/
@[simp] theorem State.startFill_mismatches (s : State) (m : Moment) : (s.startFill m).osw.mismatches = s.osw.mismatches := by
  simp [State.startFill]

/-- A closing forgets what the contention check held. -/
@[simp] theorem State.closeVideo_mismatches (s : State) : s.closeVideo.osw.mismatches = 0 := by
  simp only [State.closeVideo]
  split <;> simp [OutputSwitch.forget]

/-- So does an opening. -/
@[simp] theorem State.openVideo_mismatches (s : State) : s.openVideo.osw.mismatches = 0 := by
  simp [State.openVideo, OutputSwitch.forget]

/-- The switches that follow the role forget the mismatch count or leave it. -/
theorem State.switchesFollow_mismatches (s : State) (role : Role) : (s.switchesFollow role).osw.mismatches ≤ s.osw.mismatches := by
  simp only [State.switchesFollow]
  split <;> simp

@[simp] theorem State.outputBoard_mismatches (s : State) (board : BoardState) (field : Option Moment) :
    (s.outputBoard board field).osw.mismatches = s.osw.mismatches := by
  simp only [State.outputBoard, State.cutover, State.armReturn]
  repeat' split
  all_goals simp

@[simp] theorem State.outputField_mismatches (s : State) (lead : Moment) :
    (s.outputField lead).osw.mismatches = s.osw.mismatches := by
  simp only [State.outputField]
  repeat' split
  all_goals rfl

@[simp] theorem State.ownEdge_mismatches (s : State) (lead : Moment) : (s.ownEdge lead).osw.mismatches = s.osw.mismatches := by
  unfold State.ownEdge
  split <;> rfl

@[simp] theorem State.ownBoardEdge_mismatches (s : State) (lead : Moment) :
    (s.ownBoardEdge lead).osw.mismatches = s.osw.mismatches := by
  unfold State.ownBoardEdge
  split <;> simp

/-! ## The line controller: an enqueue, a drop and the modes leave the error counters (R78) -/

/-- Every error counter of the line controller is within its range. -/
def LineController.ErrorsWithin (l : LineController) : Prop :=
  l.clash ≤ 255 ∧ l.checkError ≤ 255 ∧ l.shortFrame ≤ 255 ∧ l.overrun ≤ 255

namespace State.CountsKept

variable {r s t : State}

/-- The mismatch count does not rise and the other counting blocks stay. -/
theorem of_mismatches (hm : t.osw.mismatches ≤ s.osw.mismatches) (h : t.cnu = s.cnu ∧ t.bsv = s.bsv ∧ t.pcl = s.pcl ∧
    t.tmu = s.tmu ∧ t.lct = s.lct) : s.CountsKept t := by
  obtain ⟨hcnu, hbsv, hpcl, htmu, hlct⟩ := h
  refine of_counts (fun hs => ?_) ⟨hcnu, hbsv, htmu⟩
  obtain ⟨hline, hodd, hring, hstable, hdrift, hclash, hcheck, hshort, hover, hmis⟩ := hs
  exact ⟨hpcl ▸ hline, hpcl ▸ hodd, htmu ▸ hring, htmu ▸ hstable, htmu ▸ hdrift, hlct ▸ hclash, hlct ▸ hcheck, hlct ▸ hshort,
    hlct ▸ hover, hm.trans hmis⟩

/-- A line controller whose error counters are within their ranges takes the place of one whose are. -/
theorem withLine (h : r.CountsKept s) (l : LineController) (hl : s.lct.ErrorsWithin → l.ErrorsWithin) : r.CountsKept (s.withLine l) := by
  refine h.trans (of_counts (fun hs => ?_) (by simp))
  obtain ⟨hline, hodd, hring, hstable, hdrift, hclash, hcheck, hshort, hover, hmis⟩ := hs
  obtain ⟨hclash, hcheck, hshort, hover⟩ := hl ⟨hclash, hcheck, hshort, hover⟩
  exact ⟨hline, hodd, hring, hstable, hdrift, hclash, hcheck, hshort, hover, hmis⟩

end State.CountsKept

theorem LineController.ErrorsWithin.beginIfReady {l : LineController} (h : l.ErrorsWithin) (now : Moment) :
    (l.beginIfReady now).ErrorsWithin := by
  unfold LineController.beginIfReady
  split
  · split <;> exact h
  · exact h

theorem LineController.ErrorsWithin.enqueue {l : LineController} (h : l.ErrorsWithin) (now : Moment) (f : Frame) :
    (l.enqueue now f).ErrorsWithin := by
  unfold LineController.enqueue
  split
  · refine LineController.ErrorsWithin.beginIfReady ?_ now
    exact h
  all_goals exact h

theorem LineController.ErrorsWithin.muteCommand {l : LineController} (h : l.ErrorsWithin) : l.muteCommand.ErrorsWithin := by
  unfold LineController.muteCommand
  split <;> exact h

namespace State.CountsKept

variable {r s t : State}

/-! ## Roles and reports -/

theorem switchesFollow (h : r.CountsKept s) (role : Role) : r.CountsKept (s.switchesFollow role) :=
  h.trans (of_mismatches (s.switchesFollow_mismatches role) (by simp))

theorem handRole (h : r.CountsKept s) (role : Role) : r.CountsKept (s.handRole role) :=
  (((h.switchesFollow role).coinRole role).mapperDecides).menuRole role

theorem setRole (h : r.CountsKept s) (role : Role) : r.CountsKept (s.setRole role) := by
  unfold State.setRole
  split
  · exact h
  · exact (h.withSpe _).handRole role

theorem setView (h : r.CountsKept s) (view : Option Rank) : r.CountsKept (s.setView view) := (h.withSpe _).decideCblk

theorem offerFails (h : r.CountsKept s) (reason : Notice) : r.CountsKept (s.offerFails reason) :=
  (h.setRole .holding).menuHandoverFailed reason

theorem passFails (h : r.CountsKept s) : r.CountsKept s.passFails := (h.withSpe _).coinFailed

theorem handoverFails (h : r.CountsKept s) (reason : Notice) : r.CountsKept (s.handoverFails reason) :=
  h.passFails.offerFails reason

theorem handoverCompletes (h : r.CountsKept s) (k : Rank) : r.CountsKept (s.handoverCompletes k) :=
  (((h.withSpe _).setRole .standby).coinDelivered).menuHandoverComplete

theorem recoveryReport (h : r.CountsKept s) (f : Frame) : r.CountsKept (s.recoveryReport f) := by
  unfold State.recoveryReport
  split
  · split
    · exact h.withSpe _
    · exact h
  · exact h

theorem roleReport (h : r.CountsKept s) (rep : Report) (f : Frame) : r.CountsKept (s.roleReport rep f) := by
  unfold State.roleReport
  split
  · exact h.withSpe _
  · split
    · exact h.offerFails _
    · exact h
  · split
    · split
      · split
        · exact h.handoverCompletes _
        · exact h.handoverFails _
        · exact h
      · exact h
    · exact h
  · split
    · split
      · exact h.withSpe _
      · exact h
    · exact h
  · exact h

theorem report (h : r.CountsKept s) (rep : Report) (f : Frame) : r.CountsKept (s.report rep f) :=
  ((h.rosterReport rep f).recoveryReport f).roleReport rep f

/-! ## Sending -/

theorem enqueue (h : r.CountsKept s) (f : Frame) : r.CountsKept { s with lct := s.lct.enqueue s.now f } :=
  h.withLine _ (·.enqueue s.now f)

theorem tryEnqueue (h : r.CountsKept s) (q : PendingRequest) : r.CountsKept (s.tryEnqueue q) := by
  simp only [State.tryEnqueue]
  split
  · exact h.report _ _
  · exact h.enqueue _

theorem send (h : r.CountsKept s) (q : PendingRequest) : r.CountsKept (s.send q) := by
  unfold State.send
  split
  · exact h.withSpe _
  · exact h.tryEnqueue q

theorem drainRequests (h : r.CountsKept s) (qs : List PendingRequest) : r.CountsKept (s.drainRequests qs) := by
  induction qs generalizing s with
  | nil => exact h
  | cons q rest ih =>
    unfold State.drainRequests
    split
    · split
      · exact h
      · exact ih ((h.withSpe _).tryEnqueue q)
    · exact ih h

theorem space (h : r.CountsKept s) : r.CountsKept s.space := h.drainRequests _

theorem dropHead (h : r.CountsKept s) : r.CountsKept { s with lct := s.lct.dropHead } := h.withLine _ id

theorem reportHead (h : r.CountsKept s) (rep : Report) : r.CountsKept (s.reportHead rep) := by
  simp only [State.reportHead]
  split
  · exact h
  · next f _ _ =>
    have reported := h.dropHead.report rep f
    split
    · exact reported.space
    · exact reported

theorem reportAll (h : r.CountsKept s) (q : List Frame) : r.CountsKept (s.reportAll q) := by
  induction q generalizing s with
  | nil => exact h
  | cons f rest ih => exact ih (h.report _ f)

/-! ## The screen protocol engine -/

theorem beginBid (h : r.CountsKept s) (joined : Option Rank) : r.CountsKept (s.beginBid joined) :=
  ((((h.withSpe _).setRole .bidding).withSpe _).send bidRequest).withSpe _

theorem bidCheck (h : r.CountsKept s) : r.CountsKept s.bidCheck := by
  unfold State.bidCheck
  split
  · exact h.beginBid none
  · exact h

theorem yieldTo (h : r.CountsKept s) (k : Rank) : r.CountsKept (s.yieldTo k) := (h.withSpe _).setRole .standby

theorem claim (h : r.CountsKept s) (k : Rank) : r.CountsKept (s.claim k) := by
  unfold State.claim
  split
  · exact h.setView _
  · exact (h.withSpe _).setView _
  · exact (h.withSpe _).setRole .standby
  · split
    · exact h.yieldTo k
    · exact h.send _
  · split
    · exact h.yieldTo k
    · exact h.send _
  all_goals exact h

theorem release (h : r.CountsKept s) (k : Rank) : r.CountsKept (s.release k) := by
  unfold State.release
  split
  · split
    · exact h.setView none
    · exact (h.setView none).bidCheck
    · exact h
  · exact h

theorem bidHeard (h : r.CountsKept s) (k : Rank) : r.CountsKept (s.bidHeard k) := by
  unfold State.bidHeard
  split
  · split
    · exact h.beginBid _
    · exact h
  · exact h.withSpe _
  · exact h.send _
  · exact h.send _
  all_goals exact h

theorem speBusSilent (h : r.CountsKept s) : r.CountsKept s.speBusSilent := by
  unfold State.speBusSilent
  split
  · exact h.setView none
  · exact (h.setView none).bidCheck
  · exact h

theorem contention (h : r.CountsKept s) : r.CountsKept s.contention := by
  unfold State.contention
  split
  · exact h.send _
  · exact h.send _
  · exact h

theorem muteCommand (h : r.CountsKept s) : r.CountsKept (s.withLine s.lct.muteCommand) := h.withLine _ (·.muteCommand)

theorem withdraw (h : r.CountsKept s) (reason : WithdrawalReason) : r.CountsKept (s.withdraw reason) := by
  unfold State.withdraw
  split
  · exact h
  · exact (h.muteCommand.withSpe _).setRole .withdrawn

theorem speRankClash (h : r.CountsKept s) : r.CountsKept s.speRankClash := by
  unfold State.speRankClash
  split
  · exact h.passFails.withdraw _
  · exact h.withdraw _

theorem sendHello (h : r.CountsKept s) (reply : Bool) : r.CountsKept (s.sendHello reply) := (h.withSpe _).send _

theorem speRunning (h : r.CountsKept s) : r.CountsKept s.speRunning := (h.sendHello true).withSpe _

theorem speBoard (h : r.CountsKept s) (board : BoardState) : r.CountsKept (s.speBoard board) := by
  have announced : r.CountsKept (if s.spe.firstHello ∧ s.spe.role ≠ .withdrawn then s.sendHello false else s) := by
    split
    · exact h.sendHello false
    · exact h
  simp only [State.speBoard]
  split
  · exact announced.bidCheck
  · exact announced

theorem pick (h : r.CountsKept s) (k : Rank) : r.CountsKept (s.pick k) := by
  simp only [State.pick]
  split
  · split
    · exact h.menuHandoverFailed _
    · exact (((h.withSpe _).setRole .offering).send _).withSpe _
  · exact h

theorem answerOffer (h : r.CountsKept s) (k : Rank) (n : HandoverNumber) (yes : Bool) (reason : AnswerReason) :
    r.CountsKept (s.answerOffer k n yes reason) :=
  (h.withSpe _).send _

theorem enterAccepted (h : r.CountsKept s) (k : Rank) (n : HandoverNumber) : r.CountsKept (s.enterAccepted k n) :=
  ((h.withSpe _).setRole .accepted).withSpe _

theorem offerHeard (h : r.CountsKept s) (k : Rank) (n : HandoverNumber) : r.CountsKept (s.offerHeard k n) := by
  unfold State.offerHeard
  split
  · exact h
  · split
    · exact (h.withSpe _).answerOffer _ _ _ _
    · exact h.answerOffer _ _ _ _
  · repeat' split
    · exact h.answerOffer _ _ _ _
    · exact h.answerOffer _ _ _ _
    · exact h.answerOffer _ _ _ _
    · exact (h.enterAccepted k n).answerOffer _ _ _ _
  all_goals exact h.answerOffer _ _ _ _

theorem enterPassing (h : r.CountsKept s) : r.CountsKept s.enterPassing := (h.setRole .passing).withSpe _

theorem answerHeard (h : r.CountsKept s) (k : Rank) (n : HandoverNumber) (yes : Bool) (reason : AnswerReason) :
    r.CountsKept (s.answerHeard k n yes reason) := by
  unfold State.answerHeard
  repeat' split
  · exact h.enterPassing
  · exact h.offerFails _
  all_goals exact h

theorem seatByPass (h : r.CountsKept s) (k : Rank) (n : HandoverNumber) (c1 c2 : Nat) : r.CountsKept (s.seatByPass k n c1 c2) :=
  (((h.withSpe _).setRole .holding).coinSeated c1 c2).send _

theorem passHeard (h : r.CountsKept s) (k : Rank) (n : HandoverNumber) (c1 c2 : Nat) : r.CountsKept (s.passHeard k n c1 c2) := by
  unfold State.passHeard
  repeat' split
  · exact h.seatByPass k n c1 c2
  all_goals exact h

theorem issuePass (h : r.CountsKept s) : r.CountsKept s.issuePass := by
  simp only [State.issuePass]
  split
  · exact (h.coinFreeze.withSpe _).send _
  · exact h.coinFreeze.withSpe _

theorem leaveAccepted (h : r.CountsKept s) : r.CountsKept s.leaveAccepted := (h.withSpe _).setRole .standby

theorem speLineStuck (h : r.CountsKept s) : r.CountsKept s.speLineStuck := by
  simp only [State.speLineStuck]
  split
  · exact h
  · split
    · exact ((h.withSpe _).withSpe _).setRole .standby
    · exact (h.withSpe _).offerFails _
    · exact (h.withSpe _).handoverFails _
    · exact (h.withSpe _).leaveAccepted
    · exact h.withSpe _

theorem speLineClear (h : r.CountsKept s) : r.CountsKept s.speLineClear := by
  simp only [State.speLineClear]
  split
  · exact h
  · exact ((h.withSpe _).sendHello true).bidCheck

end State.CountsKept

/-! ## The measurement unit (R21, R22, R30, R32) -/

/-- Ring, stable count and drift count are in their ranges (R30, R32). -/
def Tmu.CountsWithin (t : Tmu) : Prop := t.ring.length ≤ 4 ∧ t.stable ≤ 15 ∧ t.drift ≤ 3

/-- The hits are those that the phase allows (R21, R22). -/
def Tmu.HitsFollowPhase (t : Tmu) : Prop :=
  t.hits.length ≤ 17 ∧ (t.phase = .masking → t.hits = []) ∧
  (t.phase = .collecting → 1 ≤ t.hits.length ∧ t.hits.length ≤ 16) ∧ (t.phase = .full → t.hits.length = 17)

/-- From `t` to `u` no count leaves its range, and the hits go on following the phase. -/
def Tmu.CountsKept (t u : Tmu) : Prop :=
  (t.CountsWithin → u.CountsWithin) ∧ (t.HitsFollowPhase → u.HitsFollowPhase)

/-- PARTIAL asks nothing of the hits but their limit. -/
theorem Tmu.resume_countsKept (t : Tmu) : t.CountsKept t.resume :=
  ⟨id, fun ⟨limit, _⟩ => ⟨limit, nofun, nofun, nofun⟩⟩

theorem Tmu.stall_countsKept (t : Tmu) : t.CountsKept t.stall :=
  ⟨fun ⟨ring, _, drift⟩ => ⟨ring, Nat.zero_le _, drift⟩, fun _ => ⟨Nat.zero_le _, nofun, nofun, nofun⟩⟩

theorem Tmu.clear_countsKept (t : Tmu) : t.CountsKept t.clear :=
  ⟨fun _ => ⟨Nat.zero_le _, Nat.zero_le _, Nat.zero_le _⟩, fun _ => ⟨Nat.zero_le _, nofun, nofun, nofun⟩⟩

/-- A joined record leaves at most four in the ring, and stable and drift counts that saturate (R30 to R32). -/
theorem Tmu.join_counts (t : Tmu) (q : Quantities) (rec : FieldRecord) (h : t.ring.length ≤ 4) :
    (t.join q rec).CountsWithin := by
  unfold Tmu.join
  split
  · exact ⟨pushRecord_length _ _ h, satInc_le _ _, Nat.zero_le _⟩
  · exact ⟨pushRecord_length _ _ h, Nat.zero_le _, satInc_le _ _⟩

/-- A FIELD START leaves MASKING without a hit (R20, R21). -/
theorem Tmu.fieldStartTaken_countsKept (t : Tmu) (q : Quantities) (board : BoardState) (stamp : Stamp) (odd age : Nat)
    (polarity : Polarity) : t.CountsKept (t.fieldStartTaken q board stamp odd age polarity) := by
  simp only [Tmu.fieldStartTaken]
  split
  all_goals exact ⟨fun ⟨ring, _⟩ => t.join_counts q _ ring, fun _ => ⟨Nat.zero_le _, fun _ => rfl, nofun, nofun⟩⟩

/-- A LINE event in MASKING takes the first hit or none; in COLLECTING it takes the next, and the seventeenth ends it (R21, R22). -/
theorem Tmu.lineEvent_countsKept (t : Tmu) (q : Quantities) (stamp : Stamp) (width : Nat) : t.CountsKept (t.lineEvent q stamp width) := by
  unfold Tmu.lineEvent
  split
  · exact ⟨id, id⟩
  · exact ⟨id, id⟩
  · split
    · exact ⟨id, id⟩
    · exact ⟨id, fun _ => ⟨by simp, nofun, by simp, nofun⟩⟩
  · next collecting =>
    refine ⟨id, fun ⟨_, _, hits, _⟩ => ?_⟩
    obtain ⟨_, few⟩ := hits collecting
    by_cases last : 16 ≤ t.hits.length
    · simp only [last, if_true, Tmu.HitsFollowPhase, List.length_append, List.length_singleton]
      exact ⟨by omega, nofun, nofun, fun _ => by omega⟩
    · simp only [last, if_false, Tmu.HitsFollowPhase, List.length_append, List.length_singleton]
      exact ⟨by omega, nofun, fun _ => by omega, nofun⟩

namespace State.CountsKept

variable {r s t : State}

/-- The measurement unit and the pulse of the classifier are replaced. -/
theorem of_tmu (hu : s.tmu.CountsKept t.tmu) (hline : s.pcl.lineCount ≤ 255 → t.pcl.lineCount ≤ 255)
    (hodd : s.pcl.oddCount ≤ 255 → t.pcl.oddCount ≤ 255)
    (h : t.cnu = s.cnu ∧ t.bsv.attempts = s.bsv.attempts ∧ t.lct = s.lct ∧ t.osw.mismatches = s.osw.mismatches) : s.CountsKept t := by
  obtain ⟨hcnu, hbsv, hlct, hosw⟩ := h
  obtain ⟨counts, hits⟩ := hu
  refine ⟨fun hs => ?_, fun hs => ?_, fun hs => ?_, hits⟩
  · simpa only [State.CoinsWithin, hcnu] using hs
  · simpa only [State.AttemptsWithin, hbsv] using hs
  · obtain ⟨line, odd, ring, stable, drift, errors⟩ := hs
    obtain ⟨ring, stable, drift⟩ := counts ⟨ring, stable, drift⟩
    exact ⟨hline line, hodd odd, ring, stable, drift, by simpa only [hlct, hosw] using errors⟩

theorem withTmu (h : r.CountsKept s) {u : Tmu} (hu : s.tmu.CountsKept u) : r.CountsKept { s with tmu := u } :=
  h.trans (of_tmu hu id id ⟨rfl, rfl, rfl, rfl⟩)

/-- A classifier whose two counts are in range takes the place of one whose are (R12). -/
theorem withPcl (h : r.CountsKept s) (c : Classifier) (hl : s.pcl.lineCount ≤ 255 → c.lineCount ≤ 255 := by exact id)
    (ho : s.pcl.oddCount ≤ 255 → c.oddCount ≤ 255 := by exact id) : r.CountsKept { s with pcl := c } :=
  h.trans (of_tmu ⟨id, id⟩ hl ho ⟨rfl, rfl, rfl, rfl⟩)

/-! ## The board supervisor (R52) -/

/-- A supervisor whose attempt count is within its range takes the place of one whose is. -/
theorem withBsv (h : r.CountsKept s) (b : Supervisor) (hb : s.bsv.attempts ≤ 3 → b.attempts ≤ 3 := by exact id) :
    r.CountsKept { s with bsv := b } :=
  h.trans ⟨id, hb, id, id⟩

theorem setAttempts (h : r.CountsKept s) {n : Nat} (hn : n ≤ 3) : r.CountsKept (s.setAttempts n) := h.withBsv _ (fun _ => hn)

theorem outputBoard (h : r.CountsKept s) (board : BoardState) (field : Option Moment) : r.CountsKept (s.outputBoard board field) :=
  h.trans (of_frame (by simp))

theorem handBoard (h : r.CountsKept s) (board : BoardState) (field : Option Moment) : r.CountsKept (s.handBoard board field) :=
  ((((h.speBoard board).coinBoard board).mapperDecides).outputBoard board field).menuBoard board

theorem enterBoard (h : r.CountsKept s) (board : BoardState) (field : Option Moment) : r.CountsKept (s.enterBoard board field) :=
  (h.withBsv (s.bsv.enter s.now s.quantities board)).handBoard board field

theorem enterBoardCleared (h : r.CountsKept s) (board : BoardState) : r.CountsKept (s.enterBoardCleared board) :=
  (h.withTmu s.tmu.clear_countsKept).enterBoard board none

theorem enterVacant (h : r.CountsKept s) : r.CountsKept s.enterVacant := (h.setAttempts (Nat.zero_le _)).enterBoardCleared .vacant

theorem endLoadPeriod (h : r.CountsKept s) : r.CountsKept s.endLoadPeriod := by
  simp only [State.endLoadPeriod]
  split
  · split
    · exact h.withBsv _
    · exact (h.withBsv _).enterVacant
  · exact h

theorem boardPresent (h : r.CountsKept s) : r.CountsKept s.boardPresent := by
  simp only [State.boardPresent]
  split
  · exact (h.withBsv _).endLoadPeriod
  · split
    · exact (h.withBsv _).enterBoardCleared .resetting
    · exact h.withBsv _

theorem boardAbsent (h : r.CountsKept s) : r.CountsKept s.boardAbsent := by
  simp only [State.boardAbsent]
  split
  · exact h.withBsv _
  · split
    · exact h.withBsv _
    · exact (h.withBsv _).enterVacant

theorem firstDecision (h : r.CountsKept s) : r.CountsKept s.firstDecision := (h.withBsv _).endLoadPeriod

theorem latchOffWindow (h : r.CountsKept s) : r.CountsKept s.latchOffWindow := h.withBsv _

theorem boardSignature (h : r.CountsKept s) (verdict : Verdict) (field : Moment) : r.CountsKept (s.boardSignature verdict field) := by
  unfold State.boardSignature
  split
  · exact (h.setAttempts (Nat.zero_le _)).enterBoard _ _
  · split
    · exact h.latchOffWindow.enterBoard _ _
    · split
      · exact h.latchOffWindow
      · exact h

theorem boardDrift (h : r.CountsKept s) (field : Moment) : r.CountsKept (s.boardDrift field) := by
  unfold State.boardDrift
  split
  · exact h.enterBoard _ _
  · exact h

theorem boardStall (h : r.CountsKept s) : r.CountsKept s.boardStall := by
  unfold State.boardStall
  split
  · exact h.enterBoard _ _
  · exact h.enterBoard _ _
  · exact h.enterBoard _ _
  · exact h

theorem boardResume (h : r.CountsKept s) : r.CountsKept s.boardResume := by
  unfold State.boardResume
  split
  · exact h.enterBoard _ _
  · exact h

/-- An automatic reset raises the attempt count below 3 alone (R52). -/
theorem graceExpires (h : r.CountsKept s) : r.CountsKept s.graceExpires := by
  unfold State.graceExpires
  split
  · next few => exact (h.setAttempts (by omega)).enterBoardCleared .resetting
  · exact (h.withBsv _).enterBoard .failed none

theorem resetBoard (h : r.CountsKept s) : r.CountsKept s.resetBoard := by
  unfold State.resetBoard
  split
  · exact h
  · split
    · exact h.withBsv _ (fun _ => Nat.zero_le _)
    · exact h.setAttempts (Nat.zero_le _)
  · exact (h.setAttempts (Nat.zero_le _)).enterBoardCleared .resetting

theorem boardTmuEvent (h : r.CountsKept s) (e : Option TmuEvent) (field : Moment) : r.CountsKept (s.boardTmuEvent e field) := by
  unfold State.boardTmuEvent
  split
  · exact h.boardSignature _ field
  · exact h.boardDrift field
  · exact h

/-! ## FIELD START, RESUME, STALL and LOAD END -/

theorem outputField (h : r.CountsKept s) (lead : Moment) : r.CountsKept (s.outputField lead) := h.trans (of_frame (by simp))
theorem overlayBoardField (h : r.CountsKept s) (lead : Moment) : r.CountsKept (s.overlayBoardField lead) := h.trans (of_frame (by simp))
theorem overlayBoardEdge (h : r.CountsKept s) (lead : Moment) : r.CountsKept (s.overlayBoardEdge lead) := h.trans (of_frame (by simp))

theorem fieldTaken (h : r.CountsKept s) (lead : Moment) : r.CountsKept (s.fieldTaken lead) :=
  h.trans (of_tmu (s.tmu.fieldStartTaken_countsKept _ _ _ _ _ _) (fun _ => Nat.zero_le _) (fun _ => Nat.zero_le _)
    ⟨rfl, rfl, rfl, rfl⟩)

theorem fieldStart (h : r.CountsKept s) (lead : Moment) : r.CountsKept (s.fieldStart lead) := by
  rw [State.fieldStart_eq]
  exact (((h.fieldTaken lead).boardTmuEvent _ lead).outputField lead).overlayBoardField lead

theorem broad (h : r.CountsKept s) (lead : Moment) : r.CountsKept (s.broad lead) := by
  unfold State.broad
  split
  · exact h.fieldStart lead
  · exact h

theorem resume (h : r.CountsKept s) : r.CountsKept s.resume := (h.withTmu s.tmu.resume_countsKept).boardResume
theorem stalled (h : r.CountsKept s) : r.CountsKept s.stalled := (h.withTmu s.tmu.stall_countsKept).boardStall
theorem slicerLoadEnd (h : r.CountsKept s) : r.CountsKept s.slicerLoadEnd := by
  unfold State.slicerLoadEnd
  split
  · exact h
  · exact h

theorem loadStarted (h : r.CountsKept s) (copy : Option (List Byte)) : r.CountsKept (s.loadStarted copy) := by
  have taken : r.CountsKept (s.loadTaken copy) := h
  exact taken.slicerLoadEnd.endLoadPeriod.withLine _ id

theorem loadEnd (h : r.CountsKept s) (copy : Option (List Byte)) : r.CountsKept (s.loadEnd copy) := by
  rw [State.loadEnd_eq]
  split
  · exact (h.loadStarted copy).speRunning.coinLoadEnd.mapperLoadEnd
  · exact ((h.loadStarted copy).withdraw .noConfig).coinLoadEnd.mapperLoadEnd

/-! ## Board sync -/

theorem enterAcquiring (h : r.CountsKept s) : r.CountsKept s.enterAcquiring := h
theorem resumePulse (h : r.CountsKept s) (m : Moment) : r.CountsKept (s.resumePulse m) :=
  h.resume.withPcl _ (fun _ => Nat.zero_le _) (fun _ => Nat.zero_le _)

theorem leadingEdge (h : r.CountsKept s) (m : Moment) : r.CountsKept (s.leadingEdge m) := by
  simp only [State.leadingEdge]
  split
  · exact ((h.withSsl _).resumePulse m).overlayBoardEdge m
  · exact ((h.withSsl { s.ssl with logicSync := .syncActive, pair := none }).withPcl (s.pcl.beginPulse m)).overlayBoardEdge m

theorem ownBoardEdge (h : r.CountsKept s) (lead : Moment) : r.CountsKept (s.ownBoardEdge lead) := h.trans (of_frame (by simp))

theorem linePulse (h : r.CountsKept s) (p : Pulse) (m : Moment) : r.CountsKept (s.linePulse p m) := by
  have measured : r.CountsKept { s with
      pcl := { s.pcl with lineCount := satInc 255 s.pcl.lineCount }
      tmu := s.tmu.lineEvent s.quantities (stampOf p.lead) (ticksBetween m p.lead)
      ssl := { s.ssl with pair := s.openPair p m } } :=
    h.trans (of_tmu (s.tmu.lineEvent_countsKept _ _ _) (fun _ => satInc_le _ _) id ⟨rfl, rfl, rfl, rfl⟩)
  exact measured.ownBoardEdge p.lead

theorem oddPulse (h : r.CountsKept s) : r.CountsKept s.oddPulse := h.withPcl _ id (fun _ => satInc_le _ _)

theorem classify (h : r.CountsKept s) (p : Pulse) (m : Moment) : r.CountsKept (s.classify p m) := by
  unfold State.classify
  split
  · exact h
  · split
    · exact h
    · split
      · exact h.linePulse p m
      · split
        · exact h.oddPulse
        · exact h.broad p.lead

theorem trailingEdge (h : r.CountsKept s) (m : Moment) : r.CountsKept (s.trailingEdge m) := by
  simp only [State.trailingEdge]
  split
  · exact h.withSsl _
  · exact (h.withSsl _).withPcl _
  · next p _ _ =>
    have ended : r.CountsKept { s with
        ssl := { s.ssl with logicSync := .rest }
        pcl := { s.pcl with pulse := none, stallTimer := some (m + stallTime) } } := h
    exact ended.classify p m

theorem decideBroad (h : r.CountsKept s) : r.CountsKept s.decideBroad := by
  unfold State.decideBroad
  split
  · next p _ =>
    have decided : r.CountsKept { s with pcl := { s.pcl with pulse := some { p with broad := true } } } := h.withPcl _
    exact decided.broad p.lead
  · exact h

theorem takeTip (h : r.CountsKept s) (code : Code) : r.CountsKept (s.takeTip code) := h

theorem takeRest (h : r.CountsKept s) (code : Code) : r.CountsKept (s.takeRest code) := h.trans (of_frame (by simp))

theorem stallExpires (h : r.CountsKept s) : r.CountsKept s.stallExpires := by
  have quiet := h.stalled.withPcl s.stalled.pcl.stalled (fun _ => Nat.zero_le _) (fun _ => Nat.zero_le _)
  simp only [State.stallExpires]
  split
  · exact quiet.enterAcquiring
  · exact quiet

theorem windowEnds (h : r.CountsKept s) (runs : List SampleRun) (level : Code) : r.CountsKept (s.windowEnds runs level) := by
  simp only [State.windowEnds]
  split
  · exact h
  · exact h

/-! ## The bus (R110) -/

theorem busEdge (h : r.CountsKept s) (m : Moment) (high : Bool) : r.CountsKept (s.busEdge m high) := by
  refine h.trans (of_mismatches ?_ (by simp))
  simp only [State.busEdge, State.busPulse]
  split
  · exact le_rfl
  · split <;> exact le_rfl
  · exact le_rfl

theorem busFallsSilent (h : r.CountsKept s) : r.CountsKept s.busFallsSilent := (h.withBus _).speBusSilent

/-- A contention check whose mismatch count is within its range takes the place of one whose is. -/
theorem withOsw (h : r.CountsKept s) (o : OutputSwitch) (ho : s.osw.mismatches ≤ 7 → o.mismatches ≤ 7 := by exact id) :
    r.CountsKept { s with osw := o } := by
  refine h.trans (of_counts (fun hs => ?_) ⟨rfl, rfl, rfl⟩)
  obtain ⟨hline, hodd, hring, hstable, hdrift, hclash, hcheck, hshort, hover, hmis⟩ := hs
  exact ⟨hline, hodd, hring, hstable, hdrift, hclash, hcheck, hshort, hover, ho hmis⟩

/-- The eighth mismatch in a row zeroes the count (R110). -/
theorem busMismatch (h : r.CountsKept s) (l16 : Nat) (b : Moment) : r.CountsKept (s.busMismatch l16 b) := by
  unfold State.busMismatch
  split
  · exact h
  · split
    · next few => exact h.withOsw { s.osw with mismatches := s.osw.mismatches + 1, counted := some b } (fun _ => few)
    · exact (h.withOsw { s.osw with mismatches := 0, counted := none } (fun _ => Nat.zero_le _)).contention

theorem judgeBusLine (h : r.CountsKept s) (b : Moment) : r.CountsKept (s.judgeBusLine b) := by
  unfold State.judgeBusLine
  split
  · exact h.withOsw { s.osw with mismatches := 0, counted := none } (fun _ => Nat.zero_le _)
  · split
    · exact h.busMismatch _ b
    · exact h

theorem judgeOldest (h : r.CountsKept s) : r.CountsKept s.judgeOldest := by
  unfold State.judgeOldest
  split
  · exact (h.withOsw _).judgeBusLine _
  · exact h

/-! ## Fill -/

theorem beginFillField (h : r.CountsKept s) (start : Moment) (longer : Bool) : r.CountsKept (s.beginFillField start longer) :=
  h.trans (of_frame (by simp))

theorem fillLine (h : r.CountsKept s) (n : Nat) (start : Moment) : r.CountsKept (s.fillLine n start) := by
  refine h.trans (of_mismatches ?_ (by simp))
  simp only [State.fillLine]
  split <;> simp

/-! ## The cabinet line (R78) -/

theorem lineBecomesIdle (h : r.CountsKept s) : r.CountsKept s.lineBecomesIdle := by
  refine h.withLine _ (fun hl => ?_)
  have idle : LineController.ErrorsWithin { s.lct with phase := .idle } := hl
  exact idle.beginIfReady s.now

theorem gapMet (h : r.CountsKept s) : r.CountsKept s.gapMet := by
  unfold State.gapMet
  split
  · exact (h.advanceTo _).lineBecomesIdle
  · exact (h.advanceTo _).lineBecomesIdle
  · refine (h.withLine _ (fun hl => ?_)).lineBecomesIdle
    obtain ⟨clash, check, -, overrun⟩ := hl
    exact ⟨clash, check, satInc_le _ _, overrun⟩
  · exact h

end State.CountsKept

/-- A fall counts no error (R63, R71). -/
theorem LineController.ErrorsWithin.fall {l : LineController} (h : l.ErrorsWithin) (now : Moment) (middle : Level) (more : List Bool) :
    (l.fall now middle more).ErrorsWithin := by
  have hear : (l.hear now middle).ErrorsWithin := by
    unfold LineController.hear
    split <;> exact h
  unfold LineController.fall
  split
  · unfold LineController.fallOnIdle
    split
    · exact h
    · exact hear
  · exact hear
  · exact h
  · unfold LineController.fallInFrame
    split <;> exact h
  all_goals exact h

namespace State.CountsKept

variable {r s t : State}

theorem attemptFails (h : r.CountsKept s) : r.CountsKept s.attemptFails := by
  unfold State.attemptFails
  split
  · split
    · exact h.withLine _ id
    · exact h.reportHead _
  · exact h

theorem loseArbitration (h : r.CountsKept s) (start : Moment) (bit : Nat) : r.CountsKept (s.loseArbitration start bit) :=
  h.withLine _ id

theorem bitClashes (h : r.CountsKept s) (start : Moment) (k i : Nat) (read : Level) : r.CountsKept (s.bitClashes start k i read) := by
  refine attemptFails (h.withLine _ (fun hl => ?_))
  obtain ⟨-, check, short, overrun⟩ := hl
  exact ⟨satInc_le _ _, check, short, overrun⟩

theorem checkError (h : r.CountsKept s) (phase : LinePhase) :
    r.CountsKept (s.withLine { s.lct with phase := phase, checkError := countError s.lct.checkError }) := by
  refine h.withLine _ (fun hl => ?_)
  obtain ⟨clash, -, short, overrun⟩ := hl
  exact ⟨clash, satInc_le _ _, short, overrun⟩

theorem framingFails (h : r.CountsKept s) : r.CountsKept s.framingFails := by
  unfold State.framingFails
  split
  · exact h.checkError (.spoilt s.now)
  · exact h

theorem applyJudgement (h : r.CountsKept s) (window : Moment) (j : Judgement) : r.CountsKept (s.applyJudgement window j) := by
  cases j with
  | passedOver => exact h
  | refusedCheck => exact h.checkError s.lct.phase
  | rankClash => exact ((h.withLine { s.lct with rankClash := true } id).speRankClash).muteCommand
  | refusedOverrun =>
    refine h.withLine _ (fun hl => ?_)
    obtain ⟨clash, check, short, -⟩ := hl
    exact ⟨clash, check, short, satInc_le _ _⟩
  | taken sender frame => exact h.withLine _ id

theorem judgeAt (h : r.CountsKept s) (window : Moment) (read : List Bool) (chars : List Byte) (gapDominant : Bool) :
    r.CountsKept (s.judgeAt window read chars gapDominant) :=
  (h.withLine { s.lct with phase := .window window (s.lct.judge s.rank read chars gapDominant).isTaken } id).applyJudgement window _

theorem judgeAck (h : r.CountsKept s) (middles : BitVec 9) : r.CountsKept (s.judgeAck middles) := by
  unfold State.judgeAck
  split
  · split
    · exact h.reportHead _
    · split
      · exact h.attemptFails
      · exact h.reportHead _
  · exact h

theorem windowCloses (h : r.CountsKept s) (middles : BitVec 9) : r.CountsKept (s.windowCloses middles) := by
  have ended : r.CountsKept (s.withLine (s.lct.frameEnd s.now)) := h.withLine _ id
  simp only [State.windowCloses]
  split
  · exact ended.judgeAck middles
  · exact ended

theorem flush (h : r.CountsKept s) : r.CountsKept s.flush := by
  have emptied := (h.reportAll s.lct.txq).withLine { (s.reportAll s.lct.txq).lct with txq := [], attempts := 0 } id
  simp only [State.flush]
  split
  · exact emptied.space
  · exact emptied

theorem lineSticks (h : r.CountsKept s) : r.CountsKept s.lineSticks := (h.withLine (s.lct.stick s.now) id).speLineStuck.flush

theorem lineClears (h : r.CountsKept s) : r.CountsKept s.lineClears :=
  (h.withLine { s.lct with stuck := false, phase := .idle } id).speLineClear

theorem takeEntry (h : r.CountsKept s) (e : RxEntry) : r.CountsKept (s.takeEntry e) :=
  (h.withLine { s.lct with rxq := s.lct.rxq.tail } id).rosterTake e.sender e.frame.body

theorem helloHeard (h : r.CountsKept s) (k : Rank) (holding reply : Bool) : r.CountsKept (s.helloHeard k holding reply) := by
  have replied : r.CountsKept (if reply ∧ s.spe.role ≠ .withdrawn then s.sendHello false else s) := by
    split
    · exact h.sendHello false
    · exact h
  simp only [State.helloHeard]
  split
  · exact replied.claim k
  · exact replied.release k

/-! ## The engine's timers -/

theorem joinExpires (h : r.CountsKept s) : r.CountsKept s.joinExpires := (h.setRole .standby).bidCheck

theorem bidExpires (h : r.CountsKept s) : r.CountsKept s.bidExpires := by
  unfold State.bidExpires
  split
  · exact ((h.withSpe _).setRole .holding).send _
  · exact ((h.withSpe _).setRole .standby).withSpe _

theorem seatWaitExpires (h : r.CountsKept s) : r.CountsKept s.seatWaitExpires := (h.withSpe _).bidCheck

/-! ## The panel and the menu's timers -/

/-- CLEAR FAULTS zeroes the error counters and no other count (R176). -/
theorem clearFaults (h : r.CountsKept s) : r.CountsKept s.clearFaults := by
  refine h.trans ⟨id, id, fun hs => ?_, id⟩
  obtain ⟨hline, hodd, hring, hstable, hdrift, -, -, -, -, hmis⟩ := hs
  exact ⟨hline, hodd, hring, hstable, hdrift, Nat.zero_le _, Nat.zero_le _, Nat.zero_le _, Nat.zero_le _, hmis⟩

theorem pickEntry (h : r.CountsKept s) : r.CountsKept s.pickEntry := by
  unfold State.pickEntry
  split
  · exact h.closeMenu
  · split
    · exact h.enterWait.pick _
    · exact h.enterNotice _

theorem menuKey (h : r.CountsKept s) (k : Key) : r.CountsKept (s.menuKey k) := by
  unfold State.menuKey
  split
  · exact h
  · unfold State.browseKey
    split
    · exact h.withMnu _
    · exact h.withMnu _
    · exact h.pickEntry
    · exact h.closeMenu
    · exact h.enterService
    · exact h
    · exact h
  · exact h
  · exact h
  · unfold State.serviceKey
    split
    · exact h.resetBoard
    · exact h.clearFaults.openBrowse
    all_goals exact h

theorem menuPress (h : r.CountsKept s) (i : PanelInput) : r.CountsKept (s.menuPress i) := by
  have touched : r.CountsKept (s.startSelect (s.keyOf i)).touchBrowse := h.trans (of_frame (by simp))
  simp only [State.menuPress]
  split
  · exact (touched.setLatch i false).menuKey _
  · exact touched.menuKey _

theorem pressed (h : r.CountsKept s) (i : PanelInput) : r.CountsKept (s.pressed i) := by
  have lines : r.CountsKept (s.pressLines i) := h.trans (of_frame (by simp))
  exact (lines.setLatch i true).menuPress i

end State.CountsKept

/-! ## Every command -/

/-- What node reset leaves has every count 0. -/
theorem State.resetBy_countsKept (s : State) (cause : ResetCause) : s.CountsKept (s.resetBy cause) := by
  refine ⟨fun _ => ?_, fun _ => ?_, fun _ => ?_, fun _ => ?_⟩
  · exact ⟨⟨Nat.zero_le _, Nat.zero_le _, Nat.zero_le _⟩, Nat.zero_le _, Nat.zero_le _, Nat.zero_le _⟩
  · exact Nat.zero_le _
  · exact ⟨Nat.zero_le _, Nat.zero_le _, Nat.zero_le _, Nat.zero_le _, Nat.zero_le _, Nat.zero_le _, Nat.zero_le _, Nat.zero_le _,
      Nat.zero_le _, Nat.zero_le _⟩
  · exact ⟨Nat.zero_le _, nofun, nofun, nofun⟩

/-- What an expiry does, it does to the state at its moment. -/
theorem State.CountsKept.onExpiry {s : State} (timer : Timer) {act : State → State}
    (hact : ∀ {u : State}, s.CountsKept u → s.CountsKept (act u)) : s.CountsKept (s.onExpiry timer act) := by
  cases timer with
  | none => exact .refl s
  | some due => exact hact ((State.CountsKept.refl s).advanceTo due)

/-- A command that acts where a condition holds, and otherwise leaves the state. -/
theorem State.CountsKept.ite {r s t : State} {p : Prop} [Decidable p] (ht : r.CountsKept t) (hs : r.CountsKept s) :
    r.CountsKept (if p then t else s) := by
  split
  · exact ht
  · exact hs

/-- Every command keeps the counts in their ranges. -/
theorem exec_countsKept (c : Instr) (s : State) : ∃ u, exec c s = done u ∧ s.CountsKept u := by
  have h := State.CountsKept.refl s
  cases c with
  | nodeReset dt cause => exact ⟨_, rfl, .ite (s.resetBy_countsKept cause) (h.elapse dt)⟩
  | nodeResetEnd dt release =>
    refine ⟨_, rfl, (h.elapse dt).trans ?_⟩
    split
    · exact .of_frame (by simp)
    · exact .refl _
  | tryFails dt failed =>
    refine ⟨_, rfl, ?_⟩
    split
    · unfold State.tryFails
      split
      · exact h
      · exact ((h.elapse dt).loadEnd none : s.CountsKept (State.loadEnd _ none))
    · exact h.elapse dt
  | pausedExpiry => exact ⟨_, rfl, .onExpiry _ id⟩
  | blockRead dt bytes =>
    refine ⟨_, rfl, ?_⟩
    split
    · exact (h.elapse dt).loadEnd _
    · exact h.elapse dt
  | acquisitionWindowEnd runs level =>
    refine ⟨_, rfl, ?_⟩
    split
    · exact .onExpiry _ (·.windowEnds runs level)
    · exact h
  | leadingEdge dt held level => exact ⟨_, rfl, .ite ((h.elapse dt).leadingEdge _) (h.elapse dt)⟩
  | trailingEdge dt held level => exact ⟨_, rfl, .ite ((h.elapse dt).trailingEdge _) (h.elapse dt)⟩
  | broadDecided => exact ⟨_, rfl, .onExpiry _ (·.decideBroad)⟩
  | tipSample code => exact ⟨_, rfl, .onExpiry _ (·.takeTip code)⟩
  | restSample code => exact ⟨_, rfl, .onExpiry _ (·.takeRest code)⟩
  | stall => exact ⟨_, rfl, .onExpiry _ (·.stallExpires)⟩
  | lockExpiry => exact ⟨_, rfl, .onExpiry _ (·.enterAcquiring)⟩
  | busEdge dt held level => exact ⟨_, rfl, .ite ((h.elapse dt).busEdge _ _) (h.elapse dt)⟩
  | busSilent => exact ⟨_, rfl, .onExpiry _ (·.busFallsSilent)⟩
  | busLineJudged => exact ⟨_, rfl, .onExpiry _ (·.judgeOldest)⟩
  | present dt held => exact ⟨_, rfl, .ite (h.elapse dt).boardPresent (h.elapse dt)⟩
  | absent dt held => exact ⟨_, rfl, .ite (h.elapse dt).boardAbsent (h.elapse dt)⟩
  | resetHoldExpiry => exact ⟨_, rfl, .onExpiry _ (·.enterBoardCleared .settling)⟩
  | bootLimitExpiry => exact ⟨_, rfl, .onExpiry _ (·.enterBoard .stalled none)⟩
  | stallGraceExpiry => exact ⟨_, rfl, .onExpiry _ (·.graceExpires)⟩
  | fillFieldStart =>
    refine ⟨_, rfl, ?_⟩
    split
    · exact (h.advanceTo _).beginFillField _ _
    · exact h
  | fillLineStart =>
    refine ⟨_, rfl, ?_⟩
    split
    · exact (h.advanceTo _).fillLine _ _
    · exact h
  | fillPulseEnd => exact ⟨_, rfl, .onExpiry _ id⟩
  | lineIdle dt => exact ⟨_, rfl, .ite (h.elapse dt).gapMet (h.elapse dt)⟩
  | lostArbitration bit =>
    refine ⟨_, rfl, ?_⟩
    split
    · exact .ite ((h.advanceTo _).loseArbitration _ _) h
    · exact h
  | bitClash char bit read =>
    refine ⟨_, rfl, ?_⟩
    split
    · exact .ite ((h.advanceTo _).bitClashes _ _ _ _) h
    · exact h
  | framingError dt kind => exact ⟨_, rfl, (h.elapse dt).framingFails⟩
  | frameJudged contents check gapDominant =>
    refine ⟨_, rfl, ?_⟩
    split
    · exact (h.advanceTo _).judgeAt _ _ _ _
    · exact h
  | ackWindowEnd middles =>
    refine ⟨_, rfl, ?_⟩
    split
    · exact (h.advanceTo _).windowCloses middles
    · exact h
  | lineStuck dt => exact ⟨_, rfl, .ite ((h.elapse dt).advanceTo _).lineSticks (h.elapse dt)⟩
  | lineClear dt => exact ⟨_, rfl, .ite ((h.elapse dt).advanceTo _).lineClears (h.elapse dt)⟩
  | helloTaken =>
    refine ⟨_, rfl, ?_⟩
    split
    · split
      · exact (h.takeEntry _).helloHeard _ _ _
      · exact h
    · exact h
  | seatedTaken =>
    refine ⟨_, rfl, ?_⟩
    split
    · exact (h.takeEntry _).claim _
    · exact h
  | bidTaken =>
    refine ⟨_, rfl, ?_⟩
    split
    · exact (h.takeEntry _).bidHeard _
    · exact h
  | offerTaken =>
    refine ⟨_, rfl, ?_⟩
    split
    · split
      · exact (h.takeEntry _).offerHeard _ _
      · exact h
    · exact h
  | answerTaken =>
    refine ⟨_, rfl, ?_⟩
    split
    · split
      · exact (h.takeEntry _).answerHeard _ _ _ _
      · exact h
    · exact h
  | passTaken =>
    refine ⟨_, rfl, ?_⟩
    split
    · split
      · exact (h.takeEntry _).passHeard _ _ _ _
      · exact h
    · exact h
  | joinWindowExpiry => exact ⟨_, rfl, .onExpiry _ (·.joinExpires)⟩
  | bidWindowExpiry => exact ⟨_, rfl, .onExpiry _ (·.bidExpires)⟩
  | seatWaitExpiry => exact ⟨_, rfl, .onExpiry _ (·.seatWaitExpires)⟩
  | answerTimerExpiry => exact ⟨_, rfl, .onExpiry _ (·.offerFails .noAnswer)⟩
  | coinQuietExpiry => exact ⟨_, rfl, .onExpiry _ (·.issuePass)⟩
  | passTimerExpiry => exact ⟨_, rfl, .onExpiry _ (·.leaveAccepted.bidCheck)⟩
  | closure dt held ch => exact ⟨_, rfl, .ite ((h.elapse dt).closureBegins ch _) (h.elapse dt)⟩
  | detectedCoin dt held ch =>
    refine ⟨_, rfl, ?_⟩
    split
    · exact .ite (h.elapse dt) ((h.elapse dt).closureJudged ch _ _)
    · exact h.elapse dt
  | coinJam ch => exact ⟨_, rfl, .onExpiry _ (·.closureJams ch)⟩
  | pulseTimerExpiry ch => exact ⟨_, rfl, .onExpiry _ (·.pulseEnds ch)⟩
  | gapTimerExpiry ch => exact ⟨_, rfl, .onExpiry _ (·.gapEnds ch)⟩
  | press dt held input => exact ⟨_, rfl, .ite ((h.elapse dt).pressed input) (h.elapse dt)⟩
  | release dt held input => exact ⟨_, rfl, .ite ((h.elapse dt).trans (.of_frame (by simp))) (h.elapse dt)⟩
  | lampLevelChange dt held lamp lit => exact ⟨_, rfl, .ite (h.elapse dt) (h.elapse dt)⟩
  | selectHoldExpiry => exact ⟨_, rfl, .onExpiry _ (·.trans (.of_frame (by simp)))⟩
  | browseTimerExpiry => exact ⟨_, rfl, .onExpiry _ (·.closeMenu)⟩
  | noticeTimerExpiry => exact ⟨_, rfl, .onExpiry _ (·.trans (.of_frame (by simp)))⟩
  | statusLampBlink lamp =>
    refine ⟨_, rfl, ?_⟩
    split
    · exact h
    · exact h
  | lineFall dt fall =>
    refine ⟨_, rfl, ?_⟩
    split
    · exact h.elapse dt
    · refine (h.elapse dt).withLine _ (fun hl => ?_)
      have begun : LineController.ErrorsWithin { s.lct with stretch := some (s.now + dt) } := hl
      split
      · exact begun
      · exact begun.fall _ _ _
  | jammedClosureEnd dt held ch =>
    refine ⟨_, rfl, ?_⟩
    split
    · exact .ite ((h.elapse dt).closureEnds ch) (h.elapse dt)
    · exact h.elapse dt
  | presenceFirstDecision dt held => exact ⟨_, rfl, .ite (h.elapse dt).firstDecision (h.elapse dt)⟩

/-- An invariant that `CountsKept` carries, and that queue and clock do not touch, is kept by every step. -/
theorem keeps_of_countsKept {Inv : State → Prop} (hinv : ∀ {s t : State}, s.CountsKept t → Inv s → Inv t)
    (hqueue : ∀ s p, Inv s → Inv (s.withPending p)) : Keeps Inv := by
  refine keeps_of_exec hqueue (fun s n => hinv ((State.CountsKept.refl s).elapse n)) (fun c s t hs ht => ?_)
  obtain ⟨u, hu, kept⟩ := exec_countsKept c s
  rw [hu] at ht
  rw [next_of_done ht]
  exact hinv kept.settled hs

end Sys2Proof.Machine
end

section
open Sys2Proof.Machine

/-- Settles O54: every command keeps the counts (`exec_countsKept`), and so does every step. -/
theorem everyStepKeepsCounts : Obligations.EveryStepKeepsCounts :=
  ⟨keeps_of_countsKept (fun ⟨coins, _, _, _⟩ => coins) (fun _ _ h => h),
    keeps_of_countsKept (fun ⟨_, attempts, _, _⟩ => attempts) (fun _ _ h => h),
    keeps_of_countsKept (fun ⟨_, _, counts, _⟩ => counts) (fun _ _ h => h),
    keeps_of_countsKept (fun ⟨_, _, _, hits⟩ => hits) (fun _ _ h => h)⟩
end

section
/-!
SUPPORT. Agreement of two states outside some parts, part by part, and the clock's effect on what is read from the configuration.
-/

namespace Sys2Proof.Machine

/-- Agreement outside some parts, one clause for each part of State. -/
theorem State.agreesOutside_iff (s t : State) (parts : List Part) :
    s.agreesOutside t parts ↔
      ((.now ∈ parts ∨ t.now = s.now) ∧ (.rank ∈ parts ∨ t.rank = s.rank) ∧ (.cfg ∈ parts ∨ t.cfg = s.cfg) ∧
        (.cfl ∈ parts ∨ t.cfl = s.cfl) ∧ (.ssl ∈ parts ∨ t.ssl = s.ssl) ∧ (.pcl ∈ parts ∨ t.pcl = s.pcl) ∧
        (.bus ∈ parts ∨ t.bus = s.bus)) ∧
      ((.tmu ∈ parts ∨ t.tmu = s.tmu) ∧ (.bsv ∈ parts ∨ t.bsv = s.bsv) ∧ (.osw ∈ parts ∨ t.osw = s.osw) ∧
        (.fsg ∈ parts ∨ t.fsg = s.fsg) ∧ (.lct ∈ parts ∨ t.lct = s.lct) ∧ (.spe ∈ parts ∨ t.spe = s.spe) ∧
        (.roster ∈ parts ∨ t.roster = s.roster)) ∧
      ((.cnu ∈ parts ∨ t.cnu = s.cnu) ∧ (.cmp ∈ parts ∨ t.cmp = s.cmp) ∧
        (.drawing ∈ parts ∨ t.ovg.count = s.ovg.count ∧ t.ovg.draw = s.ovg.draw ∧ t.ovg.row = s.ovg.row) ∧
        (.cells ∈ parts ∨ t.ovg.cells = s.ovg.cells) ∧ (.mnu ∈ parts ∨ t.mnu = s.mnu) ∧
        (.lamps ∈ parts ∨ t.lamps = s.lamps) ∧ (.pending ∈ parts ∨ t.pending = s.pending)) := by
  constructor
  · intro h
    have clause (p : Part) : p ∈ parts ∨ s.agreesOn t p := by
      by_cases hp : p ∈ parts
      · exact .inl hp
      · exact .inr (h p hp)
    exact ⟨⟨clause .now, clause .rank, clause .cfg, clause .cfl, clause .ssl, clause .pcl, clause .bus⟩,
      ⟨clause .tmu, clause .bsv, clause .osw, clause .fsg, clause .lct, clause .spe, clause .roster⟩,
      clause .cnu, clause .cmp, clause .drawing, clause .cells, clause .mnu, clause .lamps, clause .pending⟩
  · rintro ⟨⟨now, rank, cfg, cfl, ssl, pcl, bus⟩, ⟨tmu, bsv, osw, fsg, lct, spe, roster⟩,
      cnu, cmp, drawing, cells, mnu, lamps, pending⟩ p hp
    cases p
    exacts [now.resolve_left hp, rank.resolve_left hp, cfg.resolve_left hp, cfl.resolve_left hp, ssl.resolve_left hp,
      pcl.resolve_left hp, bus.resolve_left hp, tmu.resolve_left hp, bsv.resolve_left hp, osw.resolve_left hp, fsg.resolve_left hp,
      lct.resolve_left hp, spe.resolve_left hp, roster.resolve_left hp, cnu.resolve_left hp, cmp.resolve_left hp,
      drawing.resolve_left hp, cells.resolve_left hp, mnu.resolve_left hp, lamps.resolve_left hp, pending.resolve_left hp]

@[simp] theorem State.advanceTo_quantities (s : State) (m : Moment) : (s.advanceTo m).quantities = s.quantities := rfl
@[simp] theorem State.elapse_quantities (s : State) (n : Nat) : (s.elapse n).quantities = s.quantities := rfl

end Sys2Proof.Machine
end

section
/-!
SUPPORT. The slicer: threshold (R3), seeding (R5) and tracking (R7).
-/

namespace Sys2Proof.Machine

/-- Within limits in order, the swing used is the swing held within them (R3, steps 1 to 4). -/
theorem swingUsed_eq (smin smax swing : Nat) (h : smin ≤ smax) : swingUsed smin smax swing = max smin (min smax swing) := by
  unfold swingUsed
  split
  · omega
  · split <;> omega

/-- A threshold is a level code (R3, step 6). -/
theorem thresholdOf_le (polarity : Polarity) (rest used : Nat) : thresholdOf polarity rest used ≤ 255 := by
  cases polarity <;> exact Nat.min_le_left ..

/-- Deriving the threshold moves the threshold and the two latched faults alone (R3). -/
@[simp] theorem Slicer.deriveThreshold_frame (sl : Slicer) (q : Quantities) :
    (sl.deriveThreshold q).mode = sl.mode ∧ (sl.deriveThreshold q).rest = sl.rest ∧ (sl.deriveThreshold q).tip = sl.tip ∧
    (sl.deriveThreshold q).polarity = sl.polarity ∧ (sl.deriveThreshold q).pair = sl.pair := by
  simp [Slicer.deriveThreshold]

/-- The latch LOW SWING: set by a swing below the lower limit, and kept (R3). -/
theorem Slicer.deriveThreshold_lowSwing (sl : Slicer) (q : Quantities) :
    (sl.deriveThreshold q).lowSwing = true ↔ sl.lowSwing = true ∨ absDiff sl.tip sl.rest < q.smin := by
  simp [Slicer.deriveThreshold]

/-- The latch HIGH SWING: set by a swing above the upper limit, which is then not below the lower one, and kept (R3). -/
theorem Slicer.deriveThreshold_highSwing (sl : Slicer) (q : Quantities) (h : q.smin ≤ q.smax) :
    (sl.deriveThreshold q).highSwing = true ↔ sl.highSwing = true ∨ q.smax < absDiff sl.tip sl.rest := by
  simp only [Slicer.deriveThreshold, Bool.or_eq_true, Bool.and_eq_true, Bool.not_eq_true', decide_eq_true_eq,
    decide_eq_false_iff_not]
  refine or_congr_right ⟨fun ⟨_, above⟩ => above, fun above => ⟨?_, above⟩⟩
  omega

/-- With fewer low samples the sync is NEGATIVE: its tip the low mean, its rest the high mean (R5). -/
theorem Slicer.seed_negative (sl : Slicer) (q : Quantities) (h : sl.acq.lowCount < sl.acq.highCount) :
    (sl.seed q).polarity = .negative ∧ (sl.seed q).tip = sl.acq.lowSum / sl.acq.lowCount ∧
      (sl.seed q).rest = sl.acq.highSum / sl.acq.highCount := by
  simp [Slicer.seed, h]

/-- With fewer high samples it is POSITIVE, the other way round (R5). -/
theorem Slicer.seed_positive (sl : Slicer) (q : Quantities) (h : sl.acq.highCount < sl.acq.lowCount) :
    (sl.seed q).polarity = .positive ∧ (sl.seed q).tip = sl.acq.highSum / sl.acq.highCount ∧
      (sl.seed q).rest = sl.acq.lowSum / sl.acq.lowCount := by
  have h' : ¬sl.acq.lowCount < sl.acq.highCount := by omega
  simp [Slicer.seed, h']

/-- Division by 8 truncated toward zero, by sign. -/
theorem tdiv_eight (a : Int) : a.tdiv 8 = if 0 ≤ a then a / 8 else -(-a / 8) := by
  split
  · exact Int.tdiv_eq_ediv_of_nonneg ‹_›
  · rw [← Int.tdiv_eq_ediv_of_nonneg (by omega), Int.neg_tdiv, neg_neg]

/-- A tracked level moves by one eighth of the difference, truncated toward zero; it does not fall below 0 (R7). -/
theorem trackEighth_eq (level : Nat) (sample : Code) :
    (trackEighth level sample : Int) = (level : Int) + ((sample.val : Int) - level).tdiv 8 := by
  unfold trackEighth
  apply Int.toNat_of_nonneg
  rw [tdiv_eight]
  split <;> omega

/-- A tracked level stays within the level codes (R7). -/
theorem trackEighth_le (level : Nat) (sample : Code) (h : level ≤ 255) : trackEighth level sample ≤ 255 := by
  have moved := trackEighth_eq level sample
  rw [tdiv_eight] at moved
  split at moved <;> omega

end Sys2Proof.Machine
end

section
open Sys2Proof.Machine

/-- Settles O10, from the equation of `Slicer.deriveThreshold` and the swing used as a clamp. -/
theorem thresholdHalfSwingFromRest : Obligations.ThresholdHalfSwingFromRest := by
  intro sl q hq t swing used
  have threshold : t.threshold = thresholdOf sl.polarity sl.rest used := by
    simp only [t, used, swing, Slicer.deriveThreshold, absDiff, swingUsed_eq _ _ _ hq]
  refine ⟨fun hp hrest => ?_, fun hp => ?_, ?_, ?_, ?_, rfl, rfl, rfl⟩
  · rw [threshold, hp]
    simp only [thresholdOf, half]
    omega
  · rw [threshold, hp]
    rfl
  · rw [threshold]
    exact thresholdOf_le _ _ _
  · exact sl.deriveThreshold_lowSwing q
  · exact sl.deriveThreshold_highSwing q hq

/-- Settles O15, from the tracked level's equation and bound. -/
theorem completePairMovesLevels : Obligations.CompletePairMovesLevels := by
  intro sl q p r t
  exact ⟨trackEighth_eq sl.tip p, trackEighth_eq sl.rest r, trackEighth_le sl.tip p, trackEighth_le sl.rest r, rfl⟩

end

section
/-!
SUPPORT. The commands of the board sync where their guards hold, each as the operation it runs.
-/

namespace Sys2Proof.Machine

theorem exec_acquisitionWindowEnd {s : State} {runs : List SampleRun} {due : Moment} (level : Code) (hdue : s.ssl.windowEnd = some due)
    (hmode : s.ssl.mode = .acquiring) (hruns : runsTotal runs = windowSamples) :
    exec (.acquisitionWindowEnd runs level) s = .next ((s.advanceTo due).windowEnds runs level).settled := by
  simp [exec, execAcquisitionWindowEnd, done_eq, hdue, hmode, hruns]

theorem exec_tipSample {s : State} {p : Pulse} (code : Code) (hpulse : s.pcl.pulse = some p) (hmode : s.ssl.mode = .locked)
    (hadaptive : s.quantities.mode = .adaptive) (hsync : s.ssl.logicSync = .syncActive) (hresume : p.resume = false)
    (htip : p.tip = none) :
    exec (.tipSample code) s = .next ((s.advanceTo (p.lead + 112)).takeTip code).settled := by
  simp [exec, execTipSample, done_eq, State.tipDue, tipTime, hpulse, hmode, hadaptive, hsync, hresume, htip]

theorem exec_restSample {s : State} {o : OpenPair} (code : Code) (hpair : s.ssl.pair = some o) :
    exec (.restSample code) s = .next ((s.advanceTo (o.trail + 384)).takeRest code).settled := by
  simp [exec, execRestSample, done_eq, State.restDue, restTime, hpair]

theorem exec_stall {s : State} {due : Moment} (hdue : s.pcl.stallTimer = some due) :
    exec .stall s = .next (s.advanceTo due).stallExpires.settled := by
  simp [exec, execStall, done_eq, hdue]

theorem exec_lockExpiry {s : State} {due : Moment} (hdue : s.pcl.lockExpiry = some due) :
    exec .lockExpiry s = .next (s.advanceTo due).enterAcquiring.settled := by
  simp [exec, execLockExpiry, done_eq, hdue]

/-- The comparator of a LOCKED slicer stands elsewhere, and has held its level for the filter's 12 ticks (R2). -/
theorem exec_leadingEdge {s : State} {held : Nat} {level : Code} (dt : Nat) (hmode : s.ssl.mode = .locked)
    (hsync : s.ssl.logicSync = .rest) (hheld : 12 ≤ held)
    (hlevel : comparatorActive s.ssl.polarity s.ssl.threshold level = true) :
    exec (.leadingEdge dt held level) s = .next ((s.elapse dt).leadingEdge (s.now + dt - held)).settled := by
  simp [exec, execLeadingEdge, done_eq, State.edgeOccurs, edgeFilter, Slicer.compare, hmode, hsync, hheld, hlevel]

theorem exec_trailingEdge {s : State} {held : Nat} {level : Code} (dt : Nat) (hmode : s.ssl.mode = .locked)
    (hsync : s.ssl.logicSync = .syncActive) (hheld : 12 ≤ held)
    (hlevel : comparatorActive s.ssl.polarity s.ssl.threshold level = false) :
    exec (.trailingEdge dt held level) s = .next ((s.elapse dt).trailingEdge (s.now + dt - held)).settled := by
  simp [exec, execTrailingEdge, done_eq, State.edgeOccurs, edgeFilter, Slicer.compare, hmode, hsync, hheld, hlevel]

theorem exec_broadDecided {s : State} {p : Pulse} (hpulse : s.pcl.pulse = some p) (hstate : s.pcl.state = .active)
    (hresume : p.resume = false) (hbroad : p.broad = false) :
    exec .broadDecided s = .next (s.advanceTo (p.lead + 768)).decideBroad.settled := by
  simp [exec, execBroadDecided, done_eq, State.broadDue, broadTime, hpulse, hstate, hresume, hbroad]

/-! ## Acquisition -/

/-- A window with 100 to 4,999 samples in the minority level succeeds, any other fails (R4). -/
theorem AcqTotals.succeeds_iff (t : AcqTotals) :
    t.succeeds = true ↔ 100 ≤ min t.lowCount t.highCount ∧ min t.lowCount t.highCount ≤ 4999 := by
  simp only [AcqTotals.succeeds, Bool.and_eq_true, decide_eq_true_eq]
  rfl

/-- A window that succeeds locks the slicer on the levels it seeds (R5). -/
theorem State.windowEnds_locks (s : State) (runs : List SampleRun) (level : Code)
    (h : (tallyRuns runs AcqTotals.cleared).succeeds = true) :
    s.windowEnds runs level =
      { s with ssl := { s.ssl with acq := tallyRuns runs AcqTotals.cleared } }.lockFromWindow level := by
  simp [State.windowEnds, h]

/-- A window that fails opens a fresh one (R4). -/
theorem State.windowEnds_reopens (s : State) (runs : List SampleRun) (level : Code)
    (h : (tallyRuns runs AcqTotals.cleared).succeeds = false) :
    s.windowEnds runs level = s.freshWindow := by
  simp [State.windowEnds, State.freshWindow, h]

end Sys2Proof.Machine
end

section
open Sys2Proof.Machine

/-- Settles O9: the lock by `State.windowEnds_locks` and the seeded levels, the fresh window by `State.windowEnds_reopens`. -/
theorem acquisitionWindowLocksOrReopens : Obligations.AcquisitionWindowLocksOrReopens := by
  intro s runs level due hdue hmode hruns acq q
  have run := exec_acquisitionWindowEnd level hdue hmode hruns
  refine ⟨fun hlow hhigh => ?_, fun hfail => ?_⟩
  · have hs : acq.succeeds = true := acq.succeeds_iff.mpr ⟨hlow, hhigh⟩
    rw [State.windowEnds_locks _ _ _ hs] at run
    let seeded : Slicer := { s.ssl with acq := acq }
    refine ⟨_, run, ?_⟩
    simp only [State.settled_frame]
    refine ⟨rfl, fun h => seeded.seed_negative q h, fun h => seeded.seed_positive q h, rfl, rfl, rfl, ?_⟩
    simp [State.agreesOutside_iff, follows]
  · have hs : acq.succeeds = false := by
      rw [Bool.eq_false_iff, Ne, AcqTotals.succeeds_iff]
      omega
    rw [State.windowEnds_reopens _ _ _ hs] at run
    refine ⟨_, run, ?_, by simp, ?_⟩
    · simp only [State.settled_frame]
      rfl
    · simp [State.agreesOutside_iff, follows]

/-- Settles O14: the tip sample by `exec_tipSample`, the rest sample by `exec_restSample`. -/
theorem pairSamplesAreTaken : Obligations.PairSamplesAreTaken := by
  refine fun s code => ⟨fun p hpulse hmode hadaptive hsync hresume htip => ?_, fun o hpair => ?_⟩
  · refine ⟨_, exec_tipSample code hpulse hmode hadaptive hsync hresume htip, ?_, by simp, ?_⟩
    · simp [State.takeTip, hpulse]
    · simp [State.agreesOutside_iff, follows]
  · have ssl : ((s.advanceTo (o.trail + 384)).takeRest code).ssl = s.ssl.track s.quantities o.tip code := by
      simp [State.takeRest, hpair]
    refine ⟨_, exec_restSample code hpair, ?_, ?_, by simp, ?_⟩
    · simp [ssl]
    · simp [ssl, Slicer.track]
    · simp [State.agreesOutside_iff, follows]

end

section
/-!
SUPPORT. A broadcast frame leaves the roster as it is, whatever is reported of it (R89); so do the changes of board state, which send none
but HELLO and BID.
-/

namespace Sys2Proof.Machine

/-- A report of a broadcast frame leaves the roster (R89). -/
theorem State.report_roster_of_all (s : State) (rep : Report) (f : Frame) (h : f.target = .all) :
    (s.report rep f).roster = s.roster := by
  simp [State.report, State.rosterReport, h]

/-- Sending to ALL leaves the roster. -/
theorem State.send_roster_of_all (s : State) (q : PendingRequest) (h : q.target = .all) : (s.send q).roster = s.roster := by
  unfold State.send
  split
  · rfl
  · simp only [State.tryEnqueue]
    split
    · exact s.report_roster_of_all _ _ h
    · rfl

@[simp] theorem State.sendHello_roster (s : State) (reply : Bool) : (s.sendHello reply).roster = s.roster :=
  State.send_roster_of_all _ _ rfl

@[simp] theorem State.beginBid_roster (s : State) (joined : Option Rank) : (s.beginBid joined).roster = s.roster := by
  simp [State.beginBid, State.send_roster_of_all, bidRequest]

@[simp] theorem State.bidCheck_roster (s : State) : s.bidCheck.roster = s.roster := by
  unfold State.bidCheck
  split <;> simp

@[simp] theorem State.speBoard_roster (s : State) (board : BoardState) : (s.speBoard board).roster = s.roster := by
  have announced : (if s.spe.firstHello ∧ s.spe.role ≠ .withdrawn then s.sendHello false else s).roster = s.roster := by
    split <;> simp
  simp only [State.speBoard]
  split
  · rw [State.bidCheck_roster, announced]
  · exact announced

@[simp] theorem State.enterBoard_roster (s : State) (board : BoardState) (field : Option Moment) :
    (s.enterBoard board field).roster = s.roster := by
  simp [State.enterBoard, State.handBoard]

@[simp] theorem State.boardStall_roster (s : State) : s.boardStall.roster = s.roster := by
  unfold State.boardStall
  split <;> simp

@[simp] theorem State.boardResume_roster (s : State) : s.boardResume.roster = s.roster := by
  unfold State.boardResume
  split <;> simp

@[simp] theorem State.boardTmuEvent_roster (s : State) (e : Option TmuEvent) (field : Moment) :
    (s.boardTmuEvent e field).roster = s.roster := by
  unfold State.boardTmuEvent
  split
  · unfold State.boardSignature
    repeat' split
    all_goals simp
  · unfold State.boardDrift
    split <;> simp
  · rfl

end Sys2Proof.Machine
end

section
/-!
SUPPORT. STALL (R14, R23, R50): at the supervisor, and what it leaves of slicer, classifier and measurement unit.
-/

namespace Sys2Proof.Machine

/-- A board whose sync was seen enters STALLED (R50). -/
theorem State.stalled_of_synced (s : State) (h : s.bsv.board = .settling ∨ s.bsv.board = .ready ∨ s.bsv.board = .offWindow) :
    s.stalled = { s with tmu := s.tmu.stall }.enterBoard .stalled none := by
  unfold State.stalled State.boardStall
  rcases h with h | h | h <;> rw [h]

/-- Any other board takes no notice of STALL (R50). -/
theorem State.stalled_of_unsynced (s : State)
    (h : s.bsv.board = .vacant ∨ s.bsv.board = .resetting ∨ s.bsv.board = .stalled ∨ s.bsv.board = .failed) :
    s.stalled = { s with tmu := s.tmu.stall } := by
  unfold State.stalled State.boardStall
  rcases h with h | h | h | h <;> rw [h]

/-- STALL at the classifier and the slicer, behind the supervisor (R4, R14). -/
theorem State.stallExpires_eq (s : State) :
    s.stallExpires =
      if s.quantities.mode = .adaptive then { s.stalled with pcl := s.pcl.stalled }.enterAcquiring
      else { s.stalled with pcl := s.pcl.stalled } := by
  have hq : { s.stalled with pcl := s.pcl.stalled }.quantities = s.quantities := by simp [State.quantities]
  have hp : s.stalled.pcl = s.pcl := by simp
  simp only [State.stallExpires, hp, hq]
  cases s.quantities.mode <;> rfl

@[simp] theorem State.stalled_tmu (s : State) : s.stalled.tmu = s.tmu.stall := by
  simp [State.stalled]

/-- What STALL makes of the blocks of the board sync (R4, R14, R23). -/
theorem State.stallExpires_sync (s : State) :
    s.stallExpires.pcl.state = .quiet ∧ s.stallExpires.pcl.pulse = none ∧ s.stallExpires.pcl.lineCount = 0 ∧
    s.stallExpires.pcl.oddCount = 0 ∧ s.stallExpires.pcl.ageFrom = none ∧ s.stallExpires.pcl.stallTimer = none ∧
    s.stallExpires.ssl = (if s.quantities.mode = .adaptive then s.enterAcquiring.ssl else s.ssl) ∧
    s.stallExpires.tmu = s.tmu.stall := by
  rw [State.stallExpires_eq]
  split <;> simp [State.enterAcquiring, Classifier.stalled]

/-- STALL hands the board state on from the supervisor alone. -/
theorem State.stallExpires_bsv (s : State) : s.stallExpires.bsv = s.stalled.bsv := by
  rw [State.stallExpires_eq]
  split <;> simp

end Sys2Proof.Machine
end

section
open Sys2Proof.Machine

/-- Settles O16: the blocks of the board sync by `State.stallExpires_sync`, the board by whether its sync had been seen. -/
theorem stallAndLockExpiry : Obligations.StallAndLockExpiry := by
  intro s due now acquiring
  refine ⟨fun hdue => ?_, fun hdue => ?_⟩
  · have sync := (s.advanceTo due).stallExpires_sync
    refine ⟨_, exec_stall hdue, ?_⟩
    simp only [State.settled_frame, State.advanceTo_quantities, State.advanceTo_frame] at sync ⊢
    obtain ⟨state, pulse, line, odd, age, timer, ssl, tmu⟩ := sync
    refine ⟨by simp [now], state, pulse, line, odd, age, timer, ssl, tmu, fun board => ⟨?_, ?_⟩, fun board => ?_⟩
    · rw [State.stallExpires_bsv, (s.advanceTo due).stalled_of_synced board, State.enterBoard_bsv]
      rfl
    · rw [State.stallExpires_eq]
      split <;> simp [State.agreesOutside_iff, follows, reached, State.stalled]
    · rw [State.stallExpires_eq, (s.advanceTo due).stalled_of_unsynced board]
      split <;> simp [State.agreesOutside_iff, follows]
  · refine ⟨_, exec_lockExpiry hdue, ?_⟩
    simp only [State.settled_frame]
    refine ⟨rfl, rfl, rfl, ?_⟩
    simp [State.agreesOutside_iff, follows]

end

section
/-!
SUPPORT. The edges of the board's logic sync: a leading edge by classifier state (R14, R15), a trailing edge by the width of the pulse it ends
(R11), and the LINE event by phase (R21, R22).
-/

namespace Sys2Proof.Machine

/-! ## Leading edges -/

/-- While ACTIVE a leading edge begins a pulse (R11, R14). -/
theorem State.leadingEdge_of_active (s : State) (m : Moment) (h : s.pcl.state = .active) :
    s.leadingEdge m =
      { s with ssl := { s.ssl with logicSync := .syncActive, pair := none }, pcl := s.pcl.beginPulse m }.overlayBoardEdge m := by
  simp [State.leadingEdge, h]

/-- While QUIET it raises RESUME (R15). -/
theorem State.leadingEdge_of_quiet (s : State) (m : Moment) (h : s.pcl.state = .quiet) :
    s.leadingEdge m =
      ({ s with ssl := { s.ssl with logicSync := .syncActive, pair := none } }.resumePulse m).overlayBoardEdge m := by
  simp [State.leadingEdge, h]

/-- RESUME takes a STALLED board to SETTLING (R51). -/
theorem State.resume_of_stalled (s : State) (h : s.bsv.board = .stalled) :
    s.resume = { s with tmu := s.tmu.resume }.enterBoard .settling none := by
  unfold State.resume State.boardResume
  rw [h]

/-- No other board takes notice of RESUME (R51). -/
theorem State.resume_of_not_stalled (s : State) (h : s.bsv.board ≠ .stalled) : s.resume = { s with tmu := s.tmu.resume } := by
  unfold State.resume State.boardResume
  split
  · next stalled => exact absurd stalled h
  · rfl

@[simp] theorem State.resume_tmu (s : State) : s.resume.tmu = s.tmu.resume := by
  simp [State.resume]

/-! ## Trailing edges -/

/-- The pulse in progress ends at `m`: the logic sync is at rest, the stall timer restarts (R11, R14). -/
def State.pulseEnded (s : State) (m : Moment) : State :=
  { s with
    ssl := { s.ssl with logicSync := .rest }
    pcl := { s.pcl with pulse := none, stallTimer := some (m + stallTime) } }

@[simp] theorem State.pulseEnded_ssl (s : State) (m : Moment) : (s.pulseEnded m).ssl = { s.ssl with logicSync := .rest } := rfl
@[simp] theorem State.pulseEnded_pcl (s : State) (m : Moment) :
    (s.pulseEnded m).pcl = { s.pcl with pulse := none, stallTimer := some (m + stallTime) } := rfl
@[simp] theorem State.pulseEnded_quantities (s : State) (m : Moment) : (s.pulseEnded m).quantities = s.quantities := rfl
@[simp] theorem State.pulseEnded_frame (s : State) (m : Moment) :
    (s.pulseEnded m).now = s.now ∧ (s.pulseEnded m).rank = s.rank ∧ (s.pulseEnded m).cfg = s.cfg ∧ (s.pulseEnded m).cfl = s.cfl ∧
    (s.pulseEnded m).bus = s.bus ∧ (s.pulseEnded m).tmu = s.tmu ∧ (s.pulseEnded m).bsv = s.bsv ∧ (s.pulseEnded m).osw = s.osw ∧
    (s.pulseEnded m).fsg = s.fsg ∧ (s.pulseEnded m).lct = s.lct ∧ (s.pulseEnded m).spe = s.spe ∧
    (s.pulseEnded m).roster = s.roster ∧ (s.pulseEnded m).cnu = s.cnu ∧ (s.pulseEnded m).cmp = s.cmp ∧
    (s.pulseEnded m).ovg = s.ovg ∧ (s.pulseEnded m).mnu = s.mnu ∧ (s.pulseEnded m).lamps = s.lamps ∧
    (s.pulseEnded m).pending = s.pending := by
  simp [State.pulseEnded]

/-- A trailing edge that ends a pulse while ACTIVE has it classified (R11, R14). -/
theorem State.trailingEdge_of_pulse (s : State) (m : Moment) (p : Pulse) (hstate : s.pcl.state = .active) (hpulse : s.pcl.pulse = some p) :
    s.trailingEdge m = (s.pulseEnded m).classify p m := by
  simp [State.trailingEdge, State.pulseEnded, hstate, hpulse]

section
variable {p : Pulse} (s : State) (m : Moment) (hresume : p.resume = false) (hbroad : p.broad = false)
include hresume hbroad

/-- NARROW: nothing follows (R11). -/
theorem State.classify_narrow (h : ticksBetween m p.lead < 134) : s.classify p m = s := by
  simp [State.classify, hresume, hbroad, h]

/-- LINE (R11). -/
theorem State.classify_line (h : 134 ≤ ticksBetween m p.lead) (h' : ticksBetween m p.lead ≤ 383) : s.classify p m = s.linePulse p m := by
  simp [State.classify, hresume, hbroad, Nat.not_lt.mpr h, h']

/-- ODD (R11). -/
theorem State.classify_odd (h : 383 < ticksBetween m p.lead) (h' : ticksBetween m p.lead ≤ 767) : s.classify p m = s.oddPulse := by
  have wide : ¬ticksBetween m p.lead < 134 := by omega
  simp [State.classify, hresume, hbroad, wide, Nat.not_le.mpr h, h']

end

/-- A saturating count below or at its limit is the successor held there. -/
theorem satInc_eq_min (limit n : Nat) : satInc limit n = min limit (n + 1) := by
  unfold satInc
  split <;> omega

/-- The pair that a LINE pulse opens (R6). -/
theorem State.openPair_eq (s : State) (p : Pulse) (m : Moment) :
    s.openPair p m = if s.quantities.mode = .adaptive then p.tip.map (fun tip => { tip := tip, trail := m }) else none := by
  unfold State.openPair
  cases s.quantities.mode <;> cases p.tip <;> rfl

/-- An own line edge is kept while the switch is closed and the source BOARD (R110). -/
theorem State.ownBoardEdge_of_board (s : State) (lead : Moment) (hvideo : s.osw.video = .isClosed) (hsource : s.osw.source = .board) :
    s.ownBoardEdge lead = { s with osw := { s.osw with ownEdges := keptEdges s.now s.osw.ownEdges ++ [lead] } } := by
  simp [State.ownBoardEdge, State.ownEdge, hvideo, hsource]

/-- Otherwise none is (R110). -/
theorem State.ownBoardEdge_of_not_board (s : State) (lead : Moment) (h : s.osw.video = .isOpen ∨ s.osw.source = .fill) :
    s.ownBoardEdge lead = s := by
  rcases h with video | source
  · cases hsource : s.osw.source <;> simp [State.ownBoardEdge, State.ownEdge, video, hsource]
  · simp [State.ownBoardEdge, source]

/-! ## The LINE event -/

theorem Tmu.lineEvent_unmeasured (t : Tmu) (q : Quantities) (stamp : Stamp) (width : Nat)
    (h : t.phase = .partialCycle ∨ t.phase = .full) : t.lineEvent q stamp width = t := by
  rcases h with h | h <;> simp [Tmu.lineEvent, h]

theorem Tmu.lineEvent_masked {t : Tmu} {q : Quantities} {stamp f : Stamp} (width : Nat) (hphase : t.phase = .masking)
    (hfield : t.fieldStart = some f) (h : (stamp - f).toNat < 256 * q.maskUnits) : t.lineEvent q stamp width = t := by
  have early : stampDiff stamp f < 256 * q.maskUnits := h
  simp [Tmu.lineEvent, hphase, hfield, early]

theorem Tmu.lineEvent_first {t : Tmu} {q : Quantities} {stamp f : Stamp} (width : Nat) (hphase : t.phase = .masking)
    (hfield : t.fieldStart = some f) (h : 256 * q.maskUnits ≤ (stamp - f).toNat) :
    t.lineEvent q stamp width = { t with phase := .collecting, hits := [stamp], width := some width } := by
  have late : ¬stampDiff stamp f < 256 * q.maskUnits := Nat.not_lt.mpr h
  simp [Tmu.lineEvent, hphase, hfield, late]

theorem Tmu.lineEvent_next {t : Tmu} {last : Stamp} (q : Quantities) (stamp : Stamp) (width : Nat) (hphase : t.phase = .collecting)
    (hlast : t.hits.getLast? = some last) :
    t.lineEvent q stamp width = { t with
      hits := t.hits ++ [stamp], mark := t.mark || decide (4095 < (stamp - last).toNat)
      phase := if 16 ≤ t.hits.length then .full else .collecting } := by
  simp only [Tmu.lineEvent, hphase, hlast, Option.getD_some]
  rfl

/-! ## What a LINE pulse leaves -/

theorem State.linePulse_sync (s : State) (p : Pulse) (m : Moment) :
    (s.linePulse p m).pcl = { s.pcl with lineCount := min 255 (s.pcl.lineCount + 1) } ∧
    (s.linePulse p m).ssl = { s.ssl with pair := s.openPair p m } ∧
    (s.linePulse p m).tmu = s.tmu.lineEvent s.quantities (stampOf p.lead) (ticksBetween m p.lead) := by
  simp [State.linePulse, satInc_eq_min]

theorem State.linePulse_osw_of_board (s : State) (p : Pulse) (m : Moment) (hvideo : s.osw.video = .isClosed)
    (hsource : s.osw.source = .board) :
    (s.linePulse p m).osw = { s.osw with ownEdges := keptEdges s.now s.osw.ownEdges ++ [p.lead] } := by
  simp [State.linePulse, State.ownBoardEdge_of_board, hvideo, hsource]

theorem State.linePulse_osw_of_not_board (s : State) (p : Pulse) (m : Moment) (h : s.osw.video = .isOpen ∨ s.osw.source = .fill) :
    (s.linePulse p m).osw = s.osw := by
  unfold State.linePulse
  rw [State.ownBoardEdge_of_not_board]
  exact h

end Sys2Proof.Machine
end

section
open Sys2Proof.Machine

/-- Settles O11, by classifier state, and while QUIET by whether the board is STALLED. -/
theorem leadingEdgeBeginsPulse : Obligations.LeadingEdgeBeginsPulse := by
  intro s dt held level hmode hsync hheld hlevel
  refine ⟨_, exec_leadingEdge dt hmode hsync hheld hlevel, by simp, ?_⟩
  intro lead
  simp only [State.settled_frame]
  refine ⟨?_, fun hactive => ?_, fun hquiet => ?_⟩
  · cases hstate : s.pcl.state
    · rw [(s.elapse dt).leadingEdge_of_active _ hstate]
      simp
    · rw [(s.elapse dt).leadingEdge_of_quiet _ hstate]
      simp [State.resumePulse]
  · rw [(s.elapse dt).leadingEdge_of_active _ hactive]
    refine ⟨?_, ?_⟩
    · simp only [State.overlayBoardEdge_frame]
      rfl
    · simp [State.agreesOutside_iff, follows]
  · rw [(s.elapse dt).leadingEdge_of_quiet _ hquiet]
    simp only [State.overlayBoardEdge_frame, State.resumePulse]
    refine ⟨rfl, ?_, fun hstalled => ?_, fun hother => ?_, ?_⟩
    · simp [Tmu.resume]
    · rw [State.resume_of_stalled, State.enterBoard_bsv]
      · rfl
      · exact hstalled
    · rw [State.resume_of_not_stalled]
      · simp [State.agreesOutside_iff, follows]
      · exact hother
    · simp [State.agreesOutside_iff, follows, reached, State.resume]

/-- Settles O12, by the width of the pulse: NARROW, LINE or ODD. -/
theorem trailingEdgeGivesClass : Obligations.TrailingEdgeGivesClass := by
  intro s dt held level p hpulse hmode hstate hsync hresume hbroad hheld hlevel m width hwidth
  have run : exec (.trailingEdge dt held level) s = .next ((s.elapse dt).trailingEdge m).settled :=
    exec_trailingEdge dt hmode hsync hheld hlevel
  rw [(s.elapse dt).trailingEdge_of_pulse _ p hstate hpulse] at run
  refine ⟨_, run, ?_⟩
  simp only [State.settled_frame]
  rcases Nat.lt_or_ge width 134 with narrow | wide
  · have notLine : ¬(134 ≤ width ∧ width ≤ 383) := by omega
    have notOdd : ¬384 ≤ width := by omega
    rw [State.classify_narrow _ m hresume hbroad narrow]
    simp only [notLine, notOdd, if_false]
    refine ⟨by simp [stallTime], by simp, fun _ => by simp, fun wide => absurd wide (by omega), fun _ => by simp,
      fun wide => absurd wide (by omega), by simp, ?_⟩
    simp [State.agreesOutside_iff, follows]
  · rcases Nat.lt_or_ge 383 width with odd | line
    · have notLine : ¬(134 ≤ width ∧ width ≤ 383) := by omega
      have isOdd : 384 ≤ width := odd
      rw [State.classify_odd _ m hresume hbroad odd hwidth]
      simp only [notLine, isOdd, if_false, if_true]
      refine ⟨by simp [State.oddPulse, satInc_eq_min, stallTime], by simp, fun _ => by simp, fun _ line => absurd line (by omega),
        fun _ => by simp, fun _ line => absurd line (by omega), by simp, ?_⟩
      simp [State.agreesOutside_iff, follows]
    · have notOdd : ¬384 ≤ width := by omega
      rw [State.classify_line _ m hresume hbroad wide line]
      obtain ⟨pcl, ssl, tmu⟩ := ((s.elapse dt).pulseEnded m).linePulse_sync p m
      simp only [wide, line, notOdd, and_self, if_false, if_true, pcl, ssl, tmu, State.openPair_eq, State.pulseEnded_quantities,
        State.elapse_quantities, State.pulseEnded_frame, State.elapse_frame]
      refine ⟨rfl, rfl, ?_, fun _ _ => ⟨?_, ?_⟩, ?_, fun _ _ video source => ?_, by simp, ?_⟩
      · rintro (narrow | wide | unmeasured)
        · omega
        · omega
        · exact s.tmu.lineEvent_unmeasured _ _ _ unmeasured
      · exact fun hphase f hfield => ⟨Tmu.lineEvent_masked _ hphase hfield, Tmu.lineEvent_first _ hphase hfield⟩
      · exact fun hphase last hlast => Tmu.lineEvent_next _ _ _ hphase hlast
      · rintro (narrow | wide | notBoard)
        · omega
        · omega
        · exact State.linePulse_osw_of_not_board _ p m notBoard
      · have kept := ((s.elapse dt).pulseEnded m).linePulse_osw_of_board p m video source
        simpa [keptEdges] using kept
      · simp [State.agreesOutside_iff, follows]

end

section
/-!
SUPPORT. FIELD START (R13, R20): a pulse decided BROAD, the cycle closed and armed, and what the supervisor makes of what is raised (R46, R48,
R49).
-/

namespace Sys2Proof.Machine

/-! ## The measurement unit at a FIELD START -/

/-- The cycle armed has no hit, width or mark; its predecessor's record has joined the ring (R20, R30). -/
theorem Tmu.fieldStartTaken_armed (t : Tmu) (q : Quantities) (board : BoardState) (stamp : Stamp) (odd age : Nat) (polarity : Polarity) :
    (t.fieldStartTaken q board stamp odd age polarity).phase = .masking ∧
    (t.fieldStartTaken q board stamp odd age polarity).fieldStart = some stamp ∧
    (t.fieldStartTaken q board stamp odd age polarity).hits = [] ∧ (t.fieldStartTaken q board stamp odd age polarity).width = none ∧
    (t.fieldStartTaken q board stamp odd age polarity).mark = false ∧
    (t.fieldStartTaken q board stamp odd age polarity).ring = pushRecord t.ring (t.closeRecord odd age polarity) := by
  have ring (rec : FieldRecord) : (t.join q rec).ring = pushRecord t.ring rec := by
    unfold Tmu.join
    split <;> rfl
  simp only [Tmu.fieldStartTaken]
  split <;> exact ⟨rfl, rfl, rfl, rfl, rfl, ring _⟩

/-! ## The supervisor at what is raised -/

section
variable (s : State) (field : Moment)

/-- Verdict IN takes SETTLING and OFF_WINDOW to READY, and the attempts are forgotten (R46, R49). -/
theorem State.boardTmuEvent_bsv_in (h : s.bsv.board = .settling ∨ s.bsv.board = .offWindow) :
    (s.boardTmuEvent (some (.newSignature .inWindow)) field).bsv = { s.bsv with
      board := .ready, brst := false, resetHold := none, bootLimit := none, stallGrace := none, attempts := 0 } := by
  have ready : settlesReady s.bsv.board .inWindow = true := by
    rcases h with h | h <;> rw [h] <;> rfl
  simp only [State.boardTmuEvent, State.boardSignature, ready, if_true, State.enterBoard_bsv]
  rfl

/-- Verdict OUT takes SETTLING and READY to OFF_WINDOW with the fault latched (R46, R48). -/
theorem State.boardTmuEvent_bsv_out (h : s.bsv.board = .settling ∨ s.bsv.board = .ready) :
    (s.boardTmuEvent (some (.newSignature .outOfWindow)) field).bsv = { s.bsv with
      board := .offWindow, brst := false, resetHold := none, bootLimit := none, stallGrace := none, offWindow := true } := by
  have stays : settlesReady s.bsv.board .outOfWindow = false := rfl
  have leaves : leavesWindow s.bsv.board .outOfWindow = true := by
    rcases h with h | h <;> rw [h] <;> rfl
  simp only [State.boardTmuEvent, State.boardSignature, stays, leaves, if_true, Bool.false_eq_true, if_false, State.enterBoard_bsv]
  rfl

/-- In OFF_WINDOW it sets the latch again (R49). -/
theorem State.boardTmuEvent_bsv_off (h : s.bsv.board = .offWindow) :
    (s.boardTmuEvent (some (.newSignature .outOfWindow)) field).bsv = { s.bsv with offWindow := true } := by
  simp [State.boardTmuEvent, State.boardSignature, settlesReady, leavesWindow, h]

/-- DRIFT takes READY to SETTLING with its boot limit running (R48). -/
theorem State.boardTmuEvent_bsv_drift (h : s.bsv.board = .ready) :
    (s.boardTmuEvent (some .drift) field).bsv = { s.bsv with
      board := .settling, brst := false, resetHold := none, stallGrace := none
      bootLimit := some (s.now + ms (1000 * s.quantities.bootLimitS)) } := by
  unfold State.boardTmuEvent State.boardDrift
  simp only [h, State.enterBoard_bsv]
  rfl

/-- Nothing raised, or a board that what is raised does not concern: the supervisor stays as it is (R46, R48 to R51, R53). -/
theorem State.boardTmuEvent_of_unconcerned (e : Option TmuEvent)
    (h : e = none ∨ s.bsv.board = .vacant ∨ s.bsv.board = .resetting ∨ s.bsv.board = .stalled ∨ s.bsv.board = .failed ∨
      e = some (.newSignature .inWindow) ∧ s.bsv.board = .ready ∨ e = some .drift ∧ s.bsv.board ≠ .ready) :
    s.boardTmuEvent e field = s := by
  have signature (v : Verdict) (hin : settlesReady s.bsv.board v = false) (hout : leavesWindow s.bsv.board v = false)
      (hoff : s.bsv.board ≠ .offWindow) : s.boardSignature v field = s := by
    simp [State.boardSignature, hin, hout, hoff]
  have drift (hready : s.bsv.board ≠ .ready) : s.boardDrift field = s := by
    unfold State.boardDrift
    split
    · next ready => exact absurd ready hready
    · rfl
  match e, h with
  | none, _ => rfl
  | some .drift, h =>
    refine drift ?_
    rintro ready
    simp [ready] at h
  | some (.newSignature v), h =>
    have concern : settlesReady s.bsv.board v = false ∧ leavesWindow s.bsv.board v = false ∧ s.bsv.board ≠ .offWindow := by
      rcases h with h | h | h | h | h | ⟨h, hboard⟩ | ⟨h, -⟩
      · cases h
      · simp [settlesReady, leavesWindow, h]
      · simp [settlesReady, leavesWindow, h]
      · simp [settlesReady, leavesWindow, h]
      · simp [settlesReady, leavesWindow, h]
      · cases h
        simp [settlesReady, leavesWindow, hboard]
      · cases h
    obtain ⟨hin, hout, hoff⟩ := concern
    exact signature v hin hout hoff

end

/-! ## FIELD START -/

@[simp] theorem State.fieldTaken_frame (s : State) (lead : Moment) :
    (s.fieldTaken lead).now = s.now ∧ (s.fieldTaken lead).rank = s.rank ∧ (s.fieldTaken lead).cfg = s.cfg ∧
    (s.fieldTaken lead).cfl = s.cfl ∧ (s.fieldTaken lead).ssl = s.ssl ∧ (s.fieldTaken lead).bus = s.bus ∧
    (s.fieldTaken lead).bsv = s.bsv ∧ (s.fieldTaken lead).osw = s.osw ∧ (s.fieldTaken lead).fsg = s.fsg ∧
    (s.fieldTaken lead).lct = s.lct ∧ (s.fieldTaken lead).spe = s.spe ∧ (s.fieldTaken lead).roster = s.roster ∧
    (s.fieldTaken lead).cnu = s.cnu ∧ (s.fieldTaken lead).cmp = s.cmp ∧ (s.fieldTaken lead).ovg = s.ovg ∧
    (s.fieldTaken lead).mnu = s.mnu ∧ (s.fieldTaken lead).lamps = s.lamps ∧ (s.fieldTaken lead).pending = s.pending := by
  simp [State.fieldTaken]

@[simp] theorem State.fieldTaken_quantities (s : State) (lead : Moment) : (s.fieldTaken lead).quantities = s.quantities := rfl

/-- Counts and field age begin again at the FIELD START (R12, R13). -/
theorem State.fieldStart_pcl (s : State) (lead : Moment) :
    (s.fieldStart lead).pcl = { s.pcl with lineCount := 0, oddCount := 0, ageFrom := some lead } := by
  simp [State.fieldStart_eq, State.fieldTaken]

/-- The cycle is closed with the age and counts as they stood (R20, R27). -/
theorem State.fieldStart_tmu (s : State) (lead : Moment) :
    (s.fieldStart lead).tmu =
      s.tmu.fieldStartTaken s.quantities s.bsv.board (stampOf lead) s.pcl.oddCount (s.fieldAge lead) s.ssl.polarity := by
  simp [State.fieldStart_eq, State.fieldTaken]

/-- No block behind the supervisor acts on it (R13). -/
theorem State.fieldStart_bsv (s : State) (lead : Moment) :
    (s.fieldStart lead).bsv = ((s.fieldTaken lead).boardTmuEvent (s.fieldRaises lead) lead).bsv := by
  simp [State.fieldStart_eq]

@[simp] theorem State.fieldStart_roster (s : State) (lead : Moment) : (s.fieldStart lead).roster = s.roster := by
  simp [State.fieldStart_eq]

/-! ## The decision -/

/-- The state with its pulse marked BROAD (R11). -/
def State.pulseBroad (s : State) (p : Pulse) : State :=
  { s with pcl := { s.pcl with pulse := some { p with broad := true } } }

/-- Below a line count of 8 the decision marks the pulse alone (R11, R13). -/
theorem State.decideBroad_of_few (s : State) {p : Pulse} (hpulse : s.pcl.pulse = some p) (h : s.pcl.lineCount < 8) :
    s.decideBroad = s.pulseBroad p := by
  simp [State.decideBroad, State.broad, State.pulseBroad, hpulse, Nat.not_le.mpr h]

/-- From 8 on it raises FIELD START at the leading edge (R13). -/
theorem State.decideBroad_of_field (s : State) {p : Pulse} (hpulse : s.pcl.pulse = some p) (h : 8 ≤ s.pcl.lineCount) :
    s.decideBroad = (s.pulseBroad p).fieldStart p.lead := by
  simp [State.decideBroad, State.broad, State.pulseBroad, hpulse, h]

/-- The age handed to the measurement unit, as the obligation writes it (R13). -/
theorem State.pulseBroad_fieldAge (s : State) (p : Pulse) (lead : Moment) :
    (s.pulseBroad p).fieldAge lead = min 4194304 (lead - s.pcl.ageFrom.getD lead) :=
  Nat.min_comm _ _

end Sys2Proof.Machine
end

section
open Sys2Proof.Machine

/-- Settles O13: below a line count of 8 by `State.decideBroad_of_few`; from 8 on the blocks by the equations of FIELD START, the board by
what is raised. -/
theorem broadPulseMarksField : Obligations.BroadPulseMarksField := by
  intro s p hpulse hstate hresume hbroad
  refine ⟨_, exec_broadDecided hpulse hstate hresume hbroad, by simp, fun few => ?_, fun enough => ?_⟩
  · rw [(s.advanceTo (p.lead + 768)).decideBroad_of_few (by simpa using hpulse) (by simpa using few)]
    exact ⟨by simp [State.pulseBroad], by simp [State.agreesOutside_iff, follows, State.pulseBroad]⟩
  · intro q age raised b
    rw [(s.advanceTo (p.lead + 768)).decideBroad_of_field (by simpa using hpulse) (by simpa using enough)]
    generalize hu : (s.advanceTo (p.lead + 768)).pulseBroad p = u
    have hage : u.fieldAge p.lead = age := by simp [← hu, State.pulseBroad_fieldAge, age]
    have hq : u.quantities = q := by simp [← hu, State.pulseBroad, State.quantities, q]
    have hraised : u.fieldRaises p.lead = raised := by
      unfold State.fieldRaises
      rw [hage, hq]
      simp [← hu, State.pulseBroad, raised]
    have hpcl : u.pcl = { s.pcl with pulse := some { p with broad := true } } := by simp [← hu, State.pulseBroad]
    have hbsv : u.bsv = s.bsv := by simp [← hu, State.pulseBroad]
    have htmu : u.tmu = s.tmu := by simp [← hu, State.pulseBroad]
    have hssl : u.ssl = s.ssl := by simp [← hu, State.pulseBroad]
    clear_value age raised
    have taken : (u.fieldStart p.lead).settled.tmu = s.tmu.fieldStartTaken q b (stampOf p.lead) s.pcl.oddCount age s.ssl.polarity := by
      simp [State.fieldStart_tmu, hage, hq, hpcl, hbsv, htmu, hssl, b]
    have supervised : (u.fieldStart p.lead).settled.bsv = ((u.fieldTaken p.lead).boardTmuEvent raised p.lead).bsv := by
      simp [State.fieldStart_bsv, hraised]
    obtain ⟨phase, field, hits, width, mark, ring⟩ :=
      s.tmu.fieldStartTaken_armed q b (stampOf p.lead) s.pcl.oddCount age s.ssl.polarity
    rw [taken, supervised]
    refine ⟨?_, phase, field, hits, width, mark, ring, rfl, ?_, ?_, ?_, ?_, ?_, ?_⟩
    · simp [State.fieldStart_pcl, hpcl]
    · rintro rfl board
      rw [State.boardTmuEvent_bsv_in _ _ (by simpa [hbsv] using board)]
      simp [hbsv]
    · rintro rfl board
      rw [State.boardTmuEvent_bsv_out _ _ (by simpa [hbsv] using board)]
      simp [hbsv]
    · rintro rfl board
      rw [State.boardTmuEvent_bsv_off _ _ (by simpa [hbsv] using board)]
      simp [hbsv]
    · rintro rfl board
      rw [State.boardTmuEvent_bsv_drift _ _ (by simpa [hbsv] using board)]
      simp [hbsv, hq, ms, ticksPerMs]
    · intro unconcerned
      rw [State.boardTmuEvent_of_unconcerned _ _ _ (by simpa [hbsv] using unconcerned)]
      simp [hbsv]
    · subst hu
      simp [State.agreesOutside_iff, follows, reached, State.pulseBroad]

end

section
/-!
SUPPORT. Bus sense (R17, R18): an edge, the bus pulses it begins and ends, and the end of the silence time.
-/

namespace Sys2Proof.Machine

/-! ## Edges -/

/-- The bus-sense output is low below code 70 and high above it; code 70 itself is a free value (R17). -/
theorem busHigh_eq (level : Code) : (level.val < 70 → busHigh level = false) ∧ (70 < level.val → busHigh level = true) := by
  refine ⟨fun below => by simp [busHigh, below], fun above => ?_⟩
  simp [busHigh, above, Nat.lt_asymm above]

/-- With bus sense at work since `r`, a level is an edge where it is a change that has held for 12 ticks (R17). -/
theorem exec_busEdge {s : State} {r : Moment} (dt held : Nat) (level : Code) (hr : s.cfl.resetEnded = some r) :
    exec (.busEdge dt held level) s = .next
      (if 12 ≤ min held (s.now + dt - r) ∧ busHigh level ≠ s.bus.output then
        (s.elapse dt).busEdge (s.now + dt - min held (s.now + dt - r)) (busHigh level)
      else s.elapse dt).settled := by
  simp [exec, execBusEdge, done_eq, State.busChanged, State.busSteady, State.steadyFor, edgeFilter, hr]

section
variable {s : State} (m : Moment) (high : Bool)

/-- While the switch is open no bus pulse is followed (R18). -/
theorem State.busPulse_of_open (hvideo : s.osw.video = .isOpen) : s.busPulse m high = s := by
  simp [State.busPulse, hvideo]

/-- Between bus pulses an edge begins one if it leads into the sync-active level (R18). -/
theorem State.busPulse_begins (hvideo : s.osw.video = .isClosed) (hpulse : s.bus.pulse = none) :
    s.busPulse m high = { s with bus := { s.bus with pulse := if busActive s.drivenPolarity high then some m else none } } := by
  simp only [State.busPulse, hvideo, hpulse]
  split
  · rfl
  · rw [← hpulse]

/-- The next edge ends the bus pulse, and a LINE width puts its leading edge behind those that await judgement (R18). -/
theorem State.busPulse_ends {lead : Moment} (hvideo : s.osw.video = .isClosed) (hpulse : s.bus.pulse = some lead) :
    s.busPulse m high = { s with
      bus := { s.bus with pulse := none }
      osw := { s.osw with awaiting :=
        if 134 ≤ ticksBetween m lead ∧ ticksBetween m lead ≤ 383 then s.osw.awaiting ++ [lead] else s.osw.awaiting } } := by
  simp [State.busPulse, hvideo, hpulse, busLineWidth]

end

/-- Bus pulses leave the output, LIVE or SILENT and the silence timer to the edge itself (R17). -/
@[simp] theorem State.busPulse_bus (s : State) (m : Moment) (high : Bool) :
    (s.busPulse m high).bus.output = s.bus.output ∧ (s.busPulse m high).bus.silence = s.bus.silence ∧
    (s.busPulse m high).bus.silenceTimer = s.bus.silenceTimer := by
  unfold State.busPulse
  repeat' split
  all_goals simp

/-- An edge makes the bus LIVE and restarts the silence timer where the change began (R17). -/
@[simp] theorem State.busEdge_bus (s : State) (m : Moment) (high : Bool) :
    (s.busEdge m high).bus.output = high ∧ (s.busEdge m high).bus.silence = .live ∧
    (s.busEdge m high).bus.silenceTimer = some (m + silenceTime) := by
  simp [State.busEdge]

end Sys2Proof.Machine
end

section
open Sys2Proof.Machine

/-- Settles O19: by whether the level is an edge (`exec_busEdge`), and an edge by switch and bus pulse. -/
theorem busEdgeMakesBusLive : Obligations.BusEdgeMakesBusLive := by
  intro s dt held level r hr steady m
  obtain ⟨below, above⟩ := busHigh_eq level
  have run := exec_busEdge dt held level hr
  by_cases edge : 12 ≤ steady ∧ busHigh level ≠ s.bus.output
  · rw [if_pos edge] at run
    obtain ⟨settledLevel, change⟩ := edge
    refine ⟨_, run, by simp [State.elapse], below, above, fun none => ?_, fun _ _ => ⟨?_, ?_, ?_, fun hvideo => ?_,
      fun hvideo hpulse => ?_, fun hvideo lead hpulse => ?_⟩, ?_⟩
    · exact none.elim (fun short => absurd settledLevel (Nat.not_le.mpr short)) (absurd · change)
    · simp
    · simp
    · simp [silenceTime, m, steady]
    · rw [State.busEdge, State.busPulse_of_open]
      · simp
      · simpa using hvideo
    · rw [State.busEdge, State.busPulse_begins]
      · simp only [State.settled_frame, State.elapse_frame, m, steady]
        exact ⟨trivial, rfl⟩
      · simpa using hvideo
      · simpa using hpulse
    · rw [State.busEdge, State.busPulse_ends (lead := lead)]
      · simp [m, steady]
      · simpa using hvideo
      · simpa using hpulse
    · simp [State.agreesOutside_iff, follows]
  · rw [if_neg edge] at run
    refine ⟨_, run, by simp [State.elapse], below, above, fun _ => ?_, fun long change => absurd ⟨long, change⟩ edge, ?_⟩
    · simp [State.agreesOutside_iff, follows]
    · simp [State.agreesOutside_iff, follows]

end

section
/-!
SUPPORT. Sending on a line that is not stuck, and what an entry to BIDDING leaves as it was (R97, R98, R104).
-/

namespace Sys2Proof.Machine

/-- Only a stuck line reports a frame at once (R76, R80). -/
theorem LineController.answerTo_ne_reported (l : LineController) (f : Frame) (h : l.stuck = false) : l.answerTo f ≠ .reported := by
  unfold LineController.answerTo
  rw [h]
  repeat' split
  all_goals simp_all

/-- On a line that is not stuck, sending moves the line controller and the pending requests alone (R98). -/
theorem State.send_of_unstuck (s : State) (r : PendingRequest) (h : s.lct.stuck = false) :
    ∃ l q, s.send r = { s with lct := l, spe := { s.spe with requests := q } } := by
  have unreported : s.answerTo r ≠ .reported := s.lct.answerTo_ne_reported _ h
  unfold State.send
  split
  · unfold Spe.recordRequest
    split
    · exact ⟨s.lct, s.spe.requests, rfl⟩
    · exact ⟨s.lct, _, rfl⟩
  · unfold State.tryEnqueue
    split
    · next reported => exact absurd reported unreported
    · exact ⟨_, s.spe.requests, rfl⟩

/-- Closing or opening the switch drops the bus pulse in progress, and nothing else of the bus (R18, R97). -/
theorem State.switchesFollow_bus (s : State) (role : Role) :
    (s.switchesFollow role).bus.silence = s.bus.silence ∧ (s.switchesFollow role).bus.silenceTimer = s.bus.silenceTimer ∧
    (s.osw.video = .isOpen → holdsScreen role = false → (s.switchesFollow role).bus = s.bus) := by
  have closed : s.closeVideo.bus = { s.bus with pulse := none } := by
    simp only [State.closeVideo]
    split <;> simp
  have opened : s.openVideo.bus = { s.bus with pulse := none } := by simp [State.openVideo]
  unfold State.switchesFollow
  refine ⟨?_, ?_, fun hvideo hrole => by rw [hvideo, hrole]⟩
  all_goals
    split
    · simp [closed]
    · simp [opened]
    · rfl

/-- A change of role moves the bus by the switch alone (R96). -/
theorem State.setRole_bus (s : State) (role : Role) :
    (s.setRole role).bus.silence = s.bus.silence ∧ (s.setRole role).bus.silenceTimer = s.bus.silenceTimer ∧
    (s.osw.video = .isOpen → holdsScreen role = false → (s.setRole role).bus = s.bus) := by
  unfold State.setRole
  split
  · exact ⟨rfl, rfl, fun _ _ => rfl⟩
  · have handed (u : State) : (u.handRole role).bus = (u.switchesFollow role).bus := by simp [State.handRole]
    rw [handed]
    exact State.switchesFollow_bus _ role

/-- Bidding alone: the engine in BIDDING with its own rank in the bid set, BID sent, and the bid window running (R104). -/
theorem State.beginBid_of_unstuck (s : State) (h : s.lct.stuck = false) :
    ∃ l q, s.beginBid none =
      let u := { s with spe := { s.spe with view := none } }.setRole .bidding
      { u with lct := l, spe := { u.spe with bidSet := [s.rank], requests := q, bidWindow := some (s.now + bidWindowTime) } } := by
  let u := { s with spe := { s.spe with view := none } }.setRole .bidding
  let v : State := { u with spe := { u.spe with bidSet := [s.rank] } }
  obtain ⟨l, q, sent⟩ := v.send_of_unstuck bidRequest (by simp [v, u, h])
  refine ⟨l, q, ?_⟩
  have begun : s.beginBid none =
      { v.send bidRequest with spe := { (v.send bidRequest).spe with bidWindow := some ((v.send bidRequest).now + bidWindowTime) } } := by
    simp [State.beginBid, State.after, v, u]
  rw [begun, sent]
  simp [v, u]

/-! ## BUS SILENT -/

/-- With its timer running the silence time ends in BUS SILENT (R17). -/
theorem exec_busSilent {s : State} {due : Moment} (hdue : s.bus.silenceTimer = some due) :
    exec .busSilent s = .next (s.advanceTo due).busFallsSilent.settled := by
  simp [exec, execBusSilent, done_eq, hdue]

/-- The state with its bus SILENT (R17). -/
def State.busQuiet (s : State) : State :=
  { s with bus := { s.bus with silence := .silent, silenceTimer := none } }

/-- A node in STANDBY that may not bid, and one in STARTUP, clear the view alone (R100, R103). -/
theorem State.busFallsSilent_of_idle (s : State) (h : s.spe.role = .startup ∨
    s.spe.role = .standby ∧ (s.bsv.board ≠ .ready ∨ s.lct.stuck = true ∨ s.spe.seatWait.isSome = true)) :
    s.busFallsSilent = s.busQuiet.setView none := by
  rcases h with role | ⟨role, unfit⟩
  · simp [State.busFallsSilent, State.speBusSilent, State.busQuiet, role]
  · have check : (s.busQuiet.setView none).bidCheckPasses = false := by
      rcases unfit with h | h | h <;> simp [State.bidCheckPasses, State.busQuiet, h]
    simp [State.busFallsSilent, State.speBusSilent, State.bidCheck, check, role, ← State.busQuiet.eq_1]

/-- One that may bids (R102, R104). -/
theorem State.busFallsSilent_of_bidder (s : State) (role : s.spe.role = .standby) (board : s.bsv.board = .ready)
    (stuck : s.lct.stuck = false) (wait : s.spe.seatWait = none) :
    s.busFallsSilent = (s.busQuiet.setView none).beginBid none := by
  have check : (s.busQuiet.setView none).bidCheckPasses = true := by
    simp [State.bidCheckPasses, State.busQuiet, role, board, stuck, wait]
  simp [State.busFallsSilent, State.speBusSilent, State.bidCheck, check, role, ← State.busQuiet.eq_1]

/-- No other role takes notice (R105, R108, R125, R131). -/
theorem State.busFallsSilent_of_other (s : State) (startup : s.spe.role ≠ .startup) (standby : s.spe.role ≠ .standby) :
    s.busFallsSilent = s.busQuiet := by
  unfold State.busFallsSilent State.speBusSilent
  split
  · next role => exact absurd role startup
  · next role => exact absurd role standby
  · rfl

/-- The engine bids alone (R104). -/
theorem State.beginBid_spe (s : State) (h : s.lct.stuck = false) :
    (s.beginBid none).spe.role = .bidding ∧ (s.beginBid none).spe.view = none ∧ (s.beginBid none).spe.bidSet = [s.rank] ∧
    (s.beginBid none).spe.bidWindow = some (s.now + 2400000) := by
  obtain ⟨l, q, begun⟩ := s.beginBid_of_unstuck h
  rw [begun]
  simp [bidWindowTime, ms, ticksPerMs]

/-- A bid begun moves the bus by the switch alone (R96, R104). -/
theorem State.beginBid_bus (s : State) (h : s.lct.stuck = false) :
    (s.beginBid none).bus.silence = s.bus.silence ∧ (s.beginBid none).bus.silenceTimer = s.bus.silenceTimer ∧
    (s.osw.video = .isOpen → (s.beginBid none).bus = s.bus) := by
  obtain ⟨l, q, begun⟩ := s.beginBid_of_unstuck h
  obtain ⟨silence, timer, same⟩ := { s with spe := { s.spe with view := none } }.setRole_bus .bidding
  rw [begun]
  exact ⟨silence, timer, fun hvideo => same hvideo rfl⟩

/-- Whatever the role, the bus is SILENT (R17). -/
theorem State.busFallsSilent_bus (s : State) :
    s.busFallsSilent.bus.silence = .silent ∧ s.busFallsSilent.bus.silenceTimer = none ∧
    (s.osw.video = .isOpen → s.busFallsSilent.bus = s.busQuiet.bus) := by
  by_cases idle : s.spe.role = .startup ∨
      s.spe.role = .standby ∧ (s.bsv.board ≠ .ready ∨ s.lct.stuck = true ∨ s.spe.seatWait.isSome = true)
  · rw [s.busFallsSilent_of_idle idle]
    simp [State.busQuiet]
  · by_cases standby : s.spe.role = .standby
    · obtain ⟨board, stuck, wait⟩ : s.bsv.board = .ready ∧ s.lct.stuck = false ∧ s.spe.seatWait = none := by
        simpa [standby] using idle
      have bid := (s.busQuiet.setView none).beginBid_bus (by simpa [State.busQuiet] using stuck)
      rw [s.busFallsSilent_of_bidder standby board stuck wait]
      simpa [State.busQuiet] using bid
    · rw [s.busFallsSilent_of_other (fun startup => idle (.inl startup)) standby]
      simp [State.busQuiet]

end Sys2Proof.Machine
end

section
open Sys2Proof.Machine

/-- Settles O20: by what the role makes of BUS SILENT, a bid by `State.beginBid_of_unstuck`. -/
theorem busSilenceReachesEngine : Obligations.BusSilenceReachesEngine := by
  intro s due hdue
  obtain ⟨silence, timer, same⟩ := (s.advanceTo due).busFallsSilent_bus
  refine ⟨_, exec_busSilent hdue, ?_, ?_, ?_, fun hvideo => ?_, fun idle => ?_, fun role board stuck wait => ?_,
    fun startup standby => ?_⟩
  · simp
  · simpa using silence
  · simpa using timer
  · simpa [State.busQuiet] using same (by simpa using hvideo)
  · rw [(s.advanceTo due).busFallsSilent_of_idle (by simpa using idle)]
    refine ⟨?_, ?_, ?_⟩
    · simp [State.busQuiet]
    · obtain role | ⟨role, -⟩ := idle <;> simp [State.setView, State.decideCblk, State.busQuiet, cblkAsserted, role]
    · simp [State.agreesOutside_iff, follows, State.busQuiet]
  · rw [(s.advanceTo due).busFallsSilent_of_bidder (by simpa using role) (by simpa using board) (by simpa using stuck)
      (by simpa using wait)]
    obtain ⟨bidding, view, bidSet, window⟩ :=
      ((s.advanceTo due).busQuiet.setView none).beginBid_spe (by simpa [State.busQuiet] using stuck)
    refine ⟨by simpa using bidding, by simpa using view, ?_, ?_, ?_⟩
    · simpa [State.busQuiet] using bidSet
    · simpa [State.busQuiet] using window
    · simp [State.agreesOutside_iff, follows, reached, State.busQuiet]
  · rw [(s.advanceTo due).busFallsSilent_of_other (by simpa using startup) (by simpa using standby)]
    simp [State.agreesOutside_iff, follows, State.busQuiet]

end

section
/-!
SUPPORT. Node reset (R178): the reset state shows what it is, so lamps and cells stay as it gives them.
-/

namespace Sys2Proof.Machine

/-- During node reset no line of text is shown: every cell is blank (R163, R177). -/
theorem State.resetBy_cellContent (s : State) (cause : ResetCause) (row column : Nat) :
    (s.resetBy cause).cellContent row column = Cell.reset := by
  change (if row = 9 then (s.resetBy cause).noticeCell false column else Cell.reset) = Cell.reset
  split <;> rfl

/-- Lamps dark and cells blank already, the state that node reset leaves stays as it is. -/
theorem State.resetBy_settled (s : State) (cause : ResetCause) : (s.resetBy cause).settled = s.resetBy cause := by
  have lamps : (s.resetBy cause).settled.lamps = (s.resetBy cause).lamps := rfl
  have cells : (s.resetBy cause).settled.ovg.cells = (s.resetBy cause).ovg.cells := by
    rw [State.settled_cells]
    refine Vector.ext fun i hi => ?_
    simp only [Vector.getElem_ofFn, State.resetBy_cellContent]
    exact (Vector.getElem_replicate hi).symm
  rw [State.settled_eq, lamps, cells]

/-- Power-on, and NRESET low for at least 10 µs, reset the node; a shorter low does not (R178). -/
theorem exec_nodeReset (s : State) (dt held : Nat) (cause : ResetCause) (h : cause = .nresetLow held ∨ cause = .powerOn) :
    exec (.nodeReset dt cause) s =
      .next (if cause = .powerOn ∨ 480 ≤ held then s.resetBy cause else (s.elapse dt).settled) := by
  have counts : resetCounts cause = true ↔ cause = .powerOn ∨ 480 ≤ held := by
    rcases h with rfl | rfl <;> simp [resetCounts]
  simp only [exec, execNodeReset, counts, done_eq]
  split <;> simp [State.resetBy_settled]

/-- The cause joins those in force (R178). -/
theorem ResetCauses.add_iff (c : ResetCauses) {held : Nat} {cause : ResetCause} (h : cause = .nresetLow held ∨ cause = .powerOn) :
    ((c.add cause).pin = true ↔ c.pin = true ∨ cause ≠ .powerOn) ∧
    ((c.add cause).power = true ↔ c.power = true ∨ cause = .powerOn) := by
  rcases h with rfl | rfl <;> simp [ResetCauses.add]

end Sys2Proof.Machine
end

section
open Sys2Proof.Machine

/-- Settles O3: where node reset counts, by the reset value of each block; a shorter low lets time pass alone. -/
theorem nodeResetSetsEveryBlock : Obligations.NodeResetSetsEveryBlock := by
  intro s dt held cause hcause resets
  have run := exec_nodeReset s dt held cause hcause
  by_cases h : resets
  · rw [if_pos h] at run
    obtain ⟨pin, power⟩ := s.cfl.causes.add_iff hcause
    refine ⟨_, run, rfl, absurd h, fun _ => ⟨⟨rfl, rfl, rfl, rfl, rfl, rfl, rfl, pin, power⟩, ?_⟩⟩
    refine ⟨?_, ?_, ?_, ?_, ?_, ?_, ?_, ?_, ?_, fun r hr => ?_, ?_, ?_, ?_, ?_, ?_, ?_⟩
    · and_intros <;> rfl
    · and_intros <;> rfl
    · and_intros <;> rfl
    · and_intros <;> rfl
    · and_intros <;> rfl
    · and_intros <;> rfl
    · and_intros <;> rfl
    · and_intros <;> rfl
    · and_intros <;> rfl
    · have peer : (s.resetBy cause).entry r = (s.resetBy cause).roster[r] := if_neg hr
      rw [peer]
      exact Vector.getElem_replicate _
    · exact if_pos rfl
    · refine ⟨rfl, rfl, rfl, rfl, rfl, rfl, rfl, fun _ => rfl⟩
    · exact ⟨rfl, rfl, fun i => ⟨Vector.getElem_replicate _, Vector.getElem_replicate _⟩,
        fun k => ⟨Vector.getElem_replicate _, rfl⟩, rfl, rfl, rfl, rfl⟩
    · and_intros <;> rfl
    · exact ⟨rfl, rfl, fun i => Vector.getElem_replicate _⟩
    · and_intros <;> rfl
  · rw [if_neg h] at run
    refine ⟨_, run, by simp, fun _ => ⟨by simp [State.elapse], ?_⟩, fun reset => absurd reset h⟩
    simp [State.agreesOutside_iff, follows]

end

section
/-!
SUPPORT. The invariants of every step at the reset state, law by law as `Sys2Proof/Safety.lean` groups them.
-/

namespace Sys2Proof.Machine

/-- Counts are 0 and queues empty (R12, R30, R52, R75, R78, R110, R140). -/
theorem State.reset_counts :
    State.reset.CoinsWithin ∧ State.reset.AttemptsWithin ∧ State.reset.CountsWithin ∧ State.reset.HitsFollowPhase ∧
    State.reset.QueuesWithin := by
  unfold State.CoinsWithin CoinChannel.Within State.AttemptsWithin State.CountsWithin State.HitsFollowPhase State.QueuesWithin
    distinctWaiting
  decide

/-- In STARTUP, with the switch open, the menu CLOSED and no map table, nothing follows the role (R97, R138, R155, R167). -/
theorem State.reset_roleFollowed :
    State.reset.SwitchesFollowRole ∧ State.reset.MenuFollowsRole ∧ State.reset.EdgesFollow ∧ State.reset.DutyFollowsRole := by
  unfold State.SwitchesFollowRole State.MenuFollowsRole State.EdgesFollow State.DutyFollowsRole
  decide

/-- Fill is stopped behind the open switch, and the board is in RESETTING in its load period (R40, R56). -/
theorem State.reset_syncSource :
    State.reset.FillFollowsSource ∧ State.reset.BoardSourceIsReady ∧ State.reset.SupervisorConsistent := by
  unfold State.FillFollowsSource State.BoardSourceIsReady State.SupervisorConsistent
  decide

/-- The line is off and no timer runs (R70, R99, R104). -/
theorem State.reset_silent : State.reset.WithdrawnIsSilent ∧ State.reset.BidSetDistinct ∧ State.reset.RoleTimers := by
  unfold State.WithdrawnIsSilent State.BidSetDistinct State.RoleTimers
  decide

/-- No view, and CBLK asserted for the dormant coin unit (R96, R147). -/
theorem State.reset_view : State.reset.ViewFollowsRole ∧ State.reset.CblkFollows := by
  unfold State.ViewFollowsRole State.CblkFollows
  decide

/-- The lamps are dark (R182). -/
theorem State.reset_lampsShown : State.reset.LampsShown :=
  ⟨⟨⟨rfl, rfl⟩, ⟨rfl, rfl⟩, ⟨rfl, rfl⟩⟩, fun _ => ⟨rfl, rfl, rfl⟩, fun notHeld => absurd rfl notHeld⟩

/-- Every cell is blank (R163). -/
theorem State.reset_cell (row : Fin 10) (column : Fin 24) : State.reset.cell row column = Cell.reset :=
  Vector.getElem_replicate _

/-- That is the CLOSED menu without a notice (R172, R173). -/
theorem State.reset_cellsShown : State.reset.CellsShown := by
  have blank (row : Fin 10) : State.reset.RowHolds row [] ∧ ∀ c, (State.reset.cell row c).background = false :=
    ⟨fun c => by rw [State.reset_cell]; rfl, fun c => by rw [State.reset_cell]; rfl⟩
  have notice : State.reset.NoticeShown := ⟨nofun, nofun, fun _ _ => blank 9⟩
  have list : State.reset.ListShown := ⟨fun _ row _ => blank row, by rintro (h | h | h) <;> cases h⟩
  exact ⟨notice, list, nofun⟩

end Sys2Proof.Machine
end

section
open Sys2Proof.Machine

/-- Settles O53, from the groups of invariants. -/
theorem resetMeetsInvariants : Obligations.ResetMeetsInvariants := by
  obtain ⟨coins, attempts, counts, hits, queues⟩ := State.reset_counts
  obtain ⟨switches, menu, edges, duty⟩ := State.reset_roleFollowed
  obtain ⟨fill, source, supervisor⟩ := State.reset_syncSource
  obtain ⟨silent, bidSet, timers⟩ := State.reset_silent
  obtain ⟨view, cblk⟩ := State.reset_view
  exact ⟨coins, attempts, counts, hits, queues, switches, menu, edges, duty, fill, source, supervisor, silent, bidSet, timers, view, cblk,
    State.reset_lampsShown, State.reset_cellsShown⟩

end

section
/-!
SUPPORT. LOAD END with a valid block (R181), block by block in the order in which they take it.
-/

namespace Sys2Proof.Machine

/-! ## The loader and the slicer -/

/-- A valid block has its 128 bytes (R180). -/
theorem length_of_blockValid {bytes : List Byte} (h : blockValid bytes = true) : bytes.length = 128 := by
  simp only [blockValid, Bool.and_eq_true, decide_eq_true_eq] at h
  obtain ⟨⟨⟨⟨⟨⟨length, -⟩, -⟩, -⟩, -⟩, -⟩, -⟩ := h
  exact length

/-- A block read whole and valid ends the load (R180, R181). -/
theorem exec_blockRead_valid {s : State} {bytes : List Byte} (dt : Nat) (hload : s.cfl.load = .reading) (hvalid : blockValid bytes = true) :
    exec (.blockRead dt bytes) s = .next ((s.elapse dt).loadEnd (some bytes)).settled := by
  simp [exec, execBlockRead, done_eq, hload, hvalid, length_of_blockValid hvalid]

/-- An ADAPTIVE slicer opens its first window (R1, R4). -/
theorem State.slicerLoadEnd_of_adaptive (s : State) (h : s.quantities.mode = .adaptive) : s.slicerLoadEnd = s.enterAcquiring := by
  rw [State.slicerLoadEnd, h]

/-- A FIXED one is LOCKED as configured (R1). -/
theorem State.slicerLoadEnd_of_fixed (s : State) (h : s.quantities.mode = .fixed) : s.slicerLoadEnd = s.lockFixed := by
  rw [State.slicerLoadEnd, h]

/-! ## The end of the load period -/

section
variable {s : State}

/-- Before the line controller has left OFF, sending only records a request (R70, R98). -/
theorem State.send_of_off (r : PendingRequest) (h : s.lct.mode = .off) : s.send r = { s with spe := s.spe.recordRequest r } := by
  simp [State.send, State.answerTo, LineController.answerTo, h]

/-- Entering VACANT then leaves the line controller and the role (R43, R91). -/
theorem State.enterVacant_of_off (h : s.lct.mode = .off) :
    s.enterVacant.lct = s.lct ∧ s.enterVacant.spe.role = s.spe.role := by
  have announced (u : State) (hu : u.lct.mode = .off) :
      (u.speBoard .vacant).lct = u.lct ∧ (u.speBoard .vacant).spe.role = u.spe.role := by
    simp only [State.speBoard]
    split
    · rw [State.sendHello, State.send_of_off _ (by simpa using hu)]
      simp
    · exact ⟨rfl, rfl⟩
  simp [State.enterVacant, State.enterBoardCleared, State.enterBoard, State.handBoard, announced, h]

theorem State.enterVacant_roster (s : State) : s.enterVacant.roster = s.roster := by
  simp [State.enterVacant, State.enterBoardCleared]

/-- A present board stays in RESETTING, with its reset hold running (R42). -/
theorem State.endLoadPeriod_of_present (ended : s.loadIsOver = true) (period : s.bsv.loadPeriod = true) (decided : s.bsv.decided = true)
    (present : s.bsv.present = true) :
    s.endLoadPeriod = { s with bsv := { s.bsv with
      loadPeriod := false, resetHold := some (s.now + ms s.quantities.resetHoldMs) } } := by
  simp [State.endLoadPeriod, ended, period, decided, present, State.quantities]

/-- An absent one enters VACANT (R42, R43). -/
theorem State.endLoadPeriod_of_absent (ended : s.loadIsOver = true) (period : s.bsv.loadPeriod = true) (decided : s.bsv.decided = true)
    (absent : s.bsv.present = false) :
    s.endLoadPeriod = { s with bsv := { s.bsv with loadPeriod := false } }.enterVacant := by
  simp [State.endLoadPeriod, ended, period, decided, absent]

/-- Without a decision, or outside the load period, nothing happens (R42). -/
theorem State.endLoadPeriod_of_undecided (h : s.bsv.loadPeriod = false ∨ s.bsv.decided = false) : s.endLoadPeriod = s := by
  rcases h with h | h <;> simp [State.endLoadPeriod, h]

/-- The line controller, still OFF, and the role stay (R42, R70). -/
theorem State.endLoadPeriod_of_off (h : s.lct.mode = .off) :
    s.endLoadPeriod.lct = s.lct ∧ s.endLoadPeriod.spe.role = s.spe.role := by
  simp only [State.endLoadPeriod]
  split
  · split
    · exact ⟨rfl, rfl⟩
    · exact State.enterVacant_of_off h
  · exact ⟨rfl, rfl⟩

theorem State.endLoadPeriod_roster (s : State) : s.endLoadPeriod.roster = s.roster := by
  simp only [State.endLoadPeriod]
  split
  · split
    · rfl
    · exact State.enterVacant_roster _
  · rfl

end

/-! ## RUNNING -/

/-- On a working line with an empty queue the engine sends its first HELLO, and the join window runs (R91, R92, R99). -/
theorem State.speRunning_eq (s : State) (mode : s.lct.mode = .running) (stuck : s.lct.stuck = false) (phase : s.lct.phase ≠ .idle)
    (empty : s.lct.txq = []) :
    s.speRunning = { s with
      lct := { s.lct with
        txq := [{ s with spe := { s.spe with firstHello := true } }.buildFrame (helloRequest true)], attempts := 0 }
      spe := { s.spe with firstHello := true, joinWindow := some (s.now + joinTime) } } := by
  have sent := { s with spe := { s.spe with firstHello := true } }.send_joins (helloRequest true) mode stuck phase
    (by simp [empty, queueLimit]) (by simp [empty, waitingMatch])
  simp only [State.speRunning, State.sendHello, sent]
  simp [empty]

/-! ## Coin unit and mapper -/

@[simp] theorem State.idleCheck_dormant (s : State) (ch : Channel) : (s.idleCheck ch).cnu.dormant = s.cnu.dormant := by
  simp only [State.idleCheck]
  split <;> simp

@[simp] theorem State.decideCblk_dormant (s : State) : s.decideCblk.cnu.dormant = s.cnu.dormant := rfl

@[simp] theorem State.coinLoadEnd_dormant (s : State) : s.coinLoadEnd.cnu.dormant = false := by
  simp [State.coinLoadEnd]

@[simp] theorem State.mapperDecides_dormant (s : State) : s.mapperDecides.cmp.dormant = s.cmp.dormant := by
  simp only [State.mapperDecides, State.mirrorLamps, State.decideMapper]
  split <;> rfl

@[simp] theorem State.mapperLoadEnd_dormant (s : State) : s.mapperLoadEnd.cmp.dormant = false := by
  simp [State.mapperLoadEnd]

/-! ## LOAD END up to the line controller -/

@[simp] theorem State.loadTaken_frame (s : State) (copy : Option (List Byte)) :
    (s.loadTaken copy).now = s.now ∧ (s.loadTaken copy).rank = s.rank ∧ (s.loadTaken copy).ssl = s.ssl ∧
    (s.loadTaken copy).bsv = s.bsv ∧ (s.loadTaken copy).lct = s.lct ∧ (s.loadTaken copy).spe = s.spe ∧
    (s.loadTaken copy).roster = s.roster ∧ (s.loadTaken copy).pending = s.pending := by
  simp [State.loadTaken]

/-- What the first blocks leave (R181). -/
@[simp] theorem State.loadStarted_frame (s : State) (copy : Option (List Byte)) :
    (s.loadStarted copy).now = s.now ∧ (s.loadStarted copy).rank = s.rank ∧
    (s.loadStarted copy).cfg = (s.loadTaken copy).cfg ∧ (s.loadStarted copy).cfl = (s.loadTaken copy).cfl ∧
    (s.loadStarted copy).ssl = (s.loadTaken copy).slicerLoadEnd.ssl ∧
    (s.loadStarted copy).bsv = (s.loadTaken copy).slicerLoadEnd.endLoadPeriod.bsv ∧
    (s.loadStarted copy).roster = s.roster ∧ (s.loadStarted copy).pending = s.pending := by
  simp [State.loadStarted, State.endLoadPeriod_roster]

/-- The line controller leaves OFF with the queue it had, the role unchanged (R70). -/
theorem State.loadStarted_of_off (s : State) (copy : Option (List Byte)) (h : s.lct.mode = .off) :
    (s.loadStarted copy).lct = s.lct.loadEnd s.now copy.isSome ∧ (s.loadStarted copy).spe.role = s.spe.role := by
  obtain ⟨line, role⟩ := (s.loadTaken copy).slicerLoadEnd.endLoadPeriod_of_off (by simpa using h)
  simp [State.loadStarted, line, role]

/-- With a valid block and an empty queue on a line that is not stuck, the engine is RUNNING (R91, R99, R181). -/
theorem State.loadEnd_running (s : State) (bytes : List Byte) (off : s.lct.mode = .off) (stuck : s.lct.stuck = false)
    (empty : s.lct.txq = []) (startup : s.spe.role = .startup) :
    let t := s.loadEnd (some bytes)
    t.lct.mode = .running ∧ t.spe.role = .startup ∧ t.lct.attempts = 0 ∧ t.spe.joinWindow = some (s.now + joinTime) ∧
    t.cfg = some (blockQuantities bytes) ∧ t.roster = s.roster ∧ t.cfl = (s.loadTaken (some bytes)).cfl ∧
    t.ssl = (s.loadTaken (some bytes)).slicerLoadEnd.ssl ∧ t.bsv = (s.loadTaken (some bytes)).slicerLoadEnd.endLoadPeriod.bsv ∧
    t.lct.txq = [Frame.mk .all (.hello false true t.bsv.board ((t.tmu.current.map (·.sig.l16)).getD 0)
      ((t.tmu.current.map (·.sig.hl)).getD 0) (blockQuantities bytes).title)] := by
  intro t
  obtain ⟨line, role⟩ := s.loadStarted_of_off (some bytes) off
  have started := (s.loadStarted (some bytes)).speRunning_eq (by simp [line, LineController.loadEnd])
    (by simp [line, LineController.loadEnd, stuck]) (by simp [line, LineController.loadEnd])
    (by simp [line, LineController.loadEnd, empty])
  have ht : t = (s.loadStarted (some bytes)).speRunning.coinLoadEnd.mapperLoadEnd := s.loadEnd_eq (some bytes)
  have cfg : (s.loadTaken (some bytes)).cfg = some (blockQuantities bytes) := rfl
  rw [ht, started]
  refine ⟨?_, ?_, ?_, ?_, ?_, ?_, ?_, ?_, ?_, ?_⟩
  · simp [line, LineController.loadEnd]
  · simp [role, startup]
  · simp
  · simp
  · simp [cfg]
  · simp
  · simp
  · simp
  · simp
  · simp [State.buildFrame, State.buildBody, helloRequest, role, startup, holdsScreen, State.quantities, cfg]

end Sys2Proof.Machine
end

section
open Sys2Proof.Machine

/-- Settles O6: LOAD END block by block, the board by presence and the first decision. -/
theorem validBlockStartsNode : Obligations.ValidBlockStartsNode := by
  intro s dt bytes hload hvalid off stuck empty startup
  obtain ⟨mode, role, attempts, window, cfg, roster, cfl, ssl, bsv, queue⟩ := (s.elapse dt).loadEnd_running bytes (by simpa using off)
    (by simpa using stuck) (by simpa using empty) (by simpa using startup)
  generalize hv : ((s.elapse dt).loadTaken (some bytes)).slicerLoadEnd = v at ssl bsv
  have now : v.now = s.now + dt := by simp [← hv]
  have board : v.bsv = s.bsv := by simp [← hv]
  have ended : v.loadIsOver = true := by simp [← hv, State.loadIsOver, State.loadTaken]
  have quantities : v.quantities = blockQuantities bytes := by simp [← hv, State.quantities, State.loadTaken]
  rw [← board]
  refine ⟨_, exec_blockRead_valid dt hload hvalid, ?_, by simpa using cfg, by simpa using mode, by simpa using role, by simpa using queue,
    by simpa using attempts, ?_, ?_, ?_, fun adaptive => ?_, fun fixed => ?_, fun period decided => ⟨fun present => ?_, fun absent => ?_⟩,
    fun undecided => ?_, ?_, ?_⟩
  · simp [cfl, State.loadTaken]
  · simp [window, joinTime, ms, ticksPerMs]
  · simp [State.loadEnd]
  · simp [State.loadEnd]
  · rw [← hv, State.slicerLoadEnd_of_adaptive ((s.elapse dt).loadTaken (some bytes)) adaptive] at ssl
    simp [ssl, State.enterAcquiring, acquisitionWindow]
  · rw [← hv, State.slicerLoadEnd_of_fixed ((s.elapse dt).loadTaken (some bytes)) fixed] at ssl
    simp only [State.settled_frame, ssl]
    exact ⟨rfl, rfl, rfl⟩
  · rw [State.endLoadPeriod_of_present ended period decided present] at bsv
    simp [bsv, now, quantities, ms, ticksPerMs]
  · rw [State.endLoadPeriod_of_absent ended period decided absent] at bsv
    simp [bsv, State.enterVacant, State.enterBoardCleared_bsv, Supervisor.enter]
  · rw [State.endLoadPeriod_of_undecided undecided] at bsv
    simp [bsv]
  · simp
  · simp [State.agreesOutside_iff, follows, reached, roster]

end

section
/-!
SUPPORT. Timing signatures: the record a cycle closes with (R25 to R28), the ring it joins (R30), its judgement and what the counts make
of it (R31, R32), and the signature it gives (R33 to R36).
-/

namespace Sys2Proof.Machine

/-! ## Closing a cycle -/

section
variable (t : Tmu) {odd age : Nat} (polarity : Polarity)

/-- A FULL cycle without mark or odd pulse, its age below saturation, closes with all it has measured (R25 to R28). -/
theorem Tmu.closeRecord_complete {first last : Stamp} {w : Nat} (hfirst : t.hits.head? = some first) (hlast : t.hits.getLast? = some last)
    (hwidth : t.width = some w) (hphase : t.phase = .full) (hmark : t.mark = false) (hodd : odd = 0) (hage : age < ageLimit) :
    t.closeRecord odd age polarity = .complete
      { l16 := stampDiff last first, hl := halfLines age (stampDiff last first), w := w, polarity := polarity } age := by
  simp [Tmu.closeRecord, hfirst, hlast, hwidth, hphase, hmark, hodd, hage]

/-- Any other cycle closes with an incomplete record (R20, R25). -/
theorem Tmu.closeRecord_incomplete (h : t.phase ≠ .full ∨ t.mark = true ∨ ageLimit ≤ age ∨ odd ≠ 0) :
    t.closeRecord odd age polarity = .incomplete := by
  unfold Tmu.closeRecord
  split
  · next full _ _ _ =>
    have spoilt : (t.mark || decide (ageLimit ≤ age) || odd != 0) = true := by
      rcases h with notFull | mark | old | counted
      · exact absurd full notFull
      · simp [mark]
      · simp [old]
      · simp [counted]
    rw [if_pos spoilt]
  · rfl

end

/-! ## The ring -/

section
variable {ring : List FieldRecord} (r : FieldRecord)

theorem pushRecord_of_room (h : ring.length < 4) : pushRecord ring r = ring ++ [r] :=
  if_neg (Nat.not_le.mpr h)

theorem pushRecord_of_full (h : ring.length = 4) : pushRecord ring r = ring.tail ++ [r] := by
  have nonempty : ring ≠ [] := List.ne_nil_of_length_pos (by omega)
  rw [pushRecord, if_pos h.ge, h, List.drop_one, List.tail_append_of_ne_nil nonempty]

theorem pushRecord_getLast? (h : ring.length ≤ 4) : (pushRecord ring r).getLast? = some r := by
  rcases Nat.lt_or_eq_of_le h with room | full
  · rw [pushRecord_of_room r room, List.getLast?_concat]
  · rw [pushRecord_of_full r full, List.getLast?_concat]

end

/-! ## The judgement of a record -/

theorem absDiff_le_iff (a b n : Nat) : absDiff a b ≤ n ↔ a ≤ b + n ∧ b ≤ a + n := by
  unfold absDiff
  split <;> omega

/-- A complete record behind a complete one is stable by their figures (R31). -/
theorem recordStable_complete_iff (q : Quantities) (a b : Signature) (fa fb : Nat) :
    recordStable q (some (.complete a fa)) (.complete b fb) = true ↔
      a.l16 ≤ b.l16 + q.l16Tolerance ∧ b.l16 ≤ a.l16 + q.l16Tolerance ∧ a.hl = b.hl ∧ a.w ≤ b.w + 12 ∧ b.w ≤ a.w + 12 := by
  simp only [recordStable, Bool.and_eq_true, decide_eq_true_eq, absDiff_le_iff, and_assoc]

/-- Without two complete records there is none stable (R31). -/
theorem recordStable_of_incomplete (q : Quantities) (predecessor : Option FieldRecord) (r : FieldRecord)
    (h : r = .incomplete ∨ predecessor = some .incomplete ∨ predecessor = none) : recordStable q predecessor r = false := by
  rcases h with rfl | rfl | rfl
  · cases predecessor with
    | none => rfl
    | some p => cases p <;> rfl
  · rfl
  · rfl

/-! ## Joining -/

section
variable {t : Tmu} {q : Quantities} {r : FieldRecord}

@[simp] theorem Tmu.join_ring : (t.join q r).ring = pushRecord t.ring r := by
  unfold Tmu.join
  split <;> rfl

/-- A joined record leaves the signatures (R33, R36). -/
@[simp] theorem Tmu.join_signatures : (t.join q r).current = t.current ∧ (t.join q r).reference = t.reference := by
  unfold Tmu.join
  split <;> exact ⟨rfl, rfl⟩

theorem Tmu.join_stable : (t.join q r).stable = if recordStable q t.ring.getLast? r = true then min 15 (t.stable + 1) else 0 := by
  unfold Tmu.join
  split
  · exact satInc_eq_min 15 t.stable
  · rfl

theorem Tmu.join_drift : (t.join q r).drift = if recordStable q t.ring.getLast? r = true then 0 else min 3 (t.drift + 1) := by
  unfold Tmu.join
  split
  · rfl
  · exact satInc_eq_min 3 t.drift

theorem Tmu.driftRaised_of_stable (h : recordStable q t.ring.getLast? r = true) : t.driftRaised q r = false := by
  simp [Tmu.driftRaised, h]

theorem Tmu.driftRaised_of_unstable (h : recordStable q t.ring.getLast? r = false) : t.driftRaised q r = true ↔ t.drift = 2 := by
  simp [Tmu.driftRaised, h]

/-- A record gives its signature where it is complete and stable and leaves the stable count at settle fields or more (R33). -/
theorem Tmu.newSignature_eq_some_iff {sig : Signature} :
    t.newSignature q r = some sig ↔
      (∃ f, r = .complete sig f) ∧ recordStable q t.ring.getLast? r = true ∧ q.settleFields ≤ min 15 (t.stable + 1) := by
  cases r with
  | incomplete => simp [Tmu.newSignature]
  | complete own f => simp [Tmu.newSignature, satInc_eq_min, and_comm]

theorem Tmu.newSignature_of_unstable (h : recordStable q t.ring.getLast? r = false) : t.newSignature q r = none := by
  refine Option.eq_none_iff_forall_ne_some.mpr fun sig given => ?_
  obtain ⟨-, stable, -⟩ := Tmu.newSignature_eq_some_iff.mp given
  exact absurd stable (by simp [h])

theorem Tmu.newSignature_of_unsettled (h : min 15 (t.stable + 1) < q.settleFields) : t.newSignature q r = none := by
  refine Option.eq_none_iff_forall_ne_some.mpr fun sig given => ?_
  obtain ⟨-, -, settled⟩ := Tmu.newSignature_eq_some_iff.mp given
  omega

end

/-! ## The window verdict -/

theorem Signature.interlaced_eq_false_iff (sig : Signature) : sig.interlaced = false ↔ sig.hl % 2 = 0 := by
  simp [Signature.interlaced]

theorem windowVerdict_in_iff (q : Quantities) (sig : Signature) :
    windowVerdict q sig = .inWindow ↔
      q.l16Min ≤ sig.l16 ∧ sig.l16 ≤ q.l16Max ∧ q.hlMin ≤ sig.hl ∧ sig.hl ≤ q.hlMax ∧
        (sig.hl % 2 = 0 ∨ q.interlaceAllowed = true) ∧ sig.w ≤ q.wMax := by
  simp [windowVerdict, Signature.interlaced_eq_false_iff]

theorem copiesReference_iff (v : Verdict) (board : BoardState) :
    copiesReference v board = true ↔ v = .inWindow ∧ (board = .settling ∨ board = .ready ∨ board = .offWindow) := by
  cases v <;> cases board <;> decide

/-! ## What a FIELD START makes of the record -/

section
variable (t : Tmu) (q : Quantities) (board : BoardState) (stamp : Stamp) (odd age : Nat) (polarity : Polarity)

/-- Ring and counts are those of the joined record, whether or not it gives a signature (R30, R32). -/
theorem Tmu.fieldStartTaken_joined :
    (t.fieldStartTaken q board stamp odd age polarity).ring = (t.join q (t.closeRecord odd age polarity)).ring ∧
    (t.fieldStartTaken q board stamp odd age polarity).stable = (t.join q (t.closeRecord odd age polarity)).stable ∧
    (t.fieldStartTaken q board stamp odd age polarity).drift = (t.join q (t.closeRecord odd age polarity)).drift := by
  simp only [Tmu.fieldStartTaken]
  split <;> exact ⟨rfl, rfl, rfl⟩

/-- A signature given is raised with its verdict, becomes the current one, and the reference where R36 requires it (R33, R35, R36). -/
theorem Tmu.fieldStart_of_signature {sig : Signature} (h : t.newSignature q (t.closeRecord odd age polarity) = some sig) :
    t.fieldStartRaises q odd age polarity = some (.newSignature (windowVerdict q sig)) ∧
    (t.fieldStartTaken q board stamp odd age polarity).current = some { sig := sig, verdict := windowVerdict q sig } ∧
    (t.fieldStartTaken q board stamp odd age polarity).reference =
      if copiesReference (windowVerdict q sig) board = true then some sig else t.reference := by
  simp [Tmu.fieldStartRaises, Tmu.fieldStartTaken, Tmu.takeSignature, Tmu.arm, h]

/-- Without one DRIFT at most is raised, and the signatures stay (R32, R33, R36). -/
theorem Tmu.fieldStart_of_no_signature (h : t.newSignature q (t.closeRecord odd age polarity) = none) :
    t.fieldStartRaises q odd age polarity =
      (if t.driftRaised q (t.closeRecord odd age polarity) = true then some .drift else none) ∧
    (t.fieldStartTaken q board stamp odd age polarity).current = t.current ∧
    (t.fieldStartTaken q board stamp odd age polarity).reference = t.reference := by
  simp [Tmu.fieldStartRaises, Tmu.fieldStartTaken, Tmu.arm, h]

end

end Sys2Proof.Machine
end

section
open Sys2Proof.Machine

/-- Settles O17: the record by the equations of `Tmu.closeRecord`, the ring by its room, the counts by the record's judgement. -/
theorem recordsCloseAndJoin : Obligations.RecordsCloseAndJoin := by
  refine ⟨fun t odd age pol => ⟨?_, t.closeRecord_incomplete pol⟩,
    fun t q r ring => ⟨?_, ?_, fun room => ?_, fun full => ?_, ?_, ?_, fun stable => ?_, fun unstable => ?_⟩⟩
  · exact fun _ hfirst _ hlast _ hwidth => t.closeRecord_complete pol hfirst hlast hwidth
  · exact Tmu.join_ring ▸ pushRecord_length t.ring r ring
  · exact Tmu.join_ring ▸ pushRecord_getLast? r ring
  · exact Tmu.join_ring ▸ pushRecord_of_room r room
  · exact Tmu.join_ring ▸ pushRecord_of_full r full
  · rintro a b fa fb predecessor rfl
    rw [predecessor]
    exact recordStable_complete_iff q a b fa fb
  · intro incomplete
    exact recordStable_of_incomplete q _ r (by rwa [List.getLast?_eq_none_iff])
  · refine ⟨?_, ?_, Tmu.driftRaised_of_stable stable⟩
    · rw [Tmu.join_stable, if_pos stable]
    · rw [Tmu.join_drift, if_pos stable]
  · have notStable := ne_true_of_eq_false unstable
    refine ⟨?_, ?_, Tmu.driftRaised_of_unstable unstable⟩
    · rw [Tmu.join_stable, if_neg notStable]
    · rw [Tmu.join_drift, if_neg notStable]

/-- Settles O18: a FIELD START by whether the record it closes gives a signature. -/
theorem windowVerdictOfSignature : Obligations.WindowVerdictOfSignature := by
  refine ⟨fun q sig t r board => ⟨windowVerdict_in_iff q sig, ?_, rfl, ?_⟩, ?_⟩
  · cases windowVerdict q sig <;> simp
  · rintro (rfl | unstable)
    · rfl
    · exact Tmu.newSignature_of_unstable unstable
  · rintro q t board stamp odd age pol r rfl u raised stable
    obtain ⟨ring, count, drift⟩ := t.fieldStartTaken_joined q board stamp odd age pol
    have silent := t.fieldStart_of_no_signature q board stamp odd age pol
    refine ⟨ring.trans Tmu.join_ring, count.trans Tmu.join_stable, drift.trans Tmu.join_drift, fun sig f complete hstable settled => ?_,
      fun hstable unsettled => ?_, fun hunstable => ?_⟩
    · have given := t.fieldStart_of_signature q board stamp odd age pol
        (Tmu.newSignature_eq_some_iff.mpr ⟨⟨f, complete⟩, hstable, settled⟩)
      simpa only [copiesReference_iff] using given
    · simpa [Tmu.driftRaised_of_stable hstable] using silent (Tmu.newSignature_of_unsettled unsettled)
    · simpa only [Tmu.driftRaised_of_unstable hunstable] using silent (Tmu.newSignature_of_unstable hunstable)

end

section
/-!
SUPPORT. The board supervisor at presence (R41 to R44) and at its timers (R45, R47, R52): each command as the operation it runs, and what
that operation leaves of the supervisor, the measurement unit and the rest.
-/

namespace Sys2Proof.Machine

/-! ## The commands -/

section
variable {s : State} {held : Nat} {r : Moment} (dt : Nat) (hr : s.cfl.resetEnded = some r)
include hr

/-- The presence filter, at work since `r`, has seen a level that has held for 20 ms (R41). -/
theorem State.presenceSeen_iff : (s.elapse dt).presenceSeen held = true ↔ 960000 ≤ held ∧ 960000 ≤ s.now + dt - r := by
  simp [State.presenceSeen, State.steadyFor, presenceFilter, ms, ticksPerMs, hr]

section
variable (hheld : 960000 ≤ held) (hsince : 960000 ≤ s.now + dt - r)
include hheld hsince

theorem exec_present (habsent : s.bsv.present = false) :
    exec (.present dt held) s = .next (s.elapse dt).boardPresent.settled := by
  simp [exec, execPresent, done_eq, (State.presenceSeen_iff dt hr).mpr ⟨hheld, hsince⟩, habsent]

theorem exec_absent (hpresent : s.bsv.present = true) :
    exec (.absent dt held) s = .next (s.elapse dt).boardAbsent.settled := by
  simp [exec, execAbsent, done_eq, (State.presenceSeen_iff dt hr).mpr ⟨hheld, hsince⟩, hpresent]

theorem exec_presenceFirstDecision (hdecided : s.bsv.decided = false) :
    exec (.presenceFirstDecision dt held) s = .next (s.elapse dt).firstDecision.settled := by
  simp [exec, execPresenceFirstDecision, done_eq, (State.presenceSeen_iff dt hr).mpr ⟨hheld, hsince⟩, hdecided]

end

/-- A level held for less is not seen, and only time passes (R41). -/
theorem exec_present_early (hheld : held < 960000) : exec (.present dt held) s = .next (s.elapse dt).settled := by
  have unseen : (s.elapse dt).presenceSeen held = false := by
    rw [Bool.eq_false_iff, Ne, State.presenceSeen_iff dt hr]
    omega
  simp [exec, execPresent, done_eq, unseen]

end

section
variable {s : State} {due : Moment}

theorem exec_resetHoldExpiry (hdue : s.bsv.resetHold = some due) :
    exec .resetHoldExpiry s = .next ((s.advanceTo due).enterBoardCleared .settling).settled := by
  simp [exec, execResetHoldExpiry, done_eq, hdue]

theorem exec_bootLimitExpiry (hdue : s.bsv.bootLimit = some due) :
    exec .bootLimitExpiry s = .next ((s.advanceTo due).enterBoard .stalled none).settled := by
  simp [exec, execBootLimitExpiry, done_eq, hdue]

theorem exec_stallGraceExpiry (hdue : s.bsv.stallGrace = some due) :
    exec .stallGraceExpiry s = .next (s.advanceTo due).graceExpires.settled := by
  simp [exec, execStallGraceExpiry, done_eq, hdue]

end

/-! ## Entries with CLEAR -/

@[simp] theorem State.enterBoardCleared_roster (s : State) (board : BoardState) : (s.enterBoardCleared board).roster = s.roster := by
  simp [State.enterBoardCleared]

theorem State.enterVacant_tmu (s : State) : s.enterVacant.tmu = s.tmu.clear := by
  simp [State.enterVacant, State.enterBoardCleared_tmu]

/-- VACANT: BRST released, no timer, the attempts forgotten (R40, R43). -/
theorem State.enterVacant_bsv (s : State) :
    s.enterVacant.bsv = { s.bsv with
      board := .vacant, brst := false, resetHold := none, bootLimit := none, stallGrace := none, attempts := 0 } := by
  rw [State.enterVacant, State.enterBoardCleared_bsv]
  rfl

/-- RESETTING: BRST asserted, the reset hold running (R40, R44). -/
theorem State.enterResetting_bsv (s : State) :
    (s.enterBoardCleared .resetting).bsv = { s.bsv with
      board := .resetting, brst := true, bootLimit := none, stallGrace := none
      resetHold := some (s.now + ms s.quantities.resetHoldMs) } := by
  rw [State.enterBoardCleared_bsv]
  rfl

/-- FAILED, its fault latched (R40, R52). -/
theorem State.enterFailed_bsv (s : State) :
    ({ s with bsv := { s.bsv with boardFailed := true } }.enterBoard .failed none).bsv = { s.bsv with
      board := .failed, brst := false, resetHold := none, bootLimit := none, stallGrace := none, boardFailed := true } := by
  rw [State.enterBoard_bsv]
  rfl

/-! ## Presence and the load period -/

section
variable {s : State}

theorem State.loadIsOver_iff : s.loadIsOver = true ↔ s.cfl.load = .endedValid ∨ s.cfl.load = .endedInvalid := by
  unfold State.loadIsOver
  split <;> simp_all

/-- While the load goes on the load period does (R42). -/
theorem State.endLoadPeriod_of_loading (h : s.loadIsOver = false) : s.endLoadPeriod = s := by
  simp [State.endLoadPeriod, h]

/-- A board that appears while VACANT is reset (R44). -/
theorem State.boardPresent_of_vacant (period : s.bsv.loadPeriod = false) (vacant : s.bsv.board = .vacant) :
    s.boardPresent = { s with bsv := { s.bsv with present := true, decided := true } }.enterBoardCleared .resetting := by
  simp [State.boardPresent, period, vacant]

/-- In the load period presence is noted, and is the decision (R42). -/
theorem State.boardPresent_of_loadPeriod (period : s.bsv.loadPeriod = true) :
    s.boardPresent = { s with bsv := { s.bsv with present := true } }.firstDecision := by
  simp [State.boardPresent, State.firstDecision, period]

/-- Decided with the load ended and the board present, the reset hold starts in RESETTING (R42). -/
theorem State.firstDecision_of_present (ended : s.loadIsOver = true) (period : s.bsv.loadPeriod = true) (present : s.bsv.present = true) :
    s.firstDecision = { s with bsv := { s.bsv with
      decided := true, loadPeriod := false, resetHold := some (s.now + ms s.quantities.resetHoldMs) } } :=
  State.endLoadPeriod_of_present (s := { s with bsv := { s.bsv with decided := true } }) ended period rfl present

/-- With the board absent, VACANT is entered (R42, R43). -/
theorem State.firstDecision_of_absent (ended : s.loadIsOver = true) (period : s.bsv.loadPeriod = true) (absent : s.bsv.present = false) :
    s.firstDecision = { s with bsv := { s.bsv with decided := true, loadPeriod := false } }.enterVacant :=
  State.endLoadPeriod_of_absent (s := { s with bsv := { s.bsv with decided := true } }) ended period rfl absent

/-- With the load going on, the decision is kept alone (R42). -/
theorem State.firstDecision_of_loading (loading : s.loadIsOver = false) :
    s.firstDecision = { s with bsv := { s.bsv with decided := true } } :=
  State.endLoadPeriod_of_loading loading

/-- A board that goes takes the supervisor to VACANT (R43). -/
theorem State.boardAbsent_of_occupied (period : s.bsv.loadPeriod = false) (occupied : s.bsv.board ≠ .vacant) :
    s.boardAbsent = { s with bsv := { s.bsv with present := false } }.enterVacant := by
  dsimp only [State.boardAbsent]
  rw [if_neg (by simp [period])]
  split
  · next vacant => exact absurd vacant occupied
  · rfl

/-- In the load period absence is noted alone (R42). -/
theorem State.boardAbsent_of_loadPeriod (period : s.bsv.loadPeriod = true) :
    s.boardAbsent = { s with bsv := { s.bsv with present := false } } := by
  simp [State.boardAbsent, period]

end

/-! ## The stall grace -/

section
variable {s : State}

/-- Fewer than three attempts, with automatic recovery: one more reset (R52). -/
theorem State.graceExpires_resets (recovery : s.quantities.autoRecovery = true) (few : s.bsv.attempts < 3) :
    s.graceExpires = (s.setAttempts (s.bsv.attempts + 1)).enterBoardCleared .resetting :=
  if_pos ⟨recovery, few⟩

/-- Otherwise the board has failed (R52). -/
theorem State.graceExpires_fails (h : s.quantities.autoRecovery = false ∨ 3 ≤ s.bsv.attempts) :
    s.graceExpires = { s with bsv := { s.bsv with boardFailed := true } }.enterBoard .failed none := by
  refine if_neg ?_
  rintro ⟨recovery, few⟩
  rcases h with none | spent
  · simp [none] at recovery
  · omega

end

end Sys2Proof.Machine
end

section
open Sys2Proof.Machine

/-- Settles O22: presence outside the load period by the entry it causes, in it by whether the load has ended. -/
theorem presenceMovesBoard : Obligations.PresenceMovesBoard := by
  intro s dt held r hr hheld hsince cleared hold loaded
  have ended : loaded → s.loadIsOver = true := State.loadIsOver_iff.mpr
  have loading (h : ¬loaded) : s.loadIsOver = false := Bool.eq_false_iff.mpr (mt State.loadIsOver_iff.mp h)
  refine ⟨fun habsent period vacant => ?_, fun hpresent period occupied => ?_, fun habsent period => ?_, fun hpresent period => ?_,
    fun undecided period => ?_, fun early hearly => ?_⟩
  · refine ⟨_, exec_present dt hr hheld hsince habsent, ?_⟩
    rw [State.boardPresent_of_vacant (s := s.elapse dt) period vacant]
    refine ⟨?_, ?_, by simp, ?_⟩
    · simp only [State.settled_frame, State.enterBoardCleared_tmu]
      rfl
    · simp only [State.settled_frame, State.enterResetting_bsv]
      rfl
    · simp [State.agreesOutside_iff, follows, reached]
  · refine ⟨_, exec_absent dt hr hheld hsince hpresent, ?_⟩
    rw [State.boardAbsent_of_occupied (s := s.elapse dt) period occupied]
    refine ⟨?_, ?_, by simp, ?_⟩
    · simp only [State.settled_frame, State.enterVacant_tmu]
      rfl
    · simp only [State.settled_frame, State.enterVacant_bsv]
      rfl
    · simp [State.agreesOutside_iff, follows, reached, State.enterVacant_roster]
  · refine ⟨_, exec_present dt hr hheld hsince habsent, ?_⟩
    rw [State.boardPresent_of_loadPeriod (s := s.elapse dt) period]
    by_cases h : loaded
    · rw [State.firstDecision_of_present (by exact ended h) (by exact period) rfl]
      refine ⟨?_, by simp, ?_⟩
      · simp only [State.settled_frame, h, not_true_eq_false, decide_false, if_true]
        rfl
      · simp [State.agreesOutside_iff, follows]
    · rw [State.firstDecision_of_loading (by exact loading h)]
      refine ⟨?_, by simp, ?_⟩
      · simp [h, period]
      · simp [State.agreesOutside_iff, follows]
  · refine ⟨_, exec_absent dt hr hheld hsince hpresent, ?_⟩
    rw [State.boardAbsent_of_loadPeriod (s := s.elapse dt) period]
    refine ⟨by simp, by simp, ?_⟩
    simp [State.agreesOutside_iff, follows]
  · refine ⟨_, exec_presenceFirstDecision dt hr hheld hsince undecided, by simp, fun h habsent => ?_, fun h hpresent => ?_,
      fun h => ?_, ?_⟩
    · rw [State.firstDecision_of_absent (s := s.elapse dt) (ended h) period habsent]
      simp only [State.settled_frame, State.enterVacant_tmu, State.enterVacant_bsv]
      exact ⟨rfl, rfl⟩
    · rw [State.firstDecision_of_present (s := s.elapse dt) (ended h) period hpresent]
      refine ⟨?_, ?_⟩
      · simp only [State.settled_frame]
        rfl
      · simp [State.agreesOutside_iff, follows]
    · rw [State.firstDecision_of_loading (s := s.elapse dt) (loading h)]
      refine ⟨by simp, ?_⟩
      simp [State.agreesOutside_iff, follows]
    · simp [State.agreesOutside_iff, follows, reached, State.firstDecision, State.endLoadPeriod_roster]
  · refine ⟨_, exec_present_early dt hr hearly, by simp, ?_⟩
    simp [State.agreesOutside_iff, follows]

/-- Settles O23: each timer by the entry it causes. -/
theorem boardTimersMoveBoard : Obligations.BoardTimersMoveBoard := by
  intro s due now cleared
  refine ⟨fun hdue => ?_, fun hdue => ?_, fun hdue recovery few => ?_, fun hdue spent => ?_⟩
  · refine ⟨_, exec_resetHoldExpiry hdue, ?_, ?_, by simp [now], ?_⟩
    · simp only [State.settled_frame, State.enterBoardCleared_tmu]
      rfl
    · simp only [State.settled_frame, State.enterBoardCleared_bsv]
      rfl
    · simp [State.agreesOutside_iff, follows, reached]
  · refine ⟨_, exec_bootLimitExpiry hdue, ?_, by simp [now], ?_⟩
    · simp only [State.settled_frame, State.enterBoard_bsv]
      rfl
    · simp [State.agreesOutside_iff, follows, reached]
  · refine ⟨_, exec_stallGraceExpiry hdue, ?_⟩
    rw [State.graceExpires_resets (by simpa using recovery) (by simpa using few)]
    refine ⟨?_, ?_, by simp [now], ?_⟩
    · simp only [State.settled_frame, State.enterBoardCleared_tmu]
      rfl
    · simp only [State.settled_frame, State.enterResetting_bsv]
      rfl
    · simp [State.agreesOutside_iff, follows, reached]
  · refine ⟨_, exec_stallGraceExpiry hdue, ?_⟩
    rw [State.graceExpires_fails (by simpa using spent)]
    refine ⟨?_, by simp [now], ?_⟩
    · simp only [State.settled_frame, State.enterFailed_bsv]
      rfl
    · simp [State.agreesOutside_iff, follows, reached]

end

section
/-!
SUPPORT. The sync source (O57), first half: what the engine, the line and the bus can do to the output switch. All they do to it is hand it
a role, so that the source stays as it is or is chosen afresh from the board state (R56). `OutputKept r s` says so of `s`, reached from `r`;
its lemmas compose like those of `CountsKept`.
-/

namespace Sys2Proof.Machine

/-! ## The relation -/

/-- What of the output switch and the fill generator the sync source turns on. -/
def State.syncOutput (s : State) : SwitchState × SyncSource × Bool × Option Stamp × Bool :=
  (s.osw.video, s.osw.source, s.osw.fillBlack, s.osw.armed, s.fsg.active)

theorem State.syncOutput_eq_iff {s t : State} :
    t.syncOutput = s.syncOutput ↔ t.osw.video = s.osw.video ∧ t.osw.source = s.osw.source ∧ t.osw.fillBlack = s.osw.fillBlack ∧
      t.osw.armed = s.osw.armed ∧ t.fsg.active = s.fsg.active := by
  simp [State.syncOutput]

theorem State.FillFollowsSource.congr {s t : State} (hs : s.FillFollowsSource) (h : t.syncOutput = s.syncOutput) :
    t.FillFollowsSource := by
  obtain ⟨video, source, black, -, active⟩ := State.syncOutput_eq_iff.mp h
  simpa only [State.FillFollowsSource, video, source, black, active] using hs

theorem State.BoardSourceIsReady.congr {s t : State} (hs : s.BoardSourceIsReady) (h : t.syncOutput = s.syncOutput)
    (hb : t.bsv = s.bsv) : t.BoardSourceIsReady := by
  obtain ⟨video, source, -, armed, -⟩ := State.syncOutput_eq_iff.mp h
  simpa only [State.BoardSourceIsReady, video, source, armed, hb] using hs

/-- The source is chosen as board and switch require it (R56, R58). -/
def State.SourceSound (s : State) : Prop :=
  s.FillFollowsSource ∧ s.BoardSourceIsReady

/-- From `r` to `s` the supervisor stays, and the source stays or is chosen afresh. -/
def State.OutputKept (r s : State) : Prop :=
  s.bsv = r.bsv ∧ (s.syncOutput = r.syncOutput ∨ s.SourceSound)

/-! ## Closing and opening (R56, R97) -/

@[simp] theorem State.beginFillField_active (s : State) (start : Moment) (longer : Bool) :
    (s.beginFillField start longer).fsg.active = s.fsg.active := by
  unfold State.beginFillField
  split <;> simp

@[simp] theorem State.startFill_osw (s : State) (start : Moment) :
    (s.startFill start).osw = { s.osw with source := .fill, fillBlack := true, armed := none } := by
  simp [State.startFill]

@[simp] theorem State.startFill_active (s : State) (start : Moment) : (s.startFill start).fsg.active = true := by
  simp [State.startFill]

/-- A closed switch that turns to FILL forces black, and arms nothing (R56, R57). -/
theorem State.startFill_sound (s : State) (start : Moment) (closed : s.osw.video = .isClosed) : (s.startFill start).SourceSound := by
  simp [State.SourceSound, State.FillFollowsSource, State.BoardSourceIsReady, closed]

theorem State.closeVideo_sound (s : State) : s.closeVideo.SourceSound := by
  simp only [State.closeVideo]
  split
  · next ready =>
    have board : s.bsv.board = .ready := by simpa using ready
    simp [State.SourceSound, State.FillFollowsSource, State.BoardSourceIsReady, FillGenerator.stopped, board]
  · exact State.startFill_sound _ _ (by simp)

theorem State.openVideo_sound (s : State) : s.openVideo.SourceSound := by
  simp [State.openVideo, State.SourceSound, State.FillFollowsSource, State.BoardSourceIsReady, FillGenerator.stopped]

namespace State.OutputKept

variable {r s t : State}

theorem refl (s : State) : s.OutputKept s := ⟨rfl, .inl rfl⟩

theorem trans (h : r.OutputKept s) (h' : s.OutputKept t) : r.OutputKept t := by
  obtain ⟨bsv, same | sound⟩ := h <;> obtain ⟨bsv', same' | sound'⟩ := h'
  · exact ⟨bsv'.trans bsv, .inl (same'.trans same)⟩
  · exact ⟨bsv'.trans bsv, .inr sound'⟩
  · obtain ⟨fill, source⟩ := sound
    exact ⟨bsv'.trans bsv, .inr ⟨fill.congr same', source.congr same' bsv'⟩⟩
  · exact ⟨bsv'.trans bsv, .inr sound'⟩

/-- What leaves the supervisor and the source as they are. -/
theorem of_same (hb : t.bsv = s.bsv) (h : t.syncOutput = s.syncOutput) : s.OutputKept t := ⟨hb, .inl h⟩

/-- What leaves supervisor, output switch and fill generator as they are. -/
theorem of_frame (h : t.bsv = s.bsv ∧ t.osw = s.osw ∧ t.fsg = s.fsg) : s.OutputKept t := by
  obtain ⟨hb, ho, hf⟩ := h
  exact of_same hb (by simp only [State.syncOutput, ho, hf])

theorem withSpe (h : r.OutputKept s) (e : Spe) : r.OutputKept { s with spe := e } := h
theorem withLine (h : r.OutputKept s) (l : LineController) : r.OutputKept (s.withLine l) := h
theorem elapse (h : r.OutputKept s) (n : Nat) : r.OutputKept (s.elapse n) := h
theorem advanceTo (h : r.OutputKept s) (m : Moment) : r.OutputKept (s.advanceTo m) := h

/-! ## Roles and reports -/

theorem switchesFollow (h : r.OutputKept s) (role : Role) : r.OutputKept (s.switchesFollow role) := by
  refine h.trans ⟨by simp, ?_⟩
  simp only [State.switchesFollow]
  split
  · exact .inr s.closeVideo_sound
  · exact .inr s.openVideo_sound
  · exact .inl rfl

theorem handRole (h : r.OutputKept s) (role : Role) : r.OutputKept (s.handRole role) :=
  (h.switchesFollow role).trans (of_frame (by simp [State.handRole]))

theorem setRole (h : r.OutputKept s) (role : Role) : r.OutputKept (s.setRole role) := by
  unfold State.setRole
  split
  · exact h
  · exact (h.withSpe _).handRole role

theorem setView (h : r.OutputKept s) (view : Option Rank) : r.OutputKept (s.setView view) := h

theorem offerFails (h : r.OutputKept s) (reason : Notice) : r.OutputKept (s.offerFails reason) :=
  (h.setRole .holding).trans (of_frame (by simp [State.offerFails]))

theorem handoverFails (h : r.OutputKept s) (reason : Notice) : r.OutputKept (s.handoverFails reason) :=
  (h.trans (of_frame (by simp)) : r.OutputKept s.passFails).offerFails reason

theorem handoverCompletes (h : r.OutputKept s) (k : Rank) : r.OutputKept (s.handoverCompletes k) := by
  have standby : r.OutputKept ({ s with spe := { s.spe with view := some k } }.setRole .standby) := (h.withSpe _).setRole .standby
  exact standby.trans (of_frame (by simp [State.handoverCompletes]))

theorem roleReport (h : r.OutputKept s) (rep : Report) (f : Frame) : r.OutputKept (s.roleReport rep f) := by
  unfold State.roleReport
  split
  · exact h.withSpe _
  · split
    · exact h.offerFails _
    · exact h
  · split
    · split
      · split
        · exact h.handoverCompletes _
        · exact h.handoverFails _
        · exact h
      · exact h
    · exact h
  · split
    · split
      · exact h.withSpe _
      · exact h
    · exact h
  · exact h

theorem report (h : r.OutputKept s) (rep : Report) (f : Frame) : r.OutputKept (s.report rep f) :=
  (h.trans (of_frame (by simp)) : r.OutputKept ((s.rosterReport rep f).recoveryReport f)).roleReport rep f

/-! ## Sending -/

theorem tryEnqueue (h : r.OutputKept s) (q : PendingRequest) : r.OutputKept (s.tryEnqueue q) := by
  simp only [State.tryEnqueue]
  split
  · exact h.report _ _
  · exact h

theorem send (h : r.OutputKept s) (q : PendingRequest) : r.OutputKept (s.send q) := by
  unfold State.send
  split
  · exact h
  · exact h.tryEnqueue q

theorem drainRequests (h : r.OutputKept s) (qs : List PendingRequest) : r.OutputKept (s.drainRequests qs) := by
  induction qs generalizing s with
  | nil => exact h
  | cons q rest ih =>
    unfold State.drainRequests
    split
    · split
      · exact h
      · exact ih ((h.withSpe _).tryEnqueue q)
    · exact ih h

theorem space (h : r.OutputKept s) : r.OutputKept s.space := h.drainRequests _

theorem reportHead (h : r.OutputKept s) (rep : Report) : r.OutputKept (s.reportHead rep) := by
  simp only [State.reportHead]
  split
  · exact h
  · next f _ _ =>
    have reported := (h.withLine s.lct.dropHead).report rep f
    split
    · exact reported.space
    · exact reported

theorem reportAll (h : r.OutputKept s) (q : List Frame) : r.OutputKept (s.reportAll q) := by
  induction q generalizing s with
  | nil => exact h
  | cons f rest ih => exact ih (h.report _ f)

/-! ## The screen protocol engine -/

theorem beginBid (h : r.OutputKept s) (joined : Option Rank) : r.OutputKept (s.beginBid joined) :=
  ((((h.withSpe _).setRole .bidding).withSpe _).send bidRequest).withSpe _

theorem bidCheck (h : r.OutputKept s) : r.OutputKept s.bidCheck := by
  unfold State.bidCheck
  split
  · exact h.beginBid none
  · exact h

theorem yieldTo (h : r.OutputKept s) (k : Rank) : r.OutputKept (s.yieldTo k) := (h.withSpe _).setRole .standby

theorem claim (h : r.OutputKept s) (k : Rank) : r.OutputKept (s.claim k) := by
  unfold State.claim
  split
  · exact h.setView _
  · exact (h.withSpe _).setView _
  · exact (h.withSpe _).setRole .standby
  · split
    · exact h.yieldTo k
    · exact h.send _
  · split
    · exact h.yieldTo k
    · exact h.send _
  all_goals exact h

theorem release (h : r.OutputKept s) (k : Rank) : r.OutputKept (s.release k) := by
  unfold State.release
  split
  · split
    · exact h.setView none
    · exact (h.setView none).bidCheck
    · exact h
  · exact h

theorem bidHeard (h : r.OutputKept s) (k : Rank) : r.OutputKept (s.bidHeard k) := by
  unfold State.bidHeard
  split
  · split
    · exact h.beginBid _
    · exact h
  · exact h.withSpe _
  · exact h.send _
  · exact h.send _
  all_goals exact h

theorem speBusSilent (h : r.OutputKept s) : r.OutputKept s.speBusSilent := by
  unfold State.speBusSilent
  split
  · exact h.setView none
  · exact (h.setView none).bidCheck
  · exact h

theorem contention (h : r.OutputKept s) : r.OutputKept s.contention := by
  unfold State.contention
  split
  · exact h.send _
  · exact h.send _
  · exact h

theorem withdraw (h : r.OutputKept s) (reason : WithdrawalReason) : r.OutputKept (s.withdraw reason) := by
  unfold State.withdraw
  split
  · exact h
  · exact ((h.withLine s.lct.muteCommand).withSpe _).setRole .withdrawn

theorem speRankClash (h : r.OutputKept s) : r.OutputKept s.speRankClash := by
  unfold State.speRankClash
  split
  · exact (h.trans (of_frame (by simp)) : r.OutputKept s.passFails).withdraw _
  · exact h.withdraw _

theorem sendHello (h : r.OutputKept s) (reply : Bool) : r.OutputKept (s.sendHello reply) := (h.withSpe _).send _

theorem speRunning (h : r.OutputKept s) : r.OutputKept s.speRunning := (h.sendHello true).withSpe _

theorem speBoard (h : r.OutputKept s) (board : BoardState) : r.OutputKept (s.speBoard board) := by
  have announced : r.OutputKept (if s.spe.firstHello ∧ s.spe.role ≠ .withdrawn then s.sendHello false else s) := by
    split
    · exact h.sendHello false
    · exact h
  simp only [State.speBoard]
  split
  · exact announced.bidCheck
  · exact announced

theorem pick (h : r.OutputKept s) (k : Rank) : r.OutputKept (s.pick k) := by
  simp only [State.pick]
  split
  · split
    · exact h.trans (of_frame (by simp))
    · exact (((h.withSpe _).setRole .offering).send _).withSpe _
  · exact h

theorem answerOffer (h : r.OutputKept s) (k : Rank) (n : HandoverNumber) (yes : Bool) (reason : AnswerReason) :
    r.OutputKept (s.answerOffer k n yes reason) :=
  (h.withSpe _).send _

theorem enterAccepted (h : r.OutputKept s) (k : Rank) (n : HandoverNumber) : r.OutputKept (s.enterAccepted k n) :=
  ((h.withSpe _).setRole .accepted).withSpe _

theorem offerHeard (h : r.OutputKept s) (k : Rank) (n : HandoverNumber) : r.OutputKept (s.offerHeard k n) := by
  unfold State.offerHeard
  split
  · exact h
  · split
    · exact (h.withSpe _).answerOffer _ _ _ _
    · exact h.answerOffer _ _ _ _
  · repeat' split
    · exact h.answerOffer _ _ _ _
    · exact h.answerOffer _ _ _ _
    · exact h.answerOffer _ _ _ _
    · exact (h.enterAccepted k n).answerOffer _ _ _ _
  all_goals exact h.answerOffer _ _ _ _

theorem answerHeard (h : r.OutputKept s) (k : Rank) (n : HandoverNumber) (yes : Bool) (reason : AnswerReason) :
    r.OutputKept (s.answerHeard k n yes reason) := by
  have passing : r.OutputKept s.enterPassing := (h.setRole .passing).withSpe _
  unfold State.answerHeard
  repeat' split
  · exact passing
  · exact h.offerFails _
  all_goals exact h

theorem coinSeated (h : r.OutputKept s) (c1 c2 : Nat) : r.OutputKept (s.coinSeated c1 c2) := h.trans (of_frame (by simp))

theorem seatByPass (h : r.OutputKept s) (k : Rank) (n : HandoverNumber) (c1 c2 : Nat) : r.OutputKept (s.seatByPass k n c1 c2) :=
  (((h.withSpe _).setRole .holding).coinSeated c1 c2).send _

theorem passHeard (h : r.OutputKept s) (k : Rank) (n : HandoverNumber) (c1 c2 : Nat) : r.OutputKept (s.passHeard k n c1 c2) := by
  unfold State.passHeard
  repeat' split
  · exact h.seatByPass k n c1 c2
  all_goals exact h

theorem coinFreeze (h : r.OutputKept s) : r.OutputKept s.coinFreeze := h

theorem issuePass (h : r.OutputKept s) : r.OutputKept s.issuePass := by
  simp only [State.issuePass]
  split
  · exact (h.coinFreeze.withSpe _).send _
  · exact h

theorem leaveAccepted (h : r.OutputKept s) : r.OutputKept s.leaveAccepted := (h.withSpe _).setRole .standby

theorem speLineStuck (h : r.OutputKept s) : r.OutputKept s.speLineStuck := by
  simp only [State.speLineStuck]
  split
  · exact h
  · split
    · exact ((h.withSpe _).withSpe _).setRole .standby
    · exact (h.withSpe _).offerFails _
    · exact (h.withSpe _).handoverFails _
    · exact (h.withSpe _).leaveAccepted
    · exact h.withSpe _

theorem speLineClear (h : r.OutputKept s) : r.OutputKept s.speLineClear := by
  simp only [State.speLineClear]
  split
  · exact h
  · exact ((h.withSpe _).sendHello true).bidCheck

theorem joinExpires (h : r.OutputKept s) : r.OutputKept s.joinExpires := (h.setRole .standby).bidCheck

theorem bidExpires (h : r.OutputKept s) : r.OutputKept s.bidExpires := by
  unfold State.bidExpires
  split
  · exact ((h.withSpe _).setRole .holding).send _
  · exact ((h.withSpe _).setRole .standby).withSpe _

theorem seatWaitExpires (h : r.OutputKept s) : r.OutputKept s.seatWaitExpires := (h.withSpe _).bidCheck

/-! ## The bus and the cabinet line -/

theorem busEdge (h : r.OutputKept s) (m : Moment) (high : Bool) : r.OutputKept (s.busEdge m high) := by
  refine h.trans (of_same (by simp) ?_)
  simp only [State.busEdge, State.busPulse]
  split
  · rfl
  · split <;> rfl
  · rfl

theorem busFallsSilent (h : r.OutputKept s) : r.OutputKept s.busFallsSilent := by
  have silent : r.OutputKept { s with bus := { s.bus with silence := .silent, silenceTimer := none } } := h
  exact silent.speBusSilent

theorem busMismatch (h : r.OutputKept s) (l16 : Nat) (b : Moment) : r.OutputKept (s.busMismatch l16 b) := by
  unfold State.busMismatch
  split
  · exact h
  · split
    · exact h
    · have zeroed : r.OutputKept { s with osw := { s.osw with mismatches := 0, counted := none } } := h
      exact zeroed.contention

theorem judgeBusLine (h : r.OutputKept s) (b : Moment) : r.OutputKept (s.judgeBusLine b) := by
  unfold State.judgeBusLine
  split
  · exact h
  · split
    · exact h.busMismatch _ b
    · exact h

theorem judgeOldest (h : r.OutputKept s) : r.OutputKept s.judgeOldest := by
  unfold State.judgeOldest
  split
  · next rest _ =>
    have taken : r.OutputKept { s with osw := { s.osw with
        ownEdges := keptEdges s.now s.osw.ownEdges, awaiting := rest } } := h
    exact taken.judgeBusLine _
  · exact h

theorem attemptFails (h : r.OutputKept s) : r.OutputKept s.attemptFails := by
  unfold State.attemptFails
  split
  · split
    · exact h
    · exact h.reportHead _
  · exact h

theorem bitClashes (h : r.OutputKept s) (start : Moment) (k i : Nat) (read : Level) : r.OutputKept (s.bitClashes start k i read) :=
  (h.withLine _).attemptFails

theorem applyJudgement (h : r.OutputKept s) (window : Moment) (j : Judgement) : r.OutputKept (s.applyJudgement window j) := by
  cases j with
  | rankClash => exact (h.withLine { s.lct with rankClash := true }).speRankClash
  | _ => exact h

theorem judgeAt (h : r.OutputKept s) (window : Moment) (read : List Bool) (chars : List Byte) (gapDominant : Bool) :
    r.OutputKept (s.judgeAt window read chars gapDominant) :=
  (h.withLine { s.lct with phase := .window window (s.lct.judge s.rank read chars gapDominant).isTaken }).applyJudgement window _

theorem judgeAck (h : r.OutputKept s) (middles : BitVec 9) : r.OutputKept (s.judgeAck middles) := by
  unfold State.judgeAck
  split
  · split
    · exact h.reportHead _
    · split
      · exact h.attemptFails
      · exact h.reportHead _
  · exact h

theorem windowCloses (h : r.OutputKept s) (middles : BitVec 9) : r.OutputKept (s.windowCloses middles) := by
  have ended := h.withLine (s.lct.frameEnd s.now)
  simp only [State.windowCloses]
  split
  · exact ended.judgeAck middles
  · exact ended

theorem flush (h : r.OutputKept s) : r.OutputKept s.flush := by
  have emptied := (h.reportAll s.lct.txq).withLine { (s.reportAll s.lct.txq).lct with txq := [], attempts := 0 }
  simp only [State.flush]
  split
  · exact emptied.space
  · exact emptied

theorem lineSticks (h : r.OutputKept s) : r.OutputKept s.lineSticks := (h.withLine (s.lct.stick s.now)).speLineStuck.flush

theorem lineClears (h : r.OutputKept s) : r.OutputKept s.lineClears :=
  (h.withLine { s.lct with stuck := false, phase := .idle }).speLineClear

theorem takeEntry (h : r.OutputKept s) (e : RxEntry) : r.OutputKept (s.takeEntry e) := h.trans (of_frame (by simp))

theorem helloHeard (h : r.OutputKept s) (k : Rank) (holding reply : Bool) : r.OutputKept (s.helloHeard k holding reply) := by
  have replied : r.OutputKept (if reply ∧ s.spe.role ≠ .withdrawn then s.sendHello false else s) := by
    split
    · exact h.sendHello false
    · exact h
  simp only [State.helloHeard]
  split
  · exact replied.claim k
  · exact replied.release k

/-! ## Board sync, fill and the menu -/

theorem ownEdge (h : r.OutputKept s) (lead : Moment) : r.OutputKept (s.ownEdge lead) := by
  unfold State.ownEdge
  split <;> exact h

theorem ownBoardEdge (h : r.OutputKept s) (lead : Moment) : r.OutputKept (s.ownBoardEdge lead) := by
  unfold State.ownBoardEdge
  split
  · exact h.ownEdge lead
  · exact h

theorem linePulse (h : r.OutputKept s) (p : Pulse) (m : Moment) : r.OutputKept (s.linePulse p m) := by
  refine ownBoardEdge ?_ p.lead
  exact h

theorem beginFillField (h : r.OutputKept s) (start : Moment) (longer : Bool) : r.OutputKept (s.beginFillField start longer) :=
  h.trans (of_same (by simp) (by simp [State.syncOutput]))

theorem fillLine (h : r.OutputKept s) (n : Nat) (start : Moment) : r.OutputKept (s.fillLine n start) := by
  have begun : r.OutputKept ({ s with fsg := { s.fsg with line := n, sync := fillSyncAt n } }.overlayLineStart start) :=
    h.trans (of_same (by simp) (by simp [State.syncOutput]))
  simp only [State.fillLine]
  split
  · exact begun.ownEdge start
  · exact begun

theorem pickEntry (h : r.OutputKept s) : r.OutputKept s.pickEntry := by
  unfold State.pickEntry
  split
  · exact h.trans (of_frame (by simp))
  · split
    · exact (h.trans (of_frame (by simp)) : r.OutputKept s.enterWait).pick _
    · exact h.trans (of_frame (by simp))

end State.OutputKept

end Sys2Proof.Machine
end

section
/-!
SUPPORT. The sync source (O57), second half: the board supervisor with what its changes of state make of the source (R57, R58), and every
command. `SyncKept r s` says that `s`, reached from `r`, has source and supervisor consistent wherever `r` has.
-/

namespace Sys2Proof.Machine

/-! ## A change of board state at the output switch (R57, R58) -/

section
variable {u : State} {board : BoardState} (field : Option Moment)

theorem State.FillFollowsSource.outputBoard (h : u.FillFollowsSource) (board : BoardState) :
    (u.outputBoard board field).FillFollowsSource := by
  unfold State.outputBoard
  split
  · exact h
  · next closed _ =>
    unfold State.cutover
    split
    · exact h
    · obtain ⟨fill, -⟩ := u.startFill_sound (u.cutoverStart board field) closed
      exact fill
  · exact h

/-- The switch leaves no source BOARD and no return armed for a board that is not READY, whatever the source was. -/
theorem State.outputBoard_boardSourceIsReady (hboard : u.bsv.board = board)
    (harmed : u.osw.armed.isSome = true → u.osw.video = .isClosed) : (u.outputBoard board field).BoardSourceIsReady := by
  unfold State.outputBoard
  split
  · next isOpen =>
    rw [isOpen] at harmed
    exact ⟨fun closed => absurd (isOpen.symm.trans closed) (by decide), fun armed => absurd (harmed armed) (by decide)⟩
  · next closed _ =>
    unfold State.cutover
    split
    · next ready =>
      rw [ready] at hboard
      exact ⟨fun _ _ => hboard, fun _ => ⟨closed, hboard⟩⟩
    · obtain ⟨-, source⟩ := u.startFill_sound (u.cutoverStart board field) closed
      exact source
  · next closed fill =>
    refine ⟨fun _ board => absurd (fill.symm.trans board) (by decide), fun armed => ⟨closed, ?_⟩⟩
    by_cases ready : board = .ready
    · exact hboard.trans ready
    · simp [State.armReturn, ready] at armed

end

/-! ## The supervisor's timers (R40) -/

/-- Outside RESETTING the load period is over (R42). -/
theorem State.SupervisorConsistent.loaded {s : State} (h : s.SupervisorConsistent) (hb : s.bsv.board ≠ .resetting) :
    s.bsv.loadPeriod = false := by
  obtain ⟨-, -, -, -, period⟩ := h
  by_contra on
  exact hb (period (by simpa using on)).1

section
variable {s : State} {due : Moment} (h : s.SupervisorConsistent)
include h

/-- A reset hold runs only after the load period (R42). -/
theorem State.SupervisorConsistent.loaded_of_hold (running : s.bsv.resetHold = some due) : s.bsv.loadPeriod = false := by
  obtain ⟨-, -, -, -, period⟩ := h
  by_contra on
  exact absurd ((period (by simpa using on)).2.symm.trans running) nofun

/-- A boot limit runs only in SETTLING. -/
theorem State.SupervisorConsistent.loaded_of_boot (running : s.bsv.bootLimit = some due) : s.bsv.loadPeriod = false := by
  refine h.loaded ?_
  obtain ⟨-, -, boot, -⟩ := h
  simp [boot (Option.isSome_of_eq_some running)]

/-- A stall grace runs only in STALLED. -/
theorem State.SupervisorConsistent.loaded_of_grace (running : s.bsv.stallGrace = some due) : s.bsv.loadPeriod = false := by
  refine h.loaded ?_
  obtain ⟨-, -, -, grace, -⟩ := h
  simp [grace (Option.isSome_of_eq_some running)]

end

/-- A state entered after the load period has BRST and timers as R40 gives them. -/
theorem State.enterBoard_consistent (s : State) (board : BoardState) (field : Option Moment) (h : s.bsv.loadPeriod = false) :
    (s.enterBoard board field).SupervisorConsistent := by
  simp [State.SupervisorConsistent, State.enterBoard_bsv, Supervisor.enter, h]

/-! ## The relation -/

/-- From `r` to `s` source and supervisor stay consistent. -/
def State.SyncKept (r s : State) : Prop :=
  (r.FillFollowsSource → s.FillFollowsSource) ∧ (r.BoardSourceIsReady → s.BoardSourceIsReady) ∧
  (r.SupervisorConsistent → s.SupervisorConsistent)

namespace State.OutputKept

variable {r s : State}

theorem fill (h : r.OutputKept s) (hr : r.FillFollowsSource) : s.FillFollowsSource := by
  obtain ⟨-, same | ⟨fill, -⟩⟩ := h
  · exact hr.congr same
  · exact fill

theorem source (h : r.OutputKept s) (hr : r.BoardSourceIsReady) : s.BoardSourceIsReady := by
  obtain ⟨bsv, same | ⟨-, source⟩⟩ := h
  · exact hr.congr same bsv
  · exact source

theorem supervisor (h : r.OutputKept s) (hr : r.SupervisorConsistent) : s.SupervisorConsistent := by
  obtain ⟨bsv, -⟩ := h
  simpa only [State.SupervisorConsistent, bsv] using hr

/-- A return stays armed only at a closed switch. -/
theorem armedClosed (h : r.OutputKept s) (hr : r.osw.armed.isSome = true → r.osw.video = .isClosed) :
    s.osw.armed.isSome = true → s.osw.video = .isClosed := by
  obtain ⟨-, same | ⟨-, -, armed⟩⟩ := h
  · obtain ⟨video, -, -, armed, -⟩ := State.syncOutput_eq_iff.mp same
    rwa [video, armed]
  · exact fun some => (armed some).1

/-- The blocks that a board state reaches before the output switch (R40). -/
theorem handed (s : State) (board : BoardState) : s.OutputKept ((s.speBoard board).coinBoard board).mapperDecides :=
  ((refl s).speBoard board).trans (of_frame (by simp))

/-- What an expiry does, it does to the state at its moment. -/
theorem onExpiry {s : State} (timer : Timer) {act : State → State}
    (hact : ∀ {u : State}, s.OutputKept u → s.OutputKept (act u)) : s.OutputKept (s.onExpiry timer act) := by
  cases timer with
  | none => exact .refl s
  | some due => exact hact ((refl s).advanceTo due)

/-- A command that acts where a condition holds, and otherwise leaves the state. -/
theorem ite {r s t : State} {p : Prop} [Decidable p] (ht : r.OutputKept t) (hs : r.OutputKept s) :
    r.OutputKept (if p then t else s) := by
  split
  · exact ht
  · exact hs

end State.OutputKept

/-- The engine may choose the source afresh before the output switch takes the board state (R40, R57, R58). -/
theorem State.FillFollowsSource.handBoard {s : State} (h : s.FillFollowsSource) (board : BoardState) (field : Option Moment) :
    (s.handBoard board field).FillFollowsSource :=
  (((State.OutputKept.handed s board).fill h).outputBoard field board).congr (by simp [State.handBoard, State.syncOutput])

theorem State.handBoard_boardSourceIsReady (s : State) (field : Option Moment)
    (harmed : s.osw.armed.isSome = true → s.osw.video = .isClosed) : (s.handBoard s.bsv.board field).BoardSourceIsReady := by
  have before := State.OutputKept.handed s s.bsv.board
  have acted := State.outputBoard_boardSourceIsReady field (congrArg Supervisor.board before.1) (before.armedClosed harmed)
  exact acted.congr (by simp [State.handBoard, State.syncOutput]) (by simp)

namespace State.SyncKept

variable {r s t : State}

theorem of_output (h : r.OutputKept s) : r.SyncKept s := ⟨h.fill, h.source, h.supervisor⟩

theorem refl (s : State) : s.SyncKept s := ⟨id, id, id⟩

theorem trans (h : r.SyncKept s) (h' : s.SyncKept t) : r.SyncKept t := by
  obtain ⟨fill, source, supervisor⟩ := h
  obtain ⟨fill', source', supervisor'⟩ := h'
  exact ⟨fill' ∘ fill, source' ∘ source, supervisor' ∘ supervisor⟩

theorem output (h : r.SyncKept s) (h' : s.OutputKept t) : r.SyncKept t := h.trans (of_output h')

/-- What leaves supervisor, output switch and fill generator as they are. -/
theorem frame (h : r.SyncKept s) (h' : t.bsv = s.bsv ∧ t.osw = s.osw ∧ t.fsg = s.fsg) : r.SyncKept t := h.output (.of_frame h')

theorem elapse (h : r.SyncKept s) (n : Nat) : r.SyncKept (s.elapse n) := h
theorem advanceTo (h : r.SyncKept s) (m : Moment) : r.SyncKept (s.advanceTo m) := h
theorem withSsl (h : r.SyncKept s) (l : Slicer) : r.SyncKept { s with ssl := l } := h
theorem withPcl (h : r.SyncKept s) (c : Classifier) : r.SyncKept { s with pcl := c } := h
theorem withTmu (h : r.SyncKept s) (u : Tmu) : r.SyncKept { s with tmu := u } := h

theorem ite {p : Prop} [Decidable p] (ht : r.SyncKept t) (hs : r.SyncKept s) : r.SyncKept (if p then t else s) := by
  split
  · exact ht
  · exact hs

/-- An expiry acts on the state at its moment, with its timer running. -/
theorem onExpiry (timer : Timer) {act : State → State} (hact : ∀ due, timer = some due → s.SyncKept (act (s.advanceTo due))) :
    s.SyncKept (s.onExpiry timer act) := by
  cases timer with
  | none => exact refl s
  | some due => exact hact due rfl

/-! ## The board supervisor -/

/-- A supervisor in the same board state takes the place of one, as consistent as it. -/
theorem withBsv (h : r.SyncKept s) (b : Supervisor) (hb : b.board = s.bsv.board := by rfl)
    (hs : s.SupervisorConsistent → { s with bsv := b }.SupervisorConsistent := by exact id) : r.SyncKept { s with bsv := b } := by
  refine h.trans ⟨id, fun source => ?_, hs⟩
  simpa only [State.BoardSourceIsReady, hb] using source

theorem setAttempts (h : r.SyncKept s) (n : Nat) : r.SyncKept (s.setAttempts n) := h.withBsv _

theorem latchOffWindow (h : r.SyncKept s) : r.SyncKept s.latchOffWindow := h.withBsv _

theorem enterBoard (h : r.SyncKept s) (board : BoardState) (field : Option Moment)
    (hp : s.SupervisorConsistent → s.bsv.loadPeriod = false) : r.SyncKept (s.enterBoard board field) :=
  h.trans ⟨fun fill => State.FillFollowsSource.handBoard (by exact fill) board field,
    fun ⟨_, armed⟩ => State.handBoard_boardSourceIsReady _ field fun some => (armed some).1,
    fun supervisor => s.enterBoard_consistent board field (hp supervisor)⟩

theorem enterBoardCleared (h : r.SyncKept s) (board : BoardState) (hp : s.SupervisorConsistent → s.bsv.loadPeriod = false) :
    r.SyncKept (s.enterBoardCleared board) :=
  (h.withTmu s.tmu.clear).enterBoard board none hp

theorem enterVacant (h : r.SyncKept s) (hp : s.SupervisorConsistent → s.bsv.loadPeriod = false) : r.SyncKept s.enterVacant :=
  (h.setAttempts 0).enterBoardCleared .vacant hp

theorem endLoadPeriod (h : r.SyncKept s) : r.SyncKept s.endLoadPeriod := by
  simp only [State.endLoadPeriod]
  split
  · next cond =>
    obtain ⟨period, -⟩ := cond
    split
    · refine h.withBsv _ rfl ?_
      rintro ⟨brst, -, boot, grace, load⟩
      exact ⟨brst, fun _ => (load period).1, boot, grace, nofun⟩
    · refine enterVacant (h.withBsv _ rfl ?_) (fun _ => rfl)
      rintro ⟨brst, hold, boot, grace, -⟩
      exact ⟨brst, hold, boot, grace, nofun⟩
  · exact h

theorem boardPresent (h : r.SyncKept s) : r.SyncKept s.boardPresent := by
  simp only [State.boardPresent]
  split
  · exact (h.withBsv _).endLoadPeriod
  · next loaded =>
    split
    · exact (h.withBsv _).enterBoardCleared .resetting (fun _ => by simpa using loaded)
    · exact h.withBsv _

theorem boardAbsent (h : r.SyncKept s) : r.SyncKept s.boardAbsent := by
  simp only [State.boardAbsent]
  split
  · exact h.withBsv _
  · next loaded =>
    split
    · exact h.withBsv _
    · exact (h.withBsv _).enterVacant (fun _ => by simpa using loaded)

theorem firstDecision (h : r.SyncKept s) : r.SyncKept s.firstDecision := (h.withBsv _).endLoadPeriod

theorem boardSignature (h : r.SyncKept s) (verdict : Verdict) (field : Moment) : r.SyncKept (s.boardSignature verdict field) := by
  unfold State.boardSignature
  split
  · next ready =>
    exact (h.setAttempts 0).enterBoard _ _ fun supervisor => State.SupervisorConsistent.loaded supervisor fun resetting => by
      simp [settlesReady, show s.bsv.board = .resetting from resetting] at ready
  · split
    · next leaves =>
      exact h.latchOffWindow.enterBoard _ _ fun supervisor => State.SupervisorConsistent.loaded supervisor fun resetting => by
        simp [leavesWindow, show s.bsv.board = .resetting from resetting] at leaves
    · exact ite h.latchOffWindow h

theorem boardDrift (h : r.SyncKept s) (field : Moment) : r.SyncKept (s.boardDrift field) := by
  unfold State.boardDrift
  split
  · next ready => exact h.enterBoard _ _ (·.loaded (by simp [ready]))
  · exact h

theorem boardStall (h : r.SyncKept s) : r.SyncKept s.boardStall := by
  unfold State.boardStall
  split
  · next board => exact h.enterBoard _ _ (·.loaded (by simp [board]))
  · next board => exact h.enterBoard _ _ (·.loaded (by simp [board]))
  · next board => exact h.enterBoard _ _ (·.loaded (by simp [board]))
  · exact h

theorem boardResume (h : r.SyncKept s) : r.SyncKept s.boardResume := by
  unfold State.boardResume
  split
  · next board => exact h.enterBoard _ _ (·.loaded (by simp [board]))
  · exact h

theorem graceExpires (h : r.SyncKept s) (hp : s.SupervisorConsistent → s.bsv.loadPeriod = false) : r.SyncKept s.graceExpires := by
  unfold State.graceExpires
  split
  · exact (h.setAttempts _).enterBoardCleared .resetting hp
  · exact (h.withBsv _).enterBoard .failed none hp

/-- RESET BOARD restarts a reset hold that runs, and so no load period does (R42, R54). -/
theorem resetBoard (h : r.SyncKept s) : r.SyncKept s.resetBoard := by
  unfold State.resetBoard
  split
  · exact h
  · next resetting =>
    split
    · next due running =>
      refine h.withBsv _ rfl ?_
      rintro ⟨brst, -, boot, grace, load⟩
      exact ⟨brst, fun _ => resetting, boot, grace, fun period => absurd ((load period).2.symm.trans running) nofun⟩
    · exact h.setAttempts 0
  · next away => exact (h.setAttempts 0).enterBoardCleared .resetting (State.SupervisorConsistent.loaded · away)

/-! ## FIELD START, RESUME, STALL and LOAD END -/

theorem boardTmuEvent (h : r.SyncKept s) (e : Option TmuEvent) (field : Moment) : r.SyncKept (s.boardTmuEvent e field) := by
  unfold State.boardTmuEvent
  split
  · exact h.boardSignature _ field
  · exact h.boardDrift field
  · exact h

/-- The return comes only while it is armed, and so to a READY board (R58). -/
theorem outputField (h : r.SyncKept s) (lead : Moment) : r.SyncKept (s.outputField lead) := by
  unfold State.outputField
  split
  · next stamp _ _ armed =>
    split
    · exact h
    · refine h.trans ⟨fun _ => ?_, fun source => ?_, id⟩
      · simp [State.FillFollowsSource, FillGenerator.stopped]
      · obtain ⟨-, ready⟩ := source
        exact ⟨fun _ _ => (ready (by simp [armed])).2, nofun⟩
  · exact h

theorem overlayBoardField (h : r.SyncKept s) (lead : Moment) : r.SyncKept (s.overlayBoardField lead) := h.frame (by simp)

theorem overlayBoardEdge (h : r.SyncKept s) (lead : Moment) : r.SyncKept (s.overlayBoardEdge lead) := h.frame (by simp)

theorem fieldTaken (h : r.SyncKept s) (lead : Moment) : r.SyncKept (s.fieldTaken lead) := h

theorem fieldStart (h : r.SyncKept s) (lead : Moment) : r.SyncKept (s.fieldStart lead) := by
  rw [State.fieldStart_eq]
  exact (((h.fieldTaken lead).boardTmuEvent _ lead).outputField lead).overlayBoardField lead

theorem broad (h : r.SyncKept s) (lead : Moment) : r.SyncKept (s.broad lead) := ite (h.fieldStart lead) h

theorem resume (h : r.SyncKept s) : r.SyncKept s.resume := (h.withTmu s.tmu.resume).boardResume

theorem stalled (h : r.SyncKept s) : r.SyncKept s.stalled := (h.withTmu s.tmu.stall).boardStall

theorem loadStarted (h : r.SyncKept s) (copy : Option (List Byte)) : r.SyncKept (s.loadStarted copy) := by
  have taken : r.SyncKept (s.loadTaken copy) := h
  exact (taken.frame (by simp) : r.SyncKept (s.loadTaken copy).slicerLoadEnd).endLoadPeriod

theorem loadEnd (h : r.SyncKept s) (copy : Option (List Byte)) : r.SyncKept (s.loadEnd copy) := by
  have started := h.loadStarted copy
  rw [State.loadEnd_eq]
  split
  · exact (started.output (.speRunning (.refl _))).frame (by simp)
  · exact (started.output (.withdraw (.refl _) .noConfig)).frame (by simp)

/-! ## Board sync -/

theorem resumePulse (h : r.SyncKept s) (m : Moment) : r.SyncKept (s.resumePulse m) := h.resume.withPcl _

theorem leadingEdge (h : r.SyncKept s) (m : Moment) : r.SyncKept (s.leadingEdge m) := by
  simp only [State.leadingEdge]
  split
  · exact ((h.withSsl _).resumePulse m).overlayBoardEdge m
  · exact ((h.withSsl { s.ssl with logicSync := .syncActive, pair := none }).withPcl (s.pcl.beginPulse m)).overlayBoardEdge m

theorem classify (h : r.SyncKept s) (p : Pulse) (m : Moment) : r.SyncKept (s.classify p m) := by
  unfold State.classify
  split
  · exact h
  · split
    · exact h
    · split
      · exact h.output (.linePulse (.refl s) p m)
      · exact ite (h.frame (by simp)) (h.broad p.lead)

theorem trailingEdge (h : r.SyncKept s) (m : Moment) : r.SyncKept (s.trailingEdge m) := by
  simp only [State.trailingEdge]
  split
  · exact h
  · exact h
  · refine classify ?_ _ m
    exact h

theorem decideBroad (h : r.SyncKept s) : r.SyncKept s.decideBroad := by
  unfold State.decideBroad
  split
  · next p _ => exact (h.withPcl { s.pcl with pulse := some { p with broad := true } }).broad p.lead
  · exact h

theorem stallExpires (h : r.SyncKept s) : r.SyncKept s.stallExpires := by
  have quiet := h.stalled.withPcl s.stalled.pcl.stalled
  simp only [State.stallExpires]
  split
  · exact quiet.frame (by simp)
  · exact quiet

/-! ## The panel -/

theorem menuKey (h : r.SyncKept s) (k : Key) : r.SyncKept (s.menuKey k) := by
  unfold State.menuKey
  split
  · exact h
  · unfold State.browseKey
    split
    · exact h.frame (by simp)
    · exact h.frame (by simp)
    · exact h.output (.pickEntry (.refl s))
    · exact h.frame (by simp)
    · exact h.frame (by simp)
    · exact h
    · exact h
  · exact h
  · exact h
  · unfold State.serviceKey
    split
    · exact h.resetBoard
    · have cleared : r.SyncKept s.clearFaults := h
      exact cleared.frame (by simp)
    all_goals exact h

theorem menuPress (h : r.SyncKept s) (i : PanelInput) : r.SyncKept (s.menuPress i) := by
  have touched : r.SyncKept (s.startSelect (s.keyOf i)).touchBrowse := h.frame (by simp)
  simp only [State.menuPress]
  exact menuKey (ite (touched.frame (by simp)) touched) _

theorem pressed (h : r.SyncKept s) (i : PanelInput) : r.SyncKept (s.pressed i) := by
  have latched : r.SyncKept ((s.pressLines i).setLatch i true) := h.frame (by simp)
  exact latched.menuPress i

end State.SyncKept

/-! ## Every command -/

/-- What node reset leaves: an open switch, and a board in RESETTING in the load period (R42, R61). -/
theorem State.resetBy_syncKept (s : State) (cause : ResetCause) : s.SyncKept (s.resetBy cause) :=
  ⟨fun _ => ⟨⟨nofun, nofun⟩, rfl⟩, fun _ => ⟨nofun, nofun⟩,
    fun _ => ⟨⟨fun _ => rfl, fun _ => rfl⟩, nofun, nofun, nofun, fun _ => ⟨rfl, rfl⟩⟩⟩

/-- Every command keeps source and supervisor consistent. -/
theorem exec_syncKept (c : Instr) (s : State) : ∃ u, exec c s = done u ∧ s.SyncKept u := by
  have h := State.SyncKept.refl s
  have o := State.OutputKept.refl s
  cases c with
  | nodeReset dt cause => exact ⟨_, rfl, .ite (s.resetBy_syncKept cause) (h.elapse dt)⟩
  | nodeResetEnd dt release =>
    refine ⟨_, rfl, (h.elapse dt).trans ?_⟩
    split
    · exact .frame (.refl _) (by simp)
    · exact .refl _
  | tryFails dt failed =>
    refine ⟨_, rfl, ?_⟩
    split
    · unfold State.tryFails
      split
      · exact h
      · exact ((h.elapse dt).loadEnd none : s.SyncKept (State.loadEnd _ none))
    · exact h.elapse dt
  | pausedExpiry => exact ⟨_, rfl, .of_output (.onExpiry _ id)⟩
  | blockRead dt bytes =>
    refine ⟨_, rfl, ?_⟩
    split
    · exact (h.elapse dt).loadEnd _
    · exact h.elapse dt
  | acquisitionWindowEnd runs level =>
    refine ⟨_, rfl, .of_output ?_⟩
    split
    · exact .onExpiry _ (·.trans (.of_frame (by simp)))
    · exact o
  | leadingEdge dt held level => exact ⟨_, rfl, .ite ((h.elapse dt).leadingEdge _) (h.elapse dt)⟩
  | trailingEdge dt held level => exact ⟨_, rfl, .ite ((h.elapse dt).trailingEdge _) (h.elapse dt)⟩
  | broadDecided => exact ⟨_, rfl, .onExpiry _ (fun due _ => (h.advanceTo due).decideBroad)⟩
  | tipSample code => exact ⟨_, rfl, .of_output (.onExpiry _ (·.trans (.of_frame (by simp))))⟩
  | restSample code => exact ⟨_, rfl, .of_output (.onExpiry _ (·.trans (.of_frame (by simp))))⟩
  | stall => exact ⟨_, rfl, .onExpiry _ (fun due _ => (h.advanceTo due).stallExpires)⟩
  | lockExpiry => exact ⟨_, rfl, .of_output (.onExpiry _ (·.trans (.of_frame (by simp))))⟩
  | busEdge dt held level => exact ⟨_, rfl, .of_output (.ite ((o.elapse dt).busEdge _ _) (o.elapse dt))⟩
  | busSilent => exact ⟨_, rfl, .of_output (.onExpiry _ (·.busFallsSilent))⟩
  | busLineJudged => exact ⟨_, rfl, .of_output (.onExpiry _ (·.judgeOldest))⟩
  | present dt held => exact ⟨_, rfl, .ite (h.elapse dt).boardPresent (h.elapse dt)⟩
  | absent dt held => exact ⟨_, rfl, .ite (h.elapse dt).boardAbsent (h.elapse dt)⟩
  | resetHoldExpiry =>
    exact ⟨_, rfl, .onExpiry _ fun due running => (h.advanceTo due).enterBoardCleared .settling (·.loaded_of_hold running)⟩
  | bootLimitExpiry =>
    exact ⟨_, rfl, .onExpiry _ fun due running => (h.advanceTo due).enterBoard .stalled none (·.loaded_of_boot running)⟩
  | stallGraceExpiry => exact ⟨_, rfl, .onExpiry _ fun due running => (h.advanceTo due).graceExpires (·.loaded_of_grace running)⟩
  | fillFieldStart =>
    refine ⟨_, rfl, .of_output ?_⟩
    split
    · exact (o.advanceTo _).beginFillField _ _
    · exact o
  | fillLineStart =>
    refine ⟨_, rfl, .of_output ?_⟩
    split
    · exact (o.advanceTo _).fillLine _ _
    · exact o
  | fillPulseEnd => exact ⟨_, rfl, .of_output (.onExpiry _ id)⟩
  | lineIdle dt => exact ⟨_, rfl, .of_output (.ite ((o.elapse dt).trans (.of_frame (by simp))) (o.elapse dt))⟩
  | lostArbitration bit =>
    refine ⟨_, rfl, .of_output ?_⟩
    split
    · exact .ite ((o.advanceTo _).withLine _) o
    · exact o
  | bitClash char bit read =>
    refine ⟨_, rfl, .of_output ?_⟩
    split
    · exact .ite ((o.advanceTo _).bitClashes _ _ _ _) o
    · exact o
  | framingError dt kind => exact ⟨_, rfl, .of_output ((o.elapse dt).trans (.of_frame (by simp)))⟩
  | frameJudged contents check gapDominant =>
    refine ⟨_, rfl, .of_output ?_⟩
    split
    · exact (o.advanceTo _).judgeAt _ _ _ _
    · exact o
  | ackWindowEnd middles =>
    refine ⟨_, rfl, .of_output ?_⟩
    split
    · exact (o.advanceTo _).windowCloses middles
    · exact o
  | lineStuck dt => exact ⟨_, rfl, .of_output (.ite ((o.elapse dt).advanceTo _).lineSticks (o.elapse dt))⟩
  | lineClear dt => exact ⟨_, rfl, .of_output (.ite ((o.elapse dt).advanceTo _).lineClears (o.elapse dt))⟩
  | helloTaken =>
    refine ⟨_, rfl, .of_output ?_⟩
    split
    · split
      · exact (o.takeEntry _).helloHeard _ _ _
      · exact o
    · exact o
  | seatedTaken =>
    refine ⟨_, rfl, .of_output ?_⟩
    split
    · exact (o.takeEntry _).claim _
    · exact o
  | bidTaken =>
    refine ⟨_, rfl, .of_output ?_⟩
    split
    · exact (o.takeEntry _).bidHeard _
    · exact o
  | offerTaken =>
    refine ⟨_, rfl, .of_output ?_⟩
    split
    · split
      · exact (o.takeEntry _).offerHeard _ _
      · exact o
    · exact o
  | answerTaken =>
    refine ⟨_, rfl, .of_output ?_⟩
    split
    · split
      · exact (o.takeEntry _).answerHeard _ _ _ _
      · exact o
    · exact o
  | passTaken =>
    refine ⟨_, rfl, .of_output ?_⟩
    split
    · split
      · exact (o.takeEntry _).passHeard _ _ _ _
      · exact o
    · exact o
  | joinWindowExpiry => exact ⟨_, rfl, .of_output (.onExpiry _ (·.joinExpires))⟩
  | bidWindowExpiry => exact ⟨_, rfl, .of_output (.onExpiry _ (·.bidExpires))⟩
  | seatWaitExpiry => exact ⟨_, rfl, .of_output (.onExpiry _ (·.seatWaitExpires))⟩
  | answerTimerExpiry => exact ⟨_, rfl, .of_output (.onExpiry _ (·.offerFails .noAnswer))⟩
  | coinQuietExpiry => exact ⟨_, rfl, .of_output (.onExpiry _ (·.issuePass))⟩
  | passTimerExpiry => exact ⟨_, rfl, .of_output (.onExpiry _ (·.leaveAccepted.bidCheck))⟩
  | closure dt held ch => exact ⟨_, rfl, .of_output (.ite ((o.elapse dt).trans (.of_frame (by simp))) (o.elapse dt))⟩
  | detectedCoin dt held ch =>
    refine ⟨_, rfl, .of_output ?_⟩
    split
    · exact .ite (o.elapse dt) ((o.elapse dt).trans (.of_frame (by simp)))
    · exact o.elapse dt
  | coinJam ch => exact ⟨_, rfl, .of_output (.onExpiry _ (·.trans (.of_frame (by simp))))⟩
  | pulseTimerExpiry ch => exact ⟨_, rfl, .of_output (.onExpiry _ (·.trans (.of_frame (by simp))))⟩
  | gapTimerExpiry ch => exact ⟨_, rfl, .of_output (.onExpiry _ (·.trans (.of_frame (by simp))))⟩
  | press dt held input => exact ⟨_, rfl, .ite ((h.elapse dt).pressed input) (h.elapse dt)⟩
  | release dt held input => exact ⟨_, rfl, .of_output (.ite ((o.elapse dt).trans (.of_frame (by simp))) (o.elapse dt))⟩
  | lampLevelChange dt held lamp lit => exact ⟨_, rfl, .of_output (.ite (o.elapse dt) (o.elapse dt))⟩
  | selectHoldExpiry => exact ⟨_, rfl, .of_output (.onExpiry _ (·.trans (.of_frame (by simp))))⟩
  | browseTimerExpiry => exact ⟨_, rfl, .of_output (.onExpiry _ (·.trans (.of_frame (by simp))))⟩
  | noticeTimerExpiry => exact ⟨_, rfl, .of_output (.onExpiry _ (·.trans (.of_frame (by simp))))⟩
  | statusLampBlink lamp =>
    refine ⟨_, rfl, .of_output ?_⟩
    split
    · exact o
    · exact o
  | lineFall dt fall =>
    refine ⟨_, rfl, .of_output ?_⟩
    split
    · exact o.elapse dt
    · exact (o.elapse dt).withLine _
  | jammedClosureEnd dt held ch =>
    refine ⟨_, rfl, .of_output ?_⟩
    split
    · exact .ite ((o.elapse dt).trans (.of_frame (by simp))) (o.elapse dt)
    · exact o.elapse dt
  | presenceFirstDecision dt held => exact ⟨_, rfl, .ite (h.elapse dt).firstDecision (h.elapse dt)⟩

/-- An invariant that `SyncKept` carries, and that queue and clock do not touch, is kept by every step. -/
theorem keeps_of_syncKept {Inv : State → Prop} (hinv : ∀ {s t : State}, s.SyncKept t → Inv s → Inv t)
    (hqueue : ∀ s p, Inv s → Inv (s.withPending p)) : Keeps Inv := by
  refine keeps_of_exec hqueue (fun s n => hinv ((State.SyncKept.refl s).elapse n)) (fun c s t hs ht => ?_)
  obtain ⟨u, hu, kept⟩ := exec_syncKept c s
  rw [hu] at ht
  rw [next_of_done ht]
  exact hinv (kept.frame (by simp)) hs

end Sys2Proof.Machine
end

section
open Sys2Proof.Machine

/-- Settles O57: every command keeps source and supervisor consistent (`exec_syncKept`), and so does every step. -/
theorem everyStepKeepsSyncSource : Obligations.EveryStepKeepsSyncSource :=
  ⟨keeps_of_syncKept (fun ⟨fill, _, _⟩ => fill) (fun _ _ h => h),
    keeps_of_syncKept (fun ⟨_, source, _⟩ => source) (fun _ _ h => h),
    keeps_of_syncKept (fun ⟨_, _, supervisor⟩ => supervisor) (fun _ _ h => h)⟩

end

section
/-!
SUPPORT. What a verdict and DRIFT make of the board (R46, R48, R49) leaves the roster.
-/

namespace Sys2Proof.Machine

@[simp] theorem State.boardSignature_roster (s : State) (v : Verdict) (field : Moment) : (s.boardSignature v field).roster = s.roster :=
  s.boardTmuEvent_roster (some (.newSignature v)) field

@[simp] theorem State.boardDrift_roster (s : State) (field : Moment) : (s.boardDrift field).roster = s.roster :=
  s.boardTmuEvent_roster (some .drift) field

end Sys2Proof.Machine
end

section
open Sys2Proof.Machine

/-- Settles O24: verdict and DRIFT are what `State.boardTmuEvent` takes, and concern the board or do not. -/
theorem verdictAndDriftMoveBoard : Obligations.VerdictAndDriftMoveBoard := by
  intro s v field b
  refine ⟨?_, ?_, ?_, fun h => ?_, fun ready => ?_, fun away => ?_, ?_, ?_⟩
  · rintro ⟨rfl, board⟩
    exact s.boardTmuEvent_bsv_in field board
  · rintro ⟨rfl, board⟩
    exact s.boardTmuEvent_bsv_out field board
  · rintro ⟨rfl, board⟩
    simp only [b] at board
    simp [State.boardSignature, settlesReady, leavesWindow, board, State.latchOffWindow]
  · refine s.boardTmuEvent_of_unconcerned field (some (.newSignature v)) ?_
    simp only [b] at h
    simp only [reduceCtorEq, false_and, false_or, or_false, Option.some.injEq, TmuEvent.newSignature.injEq]
    tauto
  · exact s.boardTmuEvent_bsv_drift field ready
  · exact s.boardTmuEvent_of_unconcerned field (some .drift) (by simpa using .inr (.inr (.inr (.inr away))))
  · simp [State.agreesOutside_iff, follows, reached]
  · simp [State.agreesOutside_iff, follows, reached]

end

section
/-!
SUPPORT. The output switch at a change of board state and at a FIELD START (R57, R58), by switch and source, and what a fill field begins
with (R59, R60).
-/

namespace Sys2Proof.Machine

/-! ## A fill field begun -/

section
variable (s : State) (start : Moment)

/-- The figures are the reference's, whatever it holds (R59). -/
theorem State.beginFillField_fields (longer : Bool) :
    (s.beginFillField start longer).fsg.start = some start ∧ (s.beginFillField start longer).fsg.line = 0 ∧
    (s.beginFillField start longer).fsg.longer = longer ∧ (s.beginFillField start longer).fsg.figures = s.tmu.reference := by
  unfold State.beginFillField
  split
  · next reference => simp [reference]
  · next reference => simp [reference]

@[simp] theorem State.overlayFieldStart_cells : (s.overlayFieldStart start).ovg.cells = s.ovg.cells := by
  unfold State.overlayFieldStart
  split <;> rfl

@[simp] theorem State.beginFillField_cells (longer : Bool) : (s.beginFillField start longer).ovg.cells = s.ovg.cells := by
  unfold State.beginFillField
  split <;> simp

@[simp] theorem State.startFill_cells : (s.startFill start).ovg.cells = s.ovg.cells := by
  simp [State.startFill]

/-- A fill field of a cutover is a shorter one (R57, R60). -/
theorem State.startFill_fields :
    (s.startFill start).fsg.start = some start ∧ (s.startFill start).fsg.line = 0 ∧ (s.startFill start).fsg.longer = false ∧
    (s.startFill start).fsg.figures = s.tmu.reference :=
  State.beginFillField_fields _ start false

end

/-! ## The output switch by switch and source -/

section
variable {s : State} (board : BoardState) (field : Option Moment) (lead : Moment)

theorem State.output_of_open (h : s.osw.video = .isOpen) : s.outputBoard board field = s ∧ s.outputField lead = s := by
  simp [State.outputBoard, State.outputField, h]

section
variable (closed : s.osw.video = .isClosed)
include closed

theorem State.outputBoard_of_board (h : s.osw.source = .board) : s.outputBoard board field = s.cutover board field := by
  simp [State.outputBoard, closed, h]

theorem State.outputField_of_board (h : s.osw.source = .board) : s.outputField lead = s := by
  simp [State.outputField, closed, h]

theorem State.outputBoard_of_fill (h : s.osw.source = .fill) : s.outputBoard board field = s.armReturn board field := by
  simp [State.outputBoard, closed, h]

/-- Without a return armed, and at the FIELD START that armed it, the fill goes on (R58). -/
theorem State.outputField_of_unarmed (h : s.osw.source = .fill)
    (unarmed : s.osw.armed = none ∨ s.osw.armed = some (stampOf lead)) : s.outputField lead = s := by
  rcases unarmed with none | same
  · simp [State.outputField, closed, h, none]
  · simp [State.outputField, closed, h, same]

/-- A later FIELD START performs the return (R58). -/
theorem State.outputField_of_armed (h : s.osw.source = .fill) {stamp : Stamp} (armed : s.osw.armed = some stamp)
    (later : stamp ≠ stampOf lead) :
    s.outputField lead = { s with
      osw := { s.osw with source := .board, fillBlack := false, armed := none }, fsg := s.fsg.stopped } := by
  simp [State.outputField, closed, h, armed, later.symm]

end

/-- The moment of a cutover (R57). -/
theorem State.cutoverStart_eq :
    s.cutoverStart board field = if board = .settling ∨ board = .offWindow then field.getD s.now else s.now := by
  cases board <;> rfl

end

end Sys2Proof.Machine
end

section
open Sys2Proof.Machine

/-- Settles O25: by switch and source, each side as the operation that acts there. -/
theorem cutoverAndReturn : Obligations.CutoverAndReturn := by
  intro s board field lead t u
  refine ⟨State.output_of_open board field lead, fun closed source ready => ?_, fun closed source away => ?_, fun closed source => ?_⟩
  · refine ⟨?_, State.outputField_of_board lead closed source⟩
    exact (State.outputBoard_of_board board field closed source).trans (if_pos ready)
  · have cut : t = s.startFill (s.cutoverStart board field) :=
      (State.outputBoard_of_board board field closed source).trans (if_neg away)
    obtain ⟨start, line, longer, figures⟩ := s.startFill_fields (s.cutoverStart board field)
    rw [cut]
    refine ⟨State.startFill_osw .., State.startFill_active .., line, longer, figures, ?_, ?_⟩
    · rw [start, State.cutoverStart_eq]
    · simp [State.agreesOutside_iff]
  · refine ⟨State.outputBoard_of_fill board field closed source, State.outputField_of_unarmed lead closed source,
      fun stamp armed later => ?_⟩
    rw [show u = _ from State.outputField_of_armed lead closed source armed later]
    refine ⟨rfl, rfl, rfl, rfl, ?_⟩
    simp [State.agreesOutside_iff]

end

section
/-!
SUPPORT. The fill generator's commands where it is due (R59, R60): each as the operation it runs, and what a line's start leaves.
-/

namespace Sys2Proof.Machine

/-! ## The commands -/

section
variable {s : State} {start : Moment} {f : Signature} (hactive : s.fsg.active = true) (hstart : s.fsg.start = some start)
  (hfigures : s.fsg.figures = some f)
include hactive hstart hfigures

theorem exec_fillFieldStart (last : fillLines f.hl s.fsg.longer ≤ s.fsg.line + 1) :
    exec .fillFieldStart s = .next ((s.advanceTo (start + fillLineOffset f.l16 (fillLines f.hl s.fsg.longer))).beginFillField
      (start + fillLineOffset f.l16 (fillLines f.hl s.fsg.longer)) (!s.fsg.longer)).settled := by
  simp [exec, execFillFieldStart, done_eq, State.fillFieldDue, hactive, hstart, hfigures, last]

theorem exec_fillLineStart (more : s.fsg.line + 1 < fillLines f.hl s.fsg.longer) :
    exec .fillLineStart s = .next ((s.advanceTo (start + fillLineOffset f.l16 (s.fsg.line + 1))).fillLine (s.fsg.line + 1)
      (start + fillLineOffset f.l16 (s.fsg.line + 1))).settled := by
  simp [exec, execFillLineStart, done_eq, State.fillLineDue, hactive, hstart, hfigures, more]

theorem exec_fillPulseEnd (line : 4 ≤ s.fsg.line) (pulse : s.fsg.sync = .syncActive) :
    exec .fillPulseEnd s = .next (State.settled { s with
      now := max s.now (start + fillLineOffset f.l16 s.fsg.line + f.w), fsg := { s.fsg with sync := .rest } }) := by
  simp [exec, execFillPulseEnd, done_eq, State.fillPulseDue, hactive, hstart, hfigures, line, pulse, State.advanceTo]

end

/-! ## A field and a line begun -/

/-- With a reference the vertical pulse begins (R59). -/
theorem State.beginFillField_fsg (s : State) (start : Moment) (longer : Bool) {r : Signature} (hr : s.tmu.reference = some r) :
    (s.beginFillField start longer).fsg = { s.fsg with
      start := some start, line := 0, longer := longer, figures := some r, sync := .syncActive } := by
  simp [State.beginFillField, hr]

section
variable (s : State) (n : Nat) (start : Moment)

@[simp] theorem State.overlayLineStart_cells : (s.overlayLineStart start).ovg.cells = s.ovg.cells := by
  unfold State.overlayLineStart
  split <;> rfl

/-- The generator at a line's start (R59). -/
@[simp] theorem State.fillLine_fsg : (s.fillLine n start).fsg = { s.fsg with line := n, sync := fillSyncAt n } := by
  simp only [State.fillLine]
  split <;> simp

/-- The overlay takes the line start, whatever the line (R165). -/
theorem State.fillLine_ovg :
    (s.fillLine n start).ovg = ({ s with fsg := { s.fsg with line := n, sync := fillSyncAt n } }.overlayLineStart start).ovg := by
  simp only [State.fillLine]
  split <;> simp

@[simp] theorem State.fillLine_cells : (s.fillLine n start).ovg.cells = s.ovg.cells := by
  simp [State.fillLine_ovg]

/-- An open switch or a count that has not begun leaves the overlay (R165). -/
theorem State.fillLine_ovg_of_uncounted (h : s.osw.video = .isOpen ∨ s.ovg.count = none) : (s.fillLine n start).ovg = s.ovg := by
  rw [State.fillLine_ovg]
  rcases h with h | h <;> simp [State.overlayLineStart, h]

/-- A line start is counted up to 1,023 (R165). -/
theorem State.fillLine_count (closed : s.osw.video = .isClosed) {c : LineCount} (hc : s.ovg.count = some c) :
    (s.fillLine n start).ovg.count = some { n := min 1023 (c.n + 1), start := start, fieldLines := c.fieldLines } := by
  simp [State.fillLine_ovg, State.overlayLineStart, closed, hc, State.beginLine, satInc_eq_min]

/-- The first four lines, and an open switch, give no own line edge (R110). -/
theorem State.fillLine_osw_of_none (h : n < 4 ∨ s.osw.video = .isOpen) : (s.fillLine n start).osw = s.osw := by
  simp only [State.fillLine]
  split
  · have isOpen : s.osw.video = .isOpen := h.resolve_left (by omega)
    simp [State.ownEdge, isOpen]
  · simp

/-- From line 4 on a closed switch has an own line edge at each line start (R110). -/
theorem State.fillLine_osw (line : 4 ≤ n) (closed : s.osw.video = .isClosed) :
    (s.fillLine n start).osw = { s.osw with ownEdges := keptEdges s.now s.osw.ownEdges ++ [start] } := by
  simp [State.fillLine, line, State.ownEdge, closed]

end

end Sys2Proof.Machine
end

section
open Sys2Proof.Machine

/-- Settles O26: each command as the operation it runs, the lengths of the fields from `fillLines`. -/
theorem fillFieldsLinesAndPulses : Obligations.FillFieldsLinesAndPulses := by
  intro s start hstart f hfigures hactive lines
  refine ⟨fun last r hr => ?_, fun more => ?_, fun line pulse => ?_, fun even => ?_, fun odd => ?_, fun odd => ?_⟩
  · refine ⟨_, exec_fillFieldStart hactive hstart hfigures last, by simp [fillLineOffset, lines], ?_, ?_⟩
    · simp [State.beginFillField_fsg (r := r), hr, fillLineOffset, lines]
    · simp [State.agreesOutside_iff, follows]
  · refine ⟨_, exec_fillLineStart hactive hstart hfigures more, ?_⟩
    intro n due
    rw [show start + fillLineOffset f.l16 (s.fsg.line + 1) = due from rfl, show s.fsg.line + 1 = n from rfl]
    clear_value due n
    refine ⟨by simp, by simp [fillSyncAt], fun none => ?_, fun line closed => ?_, fun uncounted => ?_, fun closed c hc => ?_, ?_⟩
    · simpa using (s.advanceTo due).fillLine_osw_of_none n due none
    · simpa [keptEdges] using (s.advanceTo due).fillLine_osw n due line closed
    · simp [State.agreesOutside_iff, follows, (s.advanceTo due).fillLine_ovg_of_uncounted n due uncounted]
    · simpa using (s.advanceTo due).fillLine_count n due closed hc
    · simp [State.agreesOutside_iff, follows]
  · refine ⟨_, exec_fillPulseEnd hactive hstart hfigures line pulse, by simp [fillLineOffset], by simp, ?_⟩
    simp [State.agreesOutside_iff, follows]
  · exact if_pos even
  · cases longer : s.fsg.longer <;> simp [lines, fillLines, odd, longer]
  · cases longer : s.fsg.longer <;> simp [lines, fillLines, odd, longer] <;> omega

end

section
/-!
SUPPORT. A press at the menu (O49). The press restarts the timers and is consumed, all in one state `touched`; the key then acts on it. No
key touches a latch again, so that what is consumed stays so: for that, what a key hands on is shown to leave the latches.
-/

namespace Sys2Proof.Machine

/-! ## The latches (R151) -/

@[simp] theorem State.mapperDecides_latch (s : State) : s.mapperDecides.cmp.latch = s.cmp.latch := by
  simp only [State.mapperDecides, State.decideMapper]
  split <;> rfl

@[simp] theorem State.setMenu_latch (s : State) (st : MenuState) : (s.setMenu st).cmp.latch = s.cmp.latch := by
  unfold State.setMenu
  split
  · rfl
  · simp

@[simp] theorem State.closeMenu_latch (s : State) : s.closeMenu.cmp.latch = s.cmp.latch := by simp [State.closeMenu]
@[simp] theorem State.openBrowse_latch (s : State) : s.openBrowse.cmp.latch = s.cmp.latch := by
  simp [State.openBrowse, State.enterBrowse]
@[simp] theorem State.enterWait_latch (s : State) : s.enterWait.cmp.latch = s.cmp.latch := by simp [State.enterWait]
@[simp] theorem State.enterService_latch (s : State) : s.enterService.cmp.latch = s.cmp.latch := by simp [State.enterService]
@[simp] theorem State.enterNotice_latch (s : State) (n : Notice) : (s.enterNotice n).cmp.latch = s.cmp.latch := by
  simp [State.enterNotice]

@[simp] theorem State.menuHandoverFailed_latch (s : State) (n : Notice) : (s.menuHandoverFailed n).cmp.latch = s.cmp.latch := by
  unfold State.menuHandoverFailed
  split <;> simp

@[simp] theorem State.menuRole_latch (s : State) (role : Role) : (s.menuRole role).cmp.latch = s.cmp.latch := by
  unfold State.menuRole
  split <;> simp

@[simp] theorem State.setRole_latch (s : State) (role : Role) : (s.setRole role).cmp.latch = s.cmp.latch := by
  unfold State.setRole
  split
  · rfl
  · simp [State.handRole]

/-! ## HELLO (R91) -/

/-- A report of a HELLO concerns no role (R89). -/
theorem State.roleReport_of_hello (s : State) (rep : Report) {f : Frame} {holding reply : Bool} {board : BoardState} {l16 hl : Nat}
    {title : List Glyph} (h : f.body = .hello holding reply board l16 hl title) : s.roleReport rep f = s := by
  cases role : s.spe.role <;> simp [State.roleReport, role, h]

/-- A HELLO, even one reported at once, leaves the mapper (R80, R89). -/
@[simp] theorem State.sendHello_cmp (s : State) (reply : Bool) : (s.sendHello reply).cmp = s.cmp := by
  unfold State.sendHello State.send State.tryEnqueue
  split
  · rfl
  · split
    · rw [State.report, State.roleReport_of_hello _ _ rfl]
      simp
    · rfl

/-- RESETTING handed to the blocks leaves the latches (R40, R91). -/
theorem State.enterResetting_latch (s : State) : (s.enterBoardCleared .resetting).cmp.latch = s.cmp.latch := by
  have announced (u : State) : (u.speBoard .resetting).cmp = u.cmp := by
    simp only [State.speBoard]
    split <;> simp
  simp [State.enterBoardCleared, State.enterBoard, State.handBoard, State.menuBoard, announced]

/-! ## PICK (R116) -/

/-- A role that holds the screen leaves the menu open (R167). -/
theorem State.setRole_mnu_of_holdsScreen (s : State) {role : Role} (h : holdsScreen role = true) : (s.setRole role).mnu = s.mnu := by
  unfold State.setRole
  split
  · rfl
  · simp [State.handRole, State.menuRole, h]

/-- A holder on a line that is not stuck offers under the next number (R115, R116). -/
theorem State.pick_offers (s : State) (k : Rank) (holding : s.spe.role = .holding) (unstuck : s.lct.stuck = false) :
    (s.pick k).mnu = s.mnu ∧ (s.pick k).cmp.latch = s.cmp.latch ∧ (s.pick k).spe.role = .offering ∧
    (s.pick k).spe.number = s.spe.number + 1 ∧ (s.pick k).spe.target = some k ∧
    (s.pick k).spe.answerTimer = some (s.now + answerTime) := by
  generalize hu : { s with spe := { s.spe with number := s.spe.number + 1, target := some k } }.setRole .offering = u
  have picked : s.pick k = { u.send (offerRequest k) with spe := { (u.send (offerRequest k)).spe with
      answerTimer := (u.send (offerRequest k)).after answerTime } } := by
    simp [State.pick, holding, unstuck, ← hu]
  have spe : u.spe = { s.spe with number := s.spe.number + 1, target := some k }.enterRole .offering := by
    simp [← hu, State.setRole_spe, holding]
  have mnu : u.mnu = s.mnu := by simpa [← hu] using State.setRole_mnu_of_holdsScreen _ rfl
  have latch : u.cmp.latch = s.cmp.latch := by simp [← hu]
  have now : u.now = s.now := by simp [← hu]
  have line : u.lct.stuck = false := by simpa [← hu] using unstuck
  obtain ⟨l, q, sent⟩ := u.send_of_unstuck (offerRequest k) line
  rw [picked, sent]
  simp [spe, mnu, latch, now, Spe.enterRole]

/-- PICK leaves the latches, taken or refused. -/
@[simp] theorem State.pick_latch (s : State) (k : Rank) : (s.pick k).cmp.latch = s.cmp.latch := by
  by_cases holding : s.spe.role = .holding
  · cases stuck : s.lct.stuck
    · obtain ⟨-, latch, -⟩ := s.pick_offers k holding stuck
      exact latch
    · simp [State.pick, holding, stuck]
  · unfold State.pick
    split
    · next role => exact absurd role holding
    · rfl

/-! ## The keys -/

@[simp] theorem State.resetBoard_latch (s : State) : s.resetBoard.cmp.latch = s.cmp.latch := by
  unfold State.resetBoard
  split
  · rfl
  · split <;> rfl
  · simp [State.enterResetting_latch]

@[simp] theorem State.menuKey_latch (s : State) (k : Key) : (s.menuKey k).cmp.latch = s.cmp.latch := by
  unfold State.menuKey
  split
  · rfl
  · cases k
    case pick =>
      simp only [State.browseKey, State.pickEntry]
      repeat' split
      all_goals simp
    all_goals simp [State.browseKey]
  · rfl
  · rfl
  · cases k <;> simp [State.serviceKey]

/-- A press is consumed in an open menu, unless it is of SELECT or of a plain input (R168). -/
theorem consumesPress_iff (st : MenuState) (k : Key) : consumesPress st k = true ↔ st ≠ .closed ∧ k ≠ .select ∧ k ≠ .plain := by
  cases st <;> cases k <;> simp [consumesPress]

/-- A press before its key acts: the timers it starts, and its latch consumed or kept (R168, R169, R170). -/
def State.touched (s : State) (i : PanelInput) : State :=
  { s with
    mnu := { s.mnu with
      browseTimer := if s.mnu.state = .browse then some (s.now + 960000000) else s.mnu.browseTimer
      selectTimer := if s.keyOf i = .select then some (s.now + 38400000) else s.mnu.selectTimer }
    cmp := { s.cmp with latch := if s.mnu.state = .closed ∨ s.keyOf i = .select ∨ s.keyOf i = .plain then s.cmp.latch
                                 else s.cmp.latch.set (panelIndex i) false } }

theorem State.startSelect_eq (s : State) (k : Key) : s.startSelect k = { s with mnu := { s.mnu with
    selectTimer := if k = .select then some (s.now + 38400000) else s.mnu.selectTimer } } := by
  cases k <;> rfl

theorem State.touchBrowse_eq (s : State) : s.touchBrowse = { s with mnu := { s.mnu with
    browseTimer := if s.mnu.state = .browse then some (s.now + 960000000) else s.mnu.browseTimer } } := by
  unfold State.touchBrowse
  split
  · next browse => simp [browse, browseTime, ms, ticksPerMs]
  · next other => simp [show s.mnu.state ≠ .browse from other]

/-- PRESS at the menu is the key acting on the touched state (R168 to R171, R175). -/
theorem State.menuPress_eq (s : State) (i : PanelInput) : s.menuPress i = (s.touched i).menuKey (s.keyOf i) := by
  simp only [State.menuPress, State.startSelect_eq, State.touchBrowse_eq, consumesPress_iff]
  congr 1
  by_cases consumed : s.mnu.state ≠ .closed ∧ s.keyOf i ≠ .select ∧ s.keyOf i ≠ .plain
  · simp [State.touched, State.setLatch, consumed]
  · have kept : s.mnu.state = .closed ∨ s.keyOf i = .select ∨ s.keyOf i = .plain := by tauto
    simp only [State.touched, if_neg consumed, if_pos kept]

/-! ## The game list (R94, R170) -/

theorem State.mem_gameList (s : State) (r : Rank) : r ∈ s.gameList ↔ s.listed r = true := by
  have all : r ∈ allRanks := by revert r; decide
  simp [State.gameList, all]

theorem State.gameList_sorted (s : State) : s.gameList.Pairwise (· < ·) :=
  List.Pairwise.filter s.listed (show allRanks.Pairwise (· < ·) by decide)

/-- The next listed rank below, if there is one (R170, UP). -/
theorem State.listedBelow_spec (s : State) (r : Rank) :
    (s.listedBelow r = r ∧ ∀ k, s.listed k = true → ¬k < r) ∨
    (s.listedBelow r < r ∧ s.listed (s.listedBelow r) = true ∧ ∀ k, s.listed k = true → k < r → k ≤ s.listedBelow r) := by
  have sorted := s.gameList_sorted.filter (fun k => decide (k < r))
  have mem (k : Rank) : k ∈ s.gameList.filter (fun k => decide (k < r)) ↔ s.listed k = true ∧ k < r := by
    simp [State.mem_gameList]
  unfold State.listedBelow
  cases last : (s.gameList.filter (fun k => decide (k < r))).getLast? with
  | none =>
    rw [List.getLast?_eq_none_iff] at last
    refine .inl ⟨rfl, fun k listed below => ?_⟩
    have := (mem k).mpr ⟨listed, below⟩
    simp [last] at this
  | some a =>
    obtain ⟨before, split⟩ := List.getLast?_eq_some_iff.mp last
    rw [split] at sorted mem
    obtain ⟨-, -, upto⟩ := List.pairwise_append.mp sorted
    obtain ⟨listed, below⟩ := (mem a).mp (by simp)
    refine .inr ⟨below, listed, fun k hk hkr => ?_⟩
    rcases List.mem_append.mp ((mem k).mpr ⟨hk, hkr⟩) with earlier | same
    · exact (upto k earlier a (by simp)).le
    · exact (List.mem_singleton.mp same).le

/-- The next listed rank above, if there is one (R170, DOWN). -/
theorem State.listedAbove_spec (s : State) (r : Rank) :
    (s.listedAbove r = r ∧ ∀ k, s.listed k = true → ¬r < k) ∨
    (r < s.listedAbove r ∧ s.listed (s.listedAbove r) = true ∧ ∀ k, s.listed k = true → r < k → s.listedAbove r ≤ k) := by
  have sorted := s.gameList_sorted.filter (fun k => decide (r < k))
  have mem (k : Rank) : k ∈ s.gameList.filter (fun k => decide (r < k)) ↔ s.listed k = true ∧ r < k := by
    simp [State.mem_gameList]
  unfold State.listedAbove
  cases first : (s.gameList.filter (fun k => decide (r < k))).head? with
  | none =>
    rw [List.head?_eq_none_iff] at first
    refine .inl ⟨rfl, fun k listed above => ?_⟩
    have := (mem k).mpr ⟨listed, above⟩
    simp [first] at this
  | some a =>
    obtain ⟨after, split⟩ := List.head?_eq_some_iff.mp first
    rw [split] at sorted mem
    obtain ⟨onward, -⟩ := List.pairwise_cons.mp sorted
    obtain ⟨listed, above⟩ := (mem a).mp (by simp)
    refine .inr ⟨above, listed, fun k hk hkr => ?_⟩
    rcases List.mem_cons.mp ((mem k).mpr ⟨hk, hkr⟩) with same | later
    · exact same.ge
    · exact (onward k later).le

/-! ## Each menu state -/

section
variable {s : State} {i : PanelInput} {k : Key} (hk : s.keyOf i = k)
include hk

theorem State.menuPress_of_browse (h : s.mnu.state = .browse) : s.menuPress i = (s.touched i).browseKey k := by
  rw [State.menuPress_eq, hk]
  simp [State.menuKey, State.touched, h]

theorem State.menuPress_of_service (h : s.mnu.state = .service) : s.menuPress i = (s.touched i).serviceKey k := by
  rw [State.menuPress_eq, hk]
  simp [State.menuKey, State.touched, h]

/-- In BROWSE a key other than SELECT restarts the browse timer alone (R170). -/
theorem State.touched_mnu_of_browse (h : s.mnu.state = .browse) (other : k ≠ .select) :
    (s.touched i).mnu = { s.mnu with browseTimer := some (s.now + 960000000) } := by
  simp [State.touched, h, hk, other]

/-- SELECT, a plain input, and any key where the menu takes none do nothing more (R168, R169, R175). -/
theorem State.menuPress_of_inert (h : k = .select ∨ k = .plain ∨ s.mnu.state = .closed ∨ s.mnu.state = .wait ∨
    s.mnu.state = .notice ∨ s.mnu.state = .service ∧ k ≠ .pick ∧ k ≠ .back) : s.menuPress i = s.touched i := by
  rw [State.menuPress_eq, hk]
  unfold State.menuKey
  rw [show (s.touched i).mnu.state = s.mnu.state from rfl]
  cases state : s.mnu.state with
  | closed => rfl
  | wait => rfl
  | notice => rfl
  | browse =>
    have idle : k = .select ∨ k = .plain := by simpa [state] using h
    rcases idle with rfl | rfl <;> rfl
  | service =>
    have idle : k ≠ .pick ∧ k ≠ .back := by
      rcases h with rfl | rfl | h
      · simp
      · simp
      · simpa [state] using h
    cases k <;> simp_all [State.serviceKey]

end

/-! ## Each key in BROWSE (R170, R171) -/

section
variable {s : State} {i : PanelInput} (browse : s.mnu.state = .browse)
include browse

/-- UP moves the cursor to the next listed rank below. -/
theorem State.menuPress_up (hk : s.keyOf i = .up) : (s.menuPress i).mnu = { s.mnu with
    browseTimer := some (s.now + 960000000), cursor := s.listedBelow s.mnu.cursor } := by
  simp only [State.menuPress_of_browse hk browse, State.browseKey, State.moveCursor_mnu]
  rw [State.touched_mnu_of_browse hk browse (by decide)]
  rfl

/-- DOWN moves it to the next above. -/
theorem State.menuPress_down (hk : s.keyOf i = .down) : (s.menuPress i).mnu = { s.mnu with
    browseTimer := some (s.now + 960000000), cursor := s.listedAbove s.mnu.cursor } := by
  simp only [State.menuPress_of_browse hk browse, State.browseKey, State.moveCursor_mnu]
  rw [State.touched_mnu_of_browse hk browse (by decide)]
  rfl

/-- BACK, and PICK on the own entry, close the menu. -/
theorem State.menuPress_closes (h : s.keyOf i = .back ∨ s.keyOf i = .pick ∧ s.mnu.cursor = s.rank) :
    (s.menuPress i).mnu = { s.mnu with state := .closed, notice := none, noticeTimer := none, browseTimer := none } := by
  rcases h with hk | ⟨hk, own⟩
  · rw [State.menuPress_of_browse hk browse, State.browseKey, State.closeMenu_mnu, State.touched_mnu_of_browse hk browse (by decide)]
  · have closes : (s.touched i).pickEntry = (s.touched i).closeMenu := if_pos own
    rw [State.menuPress_of_browse hk browse, State.browseKey, closes, State.closeMenu_mnu,
      State.touched_mnu_of_browse hk browse (by decide)]

/-- PICK of a peer that is not READY shows NOT READY. -/
theorem State.menuPress_refuses (hk : s.keyOf i = .pick) (away : s.mnu.cursor ≠ s.rank)
    (unready : (s.entry s.mnu.cursor).board ≠ some .ready) : s.menuPress i = (s.touched i).enterNotice .notReady := by
  rw [State.menuPress_of_browse hk browse]
  exact (if_neg away).trans (if_neg unready)

/-- PICK of a READY peer goes to the engine from WAIT. -/
theorem State.menuPress_picks (hk : s.keyOf i = .pick) (away : s.mnu.cursor ≠ s.rank)
    (ready : (s.entry s.mnu.cursor).board = some .ready) : s.menuPress i = (s.touched i).enterWait.pick s.mnu.cursor := by
  rw [State.menuPress_of_browse hk browse]
  exact (if_neg away).trans (if_pos ready)

end

/-- RESET BOARD at the supervisor: RESETTING entered, or its hold restarted; never without a board (R54). -/
theorem State.resetBoard_bsv (s : State) :
    (s.bsv.board ≠ .vacant → s.bsv.board ≠ .resetting → s.resetBoard.bsv = { s.bsv with
      board := .resetting, brst := true, attempts := 0, bootLimit := none, stallGrace := none
      resetHold := some (s.now + s.quantities.resetHoldMs * 48000) }) ∧
    (s.bsv.board = .resetting → ∀ due, s.bsv.resetHold = some due → s.resetBoard.bsv = { s.bsv with
      attempts := 0, resetHold := some (s.now + s.quantities.resetHoldMs * 48000) }) ∧
    (s.bsv.board = .vacant → s.resetBoard.bsv = s.bsv) := by
  refine ⟨fun occupied away => ?_, fun resetting due running => ?_, fun vacant => ?_⟩
  · unfold State.resetBoard
    split
    · next vacant => exact absurd vacant occupied
    · next resetting => exact absurd resetting away
    · rw [State.enterResetting_bsv]
      rfl
  · simp [State.resetBoard, resetting, running, ms, ticksPerMs]
  · simp [State.resetBoard, vacant]

/-! ## The press (R150, R151, R158) -/

/-- A press that the filter has seen acts on edge lines, latch and menu (R150, R151). -/
theorem exec_press {s : State} {held : Nat} {i : PanelInput} {r : Moment} (dt : Nat) (hr : s.cfl.loadEnded = some r)
    (awake : s.cmp.dormant = false) (seen : s.quantities.panelFilterMs * 48000 ≤ min held (s.now + dt - r))
    (up : s.cmp.pressed[panelIndex i] = false) : exec (.press dt held i) s = .next ((s.elapse dt).pressed i).settled := by
  simp [exec, execPress, done_eq, State.panelSeen, State.panelFilter, State.panelSteady, State.steadyFor, State.isPressed, ms, ticksPerMs,
    hr, awake, up, le_min_iff.mp seen]

/-- The lines of a press: parked lines stay, followed ones are driven where the flag is set and the source pressed (R158). -/
theorem State.pressLines_cmp (s : State) (i : PanelInput) :
    (s.pressLines i).cmp = { s.cmp with
      pressed := s.cmp.pressed.set (panelIndex i) true, active := (s.pressLines i).cmp.active } ∧
    (s.cmp.following = false → (s.pressLines i).cmp.active = s.cmp.active) ∧
    (s.cmp.following = true → ∀ map, s.mapTable = some map → ∀ j : Fin 24,
      (s.pressLines i).cmp.active[j] = (map[j].drives && s.cmp.seen[j] && (s.pressLines i).cmp.sourcePressed map[j])) := by
  unfold State.pressLines
  split
  · next map following table =>
    refine ⟨rfl, by simp [following], fun _ m hm j => ?_⟩
    cases table.symm.trans hm
    simp [Mapper.followLines, Mapper.sourcePressed]
  · next none =>
    exact ⟨rfl, fun _ => rfl, fun following m hm => absurd hm (none m following)⟩

end Sys2Proof.Machine
end

section
open Sys2Proof.Machine

/-- Settles O49: a press by `exec_press`; each key by its operation on the touched state. -/
theorem menuKeysAct : Obligations.MenuKeysAct := by
  constructor
  · intro s dt held i r hr awake seen up e u
    obtain ⟨lines, parked, followed⟩ := e.pressLines_cmp i
    refine ⟨exec_press dt hr awake seen up, ?_, parked, followed, ?_, ?_⟩
    · simp only [u, State.setLatch]
      rw [lines]
    · simp [u, e, State.agreesOutside_iff]
    · simp [u, e]
  · intro s i k t
    have hk : s.keyOf i = k := rfl
    clear_value k
    refine ⟨fun opened notSelect notPlain => ?_, fun browse hup => ?_, fun browse hdown => ?_, fun browse closes => ?_,
      fun browse hpick away unready => ?_, fun browse hpick away ready holding unstuck => ?_, fun browse hservice => ?_,
      fun inert => ?_, fun service hpick => ?_, fun service hback => ?_⟩
    · have kept := (s.touched i).menuKey_latch (s.keyOf i)
      rw [← State.menuPress_eq] at kept
      simp [State.latched, t, kept, State.touched, opened, hk, notSelect, notPlain]
    · rw [show t.mnu = _ from State.menuPress_up browse (hk.trans hup)]
      refine ⟨browse, rfl, ?_⟩
      rcases s.listedBelow_spec s.mnu.cursor with ⟨stays, lowest⟩ | ⟨below, listed, nearest⟩
      · exact ⟨.inl stays, fun r hr hlt => absurd hlt (lowest r hr)⟩
      · exact ⟨.inr ⟨below, listed⟩, fun r hr hlt => ⟨nearest r hr hlt, below⟩⟩
    · rw [show t.mnu = _ from State.menuPress_down browse (hk.trans hdown)]
      refine ⟨browse, rfl, ?_⟩
      rcases s.listedAbove_spec s.mnu.cursor with ⟨stays, highest⟩ | ⟨above, listed, nearest⟩
      · exact ⟨.inl stays, fun r hr hlt => absurd hlt (highest r hr)⟩
      · exact ⟨.inr ⟨above, listed⟩, fun r hr hlt => ⟨nearest r hr hlt, above⟩⟩
    · exact State.menuPress_closes browse (hk ▸ closes)
    · rw [show t = _ from State.menuPress_refuses browse (hk.trans hpick) away unready]
      refine ⟨?_, by simp [State.touched]⟩
      rw [State.enterNotice, State.setMenu_mnu, State.timedNotice_mnu, State.touched_mnu_of_browse hk browse (by simp [hpick])]
      rfl
    · rw [show t = _ from State.menuPress_picks browse (hk.trans hpick) away ready]
      obtain ⟨mnu, -, role, number, target, answer⟩ := (s.touched i).enterWait.pick_offers s.mnu.cursor
        (by simpa [State.touched] using holding) (by simpa [State.touched] using unstuck)
      rw [mnu, role, number, target, answer]
      simp [State.enterWait, State.setMenu_mnu, State.touched, answerTime, ms, ticksPerMs]
    · simp only [t, State.menuPress_of_browse hk browse, hservice, State.browseKey, State.enterService, State.setMenu_mnu]
      rw [State.touched_mnu_of_browse hk browse (by simp [hservice])]
    · simp only [t, State.menuPress_of_inert hk inert]
      refine ⟨by simp [State.touched, hk], by simp [State.touched, hk], ?_⟩
      simp [State.agreesOutside_iff, State.touched]
    · rw [show t = (s.touched i).resetBoard by simp only [t, State.menuPress_of_service hk service, hpick, State.serviceKey]]
      exact (s.touched i).resetBoard_bsv
    · rw [show t = (s.touched i).clearFaults.openBrowse by
        simp only [t, State.menuPress_of_service hk service, hback, State.serviceKey]]
      simp [State.openBrowse, State.enterBrowse, State.setMenu_mnu, State.clearFaults, State.touched]

end

section
/-!
SUPPORT. The cabinet line and the engine at every step (O55, O58). `LineKept r s` says that `s`, reached from `r` while the loader stands
still, keeps queues, bid set, silence and role timers wherever `r` has them; for each operation one lemma says that it goes on doing so.
Only LOAD END moves the line out of OFF, and it has lemmas of its own.
-/

namespace Sys2Proof.Machine

/-! ## The transmit queue (R75, R76) -/

theorem Frame.sameSlot_iff (f g : Frame) : f.sameSlot g = true ↔ f.kind = g.kind ∧ f.target = g.target := by
  simp [Frame.sameSlot]

/-- A frame differs in kind or target from `g` if it does so from a frame of the kind and target of `g`. -/
theorem Frame.sameSlot_of_replaced {f g : Frame} (h : g.sameSlot f = true) (k : Frame) :
    f.sameSlot k = g.sameSlot k ∧ k.sameSlot f = k.sameSlot g := by
  obtain ⟨kind, target⟩ := (Frame.sameSlot_iff g f).mp h
  simp only [Frame.sameSlot, kind, target, and_self]

theorem mem_replaceWaiting {f k : Frame} {q : List Frame} (h : k ∈ replaceWaiting f q) :
    k ∈ q ∨ k = f ∧ ∃ g ∈ q, g.sameSlot f = true := by
  induction q with
  | nil => cases h
  | cons g rest ih =>
    unfold replaceWaiting at h
    split at h
    · next same =>
      rcases List.mem_cons.mp h with rfl | h
      · exact .inr ⟨rfl, g, by simp, same⟩
      · exact .inl (by simp [h])
    · rcases List.mem_cons.mp h with rfl | h
      · exact .inl (by simp)
      · rcases ih h with h | ⟨rfl, g', mem, same⟩
        · exact .inl (by simp [h])
        · exact .inr ⟨rfl, g', by simp [mem], same⟩

/-- A replacement leaves frames of different kind or target (R76). -/
theorem replaceWaiting_pairwise (f : Frame) {q : List Frame} (h : q.Pairwise (fun f g => f.sameSlot g = false)) :
    (replaceWaiting f q).Pairwise (fun f g => f.sameSlot g = false) := by
  induction q with
  | nil => exact h
  | cons g rest ih =>
    obtain ⟨head, tail⟩ := List.pairwise_cons.mp h
    unfold replaceWaiting
    split
    · next same =>
      exact List.pairwise_cons.mpr ⟨fun k hk => (Frame.sameSlot_of_replaced same k).1.trans (head k hk), tail⟩
    · next differs =>
      refine List.pairwise_cons.mpr ⟨fun k hk => ?_, ih tail⟩
      rcases mem_replaceWaiting hk with hk | ⟨rfl, -⟩
      · exact head k hk
      · simpa using differs

theorem distinctWaiting_replaceInQueue (f : Frame) {q : List Frame} (h : distinctWaiting q) : distinctWaiting (replaceInQueue f q) := by
  cases q with
  | nil => exact h
  | cons head waiting => exact replaceWaiting_pairwise f h

/-- A frame without a waiting one of its kind and target may wait behind them (R76). -/
theorem distinctWaiting_append {f : Frame} {q : List Frame} (h : distinctWaiting q) (new : waitingMatch f q = false) :
    distinctWaiting (q ++ [f]) := by
  cases q with
  | nil => exact List.Pairwise.nil
  | cons head waiting =>
    have differs : ∀ g ∈ waiting, g.sameSlot f = false := by simpa [waitingMatch] using new
    simp only [distinctWaiting, List.tail_cons] at h
    simpa [distinctWaiting, List.pairwise_append, h] using differs

theorem distinctWaiting_tail {q : List Frame} (h : distinctWaiting q) : distinctWaiting q.tail :=
  List.Pairwise.tail h

/-! ## The line controller -/

/-- The queues of the line controller are within their limits (R75, R76). -/
def LineController.QueuesWithin (l : LineController) : Prop :=
  l.rxq.length ≤ 4 ∧ l.txq.length ≤ 4 ∧ distinctWaiting l.txq

/-- Outside RUNNING nothing is sent or queued, and in OFF nothing is followed (R70). -/
def LineController.Quiet (l : LineController) : Prop :=
  (l.mode ≠ .running → l.sending = none ∧ l.acking = none ∧ l.txq = []) ∧ (l.mode = .off → l.phase = .blind ∧ l.stuck = false)

/-- The line controller goes on in its mode, its queues within their limits and quiet where it was. -/
def LineController.Kept (l k : LineController) : Prop :=
  k.mode = l.mode ∧ (l.QueuesWithin → k.QueuesWithin) ∧ (l.Quiet → k.Quiet)

namespace LineController

variable {l k : LineController}

theorem Kept.refl (l : LineController) : l.Kept l := ⟨rfl, id, id⟩

theorem Kept.trans {m : LineController} (h : l.Kept k) (h' : k.Kept m) : l.Kept m := by
  obtain ⟨mode, queues, quiet⟩ := h
  obtain ⟨mode', queues', quiet'⟩ := h'
  exact ⟨mode'.trans mode, queues' ∘ queues, quiet' ∘ quiet⟩

/-- What the line controller follows, it follows outside OFF (R70). -/
theorem Quiet.not_off (h : l.Quiet) (follows : l.phase ≠ .blind ∨ l.stuck = true) : l.mode ≠ .off := by
  obtain ⟨-, off⟩ := h
  intro mode
  obtain ⟨blind, unstuck⟩ := off mode
  rcases follows with phase | stuck
  · exact phase blind
  · exact absurd (unstuck.symm.trans stuck) (by decide)

/-- The line controller outside OFF with its queue as it was, and sending or acknowledging only where it did. -/
theorem Kept.of_working (mode : k.mode = l.mode) (working : l.Quiet → l.mode ≠ .off) (rxq : l.rxq.length ≤ 4 → k.rxq.length ≤ 4)
    (txq : k.txq = l.txq) (sending : l.sending = none → k.sending = none) (acking : l.acking = none → k.acking = none) : l.Kept k := by
  refine ⟨mode, fun ⟨received, queued, distinct⟩ => ⟨rxq received, txq ▸ queued, txq ▸ distinct⟩, fun quiet => ⟨fun idle => ?_, fun off => ?_⟩⟩
  · obtain ⟨silent, -⟩ := quiet
    obtain ⟨hs, ha, hq⟩ := silent (mode ▸ idle)
    exact ⟨sending hs, acking ha, txq.trans hq⟩
  · exact absurd (mode.symm.trans off) (working quiet)

/-- In RUNNING the line controller may do anything that keeps the queues. -/
theorem Kept.of_running (running : l.mode = .running) (mode : k.mode = l.mode) (queues : l.QueuesWithin → k.QueuesWithin) : l.Kept k :=
  have hk : k.mode = .running := mode.trans running
  ⟨mode, queues, fun _ => ⟨fun h => absurd hk h, fun h => absurd (hk.symm.trans h) (by decide)⟩⟩

theorem beginFrame_kept (l : LineController) (now : Moment) (running : l.mode = .running) : l.Kept (l.beginFrame now) :=
  .of_running running rfl id

theorem beginIfReady_kept (l : LineController) (now : Moment) : l.Kept (l.beginIfReady now) := by
  unfold beginIfReady
  split
  · next running _ =>
    split
    · exact .refl l
    · exact l.beginFrame_kept now running
  · exact .refl l

theorem dropHead_kept (l : LineController) : l.Kept l.dropHead := by
  refine ⟨rfl, fun ⟨received, queued, distinct⟩ => ⟨received, ?_, distinctWaiting_tail distinct⟩, fun ⟨silent, off⟩ => ⟨fun mode => ?_, off⟩⟩
  · exact (List.tail_sublist _).length_le.trans queued
  · obtain ⟨sending, acking, empty⟩ := silent mode
    exact ⟨sending, acking, by simp [dropHead, empty]⟩

/-- An enqueue adds or replaces a frame in RUNNING, and refuses it elsewhere (R70, R76). -/
theorem enqueue_kept (l : LineController) (now : Moment) (f : Frame) : l.Kept (l.enqueue now f) := by
  unfold enqueue
  split
  · next accepted =>
    obtain ⟨running, -, new, room⟩ := l.answerTo_accepted f accepted
    have joined : l.Kept { l with txq := l.txq ++ [f], attempts := if l.txq.isEmpty then 0 else l.attempts } := by
      refine .of_running running rfl ?_
      rintro ⟨received, -, distinct⟩
      exact ⟨received, by simpa [queueLimit] using room, distinctWaiting_append distinct new⟩
    exact joined.trans (beginIfReady_kept _ now)
  · next replaced =>
    have running : l.mode = .running := by
      unfold answerTo at replaced
      split at replaced
      · cases replaced
      · cases replaced
      · assumption
    refine .of_running running rfl ?_
    rintro ⟨received, queued, distinct⟩
    exact ⟨received, by simpa using queued, distinctWaiting_replaceInQueue f distinct⟩
  · exact .refl l
  · exact .refl l

/-- The queue emptied. -/
theorem emptied_kept (l : LineController) : l.Kept { l with txq := [], attempts := 0 } := by
  refine ⟨rfl, fun ⟨received, _, _⟩ => ⟨received, Nat.zero_le _, List.Pairwise.nil⟩, fun ⟨silent, off⟩ => ⟨fun mode => ?_, off⟩⟩
  obtain ⟨sending, acking, -⟩ := silent mode
  exact ⟨sending, acking, rfl⟩

theorem stopSending_kept (l : LineController) (start : Moment) (chars : List Byte) (k i : Nat) (level : Level)
    (working : l.Quiet → l.mode ≠ .off) : l.Kept (l.stopSending start chars k i level) :=
  .of_working rfl working id rfl (fun _ => rfl) id

@[simp] theorem releaseHeld_length (q : List RxEntry) : (releaseHeld q).length = q.length := List.length_map ..

theorem frameEnd_kept (l : LineController) (now : Moment) (working : l.Quiet → l.mode ≠ .off) : l.Kept (l.frameEnd now) :=
  .of_working rfl working (by simp [frameEnd]) rfl (fun _ => rfl) (fun _ => rfl)

theorem stick_kept (l : LineController) (now : Moment) (working : l.Quiet → l.mode ≠ .off) : l.Kept (l.stick now) :=
  .of_working rfl working (by simp [stick]) rfl (fun _ => rfl) (fun _ => rfl)

/-- A fall begins a frame in RUNNING alone, and is followed only outside OFF (R63). -/
theorem fall_kept (l : LineController) (now : Moment) (middle : Level) (more : List Bool) (working : l.mode ≠ .off) :
    l.Kept (l.fall now middle more) := by
  have hear : l.Kept (l.hear now middle) := by
    cases middle <;> exact .of_working rfl (fun _ => working) id rfl id id
  unfold fall
  split
  · unfold fallOnIdle
    split
    · next running _ => exact l.beginFrame_kept now running
    · exact hear
  · exact hear
  · exact .of_working rfl (fun _ => working) id rfl id id
  · unfold fallInFrame
    split
    · exact .refl l
    · exact .of_working rfl (fun _ => working) id rfl id id
  · exact .refl l
  · exact .refl l

/-- The MUTE command leaves RUNNING and no other mode. -/
theorem muteCommand_mode (l : LineController) (h : l.mode ≠ .off) : l.muteCommand.mode = .mute := by
  unfold muteCommand
  split
  · rfl
  · next off => exact absurd off h
  · assumption

end LineController

/-! ## The engine -/

/-- Each rank at most once in the bid set, which is empty outside BIDDING (R104). -/
def Spe.BidSetDistinct (e : Spe) : Prop :=
  e.bidSet.Nodup ∧ (e.role ≠ .bidding → e.bidSet = [])

/-- Each timer of the engine runs in its role (R99, R104, R107, R115). -/
def Spe.TimersInRole (e : Spe) : Prop :=
  (e.joinWindow.isSome = true → e.role = .startup) ∧ (e.bidWindow.isSome = true → e.role = .bidding) ∧
  (e.seatWait.isSome = true → e.role = .standby) ∧ (e.answerTimer.isSome = true → e.role = .offering) ∧
  (e.coinQuiet.isSome = true → e.role = .passing) ∧ (e.passTimer.isSome = true → e.role = .accepted)

/-- The engine goes on in its role, its bid set distinct and its timers in their roles where they were, and no join window started. -/
def Spe.Kept (e d : Spe) : Prop :=
  d.role = e.role ∧ (e.BidSetDistinct → d.BidSetDistinct) ∧ (e.TimersInRole → d.TimersInRole) ∧
  (e.joinWindow = none → d.joinWindow = none)

theorem Spe.Kept.refl (e : Spe) : e.Kept e := ⟨rfl, id, id, id⟩

/-- A refused request is recorded and nothing else moves (R98). -/
theorem Spe.recordRequest_kept (e : Spe) (q : PendingRequest) : e.Kept (e.recordRequest q) := by
  unfold recordRequest
  split
  · exact .refl e
  · exact ⟨rfl, id, id, id⟩

/-- A role entered has only its own timers running (R98). -/
theorem Spe.enterRole_timers (e : Spe) (role : Role) : (e.enterRole role).TimersInRole := by
  simp only [Spe.TimersInRole, Spe.enterRole]
  refine ⟨?_, ?_, ?_, ?_, ?_, ?_⟩
  all_goals
    split
    · exact fun _ => ‹_›
    · exact nofun

/-- BIDDING alone keeps a bid set (R104). -/
theorem Spe.enterRole_bidSet (e : Spe) (role : Role) (h : e.BidSetDistinct) : (e.enterRole role).BidSetDistinct := by
  obtain ⟨distinct, -⟩ := h
  simp only [Spe.BidSetDistinct, Spe.enterRole]
  split
  · next bidding => exact ⟨distinct, fun other => absurd bidding other⟩
  · exact ⟨List.nodup_nil, fun _ => rfl⟩

theorem joinBidSet_nodup {set : List Rank} (r : Rank) (h : set.Nodup) : (joinBidSet set r).Nodup := by
  unfold joinBidSet
  split
  · exact h
  · next absent =>
    have apart : ∀ k ∈ set, ¬k = r := fun k mem same => absent (same ▸ mem)
    simpa [List.nodup_append, h] using apart

/-! ## The relation -/

/-- The part of O58 that does not speak of the loader: a WITHDRAWN node is muted, nothing is sent or queued outside RUNNING, in OFF the
role is STARTUP without a join window, and the timers are in their roles (R70, R99, R101). -/
def State.Silent (s : State) : Prop :=
  (s.spe.role = .withdrawn → s.lct.mode = .mute) ∧ s.lct.Quiet ∧
  (s.lct.mode = .off → s.spe.role = .startup ∧ s.spe.joinWindow = none) ∧ s.spe.TimersInRole

/-- From `r` to `s` queues and bid set go on within their laws; the loader stands still; and where `r` is silent `s` is, OFF where `r`
is. -/
def State.LineKept (r s : State) : Prop :=
  (r.lct.QueuesWithin → s.lct.QueuesWithin) ∧ (r.spe.BidSetDistinct → s.spe.BidSetDistinct) ∧
  (s.cfl.load = r.cfl.load ∧ s.cfl.pause = r.cfl.pause) ∧
  (r.Silent → s.Silent ∧ (s.lct.mode = .off ↔ r.lct.mode = .off))

namespace State.Silent

variable {s : State}

/-- Any role but STARTUP is one outside OFF (R70). -/
theorem working (h : s.Silent) (role : s.spe.role ≠ .startup) : s.lct.mode ≠ .off := by
  obtain ⟨-, -, off, -⟩ := h
  exact fun mode => role (off mode).1

/-- So is a join window that runs (R99). -/
theorem working_of_joinWindow (h : s.Silent) (runs : s.spe.joinWindow.isSome = true) : s.lct.mode ≠ .off := by
  obtain ⟨-, -, off, -⟩ := h
  exact fun mode => by simp [(off mode).2] at runs

theorem quiet (h : s.Silent) : s.lct.Quiet := by
  obtain ⟨-, quiet, -⟩ := h
  exact quiet

end State.Silent

namespace State.LineKept

variable {r s t : State}

theorem refl (s : State) : s.LineKept s := ⟨id, id, ⟨rfl, rfl⟩, fun h => ⟨h, Iff.rfl⟩⟩

theorem trans (h : r.LineKept s) (h' : s.LineKept t) : r.LineKept t := by
  obtain ⟨queues, bidSet, ⟨load, pause⟩, silent⟩ := h
  obtain ⟨queues', bidSet', ⟨load', pause'⟩, silent'⟩ := h'
  refine ⟨queues' ∘ queues, bidSet' ∘ bidSet, ⟨load'.trans load, pause'.trans pause⟩, fun hr => ?_⟩
  obtain ⟨hs, off⟩ := silent hr
  obtain ⟨ht, off'⟩ := silent' hs
  exact ⟨ht, off'.trans off⟩

/-- What leaves line controller, engine and loader as they are keeps all. -/
theorem frame (h : r.LineKept s) (h' : t.lct = s.lct ∧ t.spe = s.spe ∧ t.cfl.load = s.cfl.load ∧ t.cfl.pause = s.cfl.pause) :
    r.LineKept t := by
  obtain ⟨lct, spe, load, pause⟩ := h'
  simpa only [State.LineKept, State.Silent, lct, spe, load, pause] using h

theorem elapse (h : r.LineKept s) (n : Nat) : r.LineKept (s.elapse n) := h
theorem advanceTo (h : r.LineKept s) (m : Moment) : r.LineKept (s.advanceTo m) := h

theorem ite {p : Prop} [Decidable p] (ht : r.LineKept t) (hs : r.LineKept s) : r.LineKept (if p then t else s) := by
  split
  · exact ht
  · exact hs

theorem onExpiry (h : r.LineKept s) (timer : Timer) {act : State → State}
    (hact : ∀ due, timer = some due → r.LineKept (act (s.advanceTo due))) : r.LineKept (s.onExpiry timer act) := by
  cases timer with
  | none => exact h
  | some due => exact hact due rfl

/-- A line controller that goes on as it was takes the place of it. -/
theorem withLine (h : r.LineKept s) {l : LineController} (hl : s.lct.Kept l) : r.LineKept (s.withLine l) := by
  obtain ⟨mode, queues, quiet⟩ := hl
  refine h.trans ⟨queues, id, ⟨rfl, rfl⟩, fun ⟨withdrawn, hq, off, timers⟩ => ⟨⟨?_, quiet hq, ?_, timers⟩, ?_⟩⟩
  · exact fun role => mode.trans (withdrawn role)
  · exact fun hoff => off (mode.symm.trans hoff)
  · exact ⟨fun hoff => mode.symm.trans hoff, fun hoff => mode.trans hoff⟩

/-- An engine that goes on as it was takes the place of it. -/
theorem withSpe (h : r.LineKept s) {e : Spe} (he : s.spe.Kept e := by exact ⟨rfl, id, id, id⟩) : r.LineKept { s with spe := e } := by
  obtain ⟨role, bidSet, timers, join⟩ := he
  refine h.trans ⟨id, bidSet, ⟨rfl, rfl⟩, fun ⟨withdrawn, quiet, off, ht⟩ => ⟨⟨?_, quiet, fun mode => ?_, timers ht⟩, Iff.rfl⟩⟩
  · exact fun hw => withdrawn (role.symm.trans hw)
  · obtain ⟨startup, window⟩ := off mode
    exact ⟨role.trans startup, join window⟩

/-! ## Roles (R96, R101) -/

/-- Where `r` is silent, `s` is. -/
theorem silent (h : r.LineKept s) (hr : r.Silent) : s.Silent := by
  obtain ⟨-, -, -, silent⟩ := h
  exact (silent hr).1

/-- Where `r` is silent and not OFF, `s` is not OFF. -/
theorem working (h : r.LineKept s) (hr : r.Silent) (on : r.lct.mode ≠ .off) : s.lct.mode ≠ .off := by
  obtain ⟨-, -, -, silent⟩ := h
  exact fun off => on ((silent hr).2.mp off)

/-- A role entered by a node whose line is not OFF; WITHDRAWN by one that is muted. -/
theorem changeRole (h : r.LineKept s) (role : Role) (working : r.Silent → s.lct.mode ≠ .off)
    (muted : role = .withdrawn → r.Silent → s.lct.mode = .mute) : r.LineKept (s.setRole role) := by
  unfold State.setRole
  split
  · exact h
  · have kept := h
    obtain ⟨queues, bidSet, loader, silent⟩ := kept
    have entered : r.LineKept { s with spe := s.spe.enterRole role } := by
      refine ⟨queues, fun hr => s.spe.enterRole_bidSet role (bidSet hr), loader, fun hr => ?_⟩
      obtain ⟨hs, off⟩ := silent hr
      exact ⟨⟨fun hw => muted hw hr, hs.quiet, fun mode => absurd mode (working hr), s.spe.enterRole_timers role⟩, off⟩
    exact entered.frame (by simp)

/-- Of the roles but STARTUP each may be left for any but WITHDRAWN. -/
theorem setRole (h : r.LineKept s) {role : Role} (away : s.spe.role ≠ .startup) (other : role ≠ .withdrawn := by decide) :
    r.LineKept (s.setRole role) :=
  h.changeRole role (fun hr => (h.silent hr).working away) (fun withdrawn => absurd withdrawn other)

theorem setView (h : r.LineKept s) (view : Option Rank) : r.LineKept (s.setView view) :=
  (h.withSpe (e := { s.spe with view := view })).frame (by simp)

/-! ## Reports (R89) -/

theorem offerFails (h : r.LineKept s) (reason : Notice) (working : r.Silent → s.lct.mode ≠ .off) : r.LineKept (s.offerFails reason) :=
  (h.changeRole .holding working nofun).frame (by simp [State.offerFails])

theorem passFails (h : r.LineKept s) : r.LineKept s.passFails := by
  refine (h.withSpe (e := { s.spe with
    coinQuiet := none, quietCap := none, passIssued := false, frozen := none, target := none
    requests := s.spe.requests.filter (fun r => r.kind != FrameKind.pass) }) ⟨rfl, id, ?_, id⟩).frame (by simp [State.passFails])
  rintro ⟨join, bid, seat, answer, -, pass⟩
  exact ⟨join, bid, seat, answer, nofun, pass⟩

theorem handoverFails (h : r.LineKept s) (reason : Notice) (away : s.spe.role ≠ .startup) : r.LineKept (s.handoverFails reason) :=
  h.passFails.offerFails reason (fun hr => (h.passFails.silent hr).working (by simpa [State.passFails] using away))

theorem handoverCompletes (h : r.LineKept s) (k : Rank) (away : s.spe.role ≠ .startup) : r.LineKept (s.handoverCompletes k) :=
  ((h.withSpe (e := { s.spe with view := some k })).setRole (role := .standby) away).frame (by simp [State.handoverCompletes])

theorem recoveryReport (h : r.LineKept s) (f : Frame) : r.LineKept (s.recoveryReport f) := by
  unfold State.recoveryReport
  split
  · exact ite h.withSpe h
  · exact h

theorem roleReport (h : r.LineKept s) (rep : Report) (f : Frame) : r.LineKept (s.roleReport rep f) := by
  unfold State.roleReport
  split
  · next bidding _ =>
    refine h.withSpe ⟨rfl, id, ?_, id⟩
    rintro ⟨join, -, timers⟩
    exact ⟨join, fun _ => bidding, timers⟩
  · next offering _ => exact ite (h.offerFails _ (fun hr => (h.silent hr).working (by simp [offering]))) h
  · next passing _ =>
    have away : s.spe.role ≠ .startup := by simp [passing]
    split
    · split
      · split
        · exact h.handoverCompletes _ away
        · exact h.handoverFails _ away
        · exact h
      · exact h
    · exact h
  · next accepted _ =>
    split
    · refine ite (h.withSpe ⟨rfl, id, ?_, id⟩) h
      rintro ⟨join, bid, seat, answer, quiet, -⟩
      exact ⟨join, bid, seat, answer, quiet, fun _ => accepted⟩
    · exact h
  · exact h

theorem report (h : r.LineKept s) (rep : Report) (f : Frame) : r.LineKept (s.report rep f) := by
  refine roleReport (recoveryReport ?_ f) rep f
  exact h.frame (by simp)

/-! ## Sending (R76, R98) -/

theorem tryEnqueue (h : r.LineKept s) (q : PendingRequest) : r.LineKept (s.tryEnqueue q) := by
  simp only [State.tryEnqueue]
  split
  · exact h.report _ _
  · exact h.withLine (s.lct.enqueue_kept s.now _)

theorem send (h : r.LineKept s) (q : PendingRequest) : r.LineKept (s.send q) := by
  unfold State.send
  split
  · exact h.withSpe (s.spe.recordRequest_kept q)
  · exact h.tryEnqueue q

theorem drainRequests (h : r.LineKept s) (qs : List PendingRequest) : r.LineKept (s.drainRequests qs) := by
  induction qs generalizing s with
  | nil => exact h
  | cons q rest ih =>
    unfold State.drainRequests
    split
    · split
      · exact h
      · exact ih ((h.withSpe (e := s.spe.clearRequest q)).tryEnqueue q)
    · exact ih h

theorem space (h : r.LineKept s) : r.LineKept s.space := h.drainRequests _

theorem reportHead (h : r.LineKept s) (rep : Report) : r.LineKept (s.reportHead rep) := by
  simp only [State.reportHead]
  split
  · exact h
  · next f _ _ =>
    have reported := (h.withLine s.lct.dropHead_kept).report rep f
    exact ite reported.space reported

theorem reportAll (h : r.LineKept s) (q : List Frame) : r.LineKept (s.reportAll q) := by
  induction q generalizing s with
  | nil => exact h
  | cons f rest ih => exact ih (h.report _ f)

end State.LineKept

end Sys2Proof.Machine
end

section
/-!
SUPPORT. Which role a report leaves (R89): only the OFFER in OFFERING and the PASS in PASSING end one.
-/

namespace Sys2Proof.Machine

theorem State.roleReport_role (s : State) (rep : Report) (f : Frame) (offering : s.spe.role ≠ .offering) (passing : s.spe.role ≠ .passing) :
    (s.roleReport rep f).spe.role = s.spe.role := by
  unfold State.roleReport
  split
  · rfl
  · next role _ => exact absurd role offering
  · next role _ => exact absurd role passing
  · split
    · split <;> rfl
    · rfl
  · rfl

@[simp] theorem State.recoveryReport_role (s : State) (f : Frame) : (s.recoveryReport f).spe.role = s.spe.role := by
  unfold State.recoveryReport
  split
  · split <;> rfl
  · rfl

theorem State.report_role (s : State) (rep : Report) (f : Frame) (offering : s.spe.role ≠ .offering) (passing : s.spe.role ≠ .passing) :
    (s.report rep f).spe.role = s.spe.role := by
  rw [State.report, State.roleReport_role] <;> simp [offering, passing]

theorem State.send_role (s : State) (q : PendingRequest) (offering : s.spe.role ≠ .offering) (passing : s.spe.role ≠ .passing) :
    (s.send q).spe.role = s.spe.role := by
  unfold State.send State.tryEnqueue
  split
  · simp
  · split
    · exact s.report_role _ _ offering passing
    · rfl

/-- A HELLO reported at once ends no role (R80, R89). -/
@[simp] theorem State.sendHello_role (s : State) (reply : Bool) : (s.sendHello reply).spe.role = s.spe.role := by
  unfold State.sendHello State.send State.tryEnqueue
  split
  · simp
  · split
    · rw [State.report, State.roleReport_of_hello _ _ rfl]
      simp
    · rfl

end Sys2Proof.Machine
end

section
/-!
SUPPORT. The cabinet line and the engine at every step (O55, O58), second part: bidding, claims, releases and withdrawal at the
engine.
-/

namespace Sys2Proof.Machine

-- One after another: side by side the threads of these many lemmas take more memory than a check has.
set_option Elab.async false

/-- The bid set a node begins with: its own rank and that of the BID it joins (R104). -/
def bidders (own : Rank) : Option Rank → List Rank
  | some r => joinBidSet [own] r
  | none => [own]

theorem bidders_nodup (own : Rank) (joined : Option Rank) : (bidders own joined).Nodup := by
  cases joined with
  | none => exact List.nodup_singleton _
  | some r => exact joinBidSet_nodup r (List.nodup_singleton _)

/-- The state in BIDDING, before the BID is sent (R104). -/
def State.bidEntered (s : State) (joined : Option Rank) : State :=
  let u := { s with spe := { s.spe with view := none } }.setRole .bidding
  { u with spe := { u.spe with bidSet := bidders s.rank joined } }

theorem State.beginBid_eq (s : State) (joined : Option Rank) :
    s.beginBid joined = { (s.bidEntered joined).send bidRequest with
      spe := { ((s.bidEntered joined).send bidRequest).spe with bidWindow := some (s.now + bidWindowTime) } } := by
  cases joined <;> simp [State.beginBid, State.bidEntered, bidders]

namespace State.LineKept

variable {r s t : State}

/-! ## Bidding, claims and withdrawal (R101 to R109) -/

theorem beginBid (h : r.LineKept s) (joined : Option Rank) (away : s.spe.role ≠ .startup) : r.LineKept (s.beginBid joined) := by
  have bidding : (s.bidEntered joined).spe.role = .bidding := by simp [State.bidEntered]
  have entered : r.LineKept (s.bidEntered joined) :=
    ((h.withSpe (e := { s.spe with view := none })).setRole (role := .bidding) away).withSpe
      ⟨rfl, fun _ => ⟨bidders_nodup _ joined, fun other => absurd bidding other⟩, id, id⟩
  rw [State.beginBid_eq]
  refine (entered.send bidRequest).withSpe ⟨rfl, id, ?_, id⟩
  rintro ⟨join, -, timers⟩
  exact ⟨join, fun _ => by rw [State.send_role] <;> simp [bidding], timers⟩

theorem bidCheck (h : r.LineKept s) : r.LineKept s.bidCheck := by
  unfold State.bidCheck
  split
  · next passes =>
    refine h.beginBid none ?_
    rintro startup
    simp [State.bidCheckPasses, startup] at passes
  · exact h

theorem yieldTo (h : r.LineKept s) (k : Rank) (away : s.spe.role ≠ .startup) : r.LineKept (s.yieldTo k) :=
  (h.withSpe (e := { s.spe with view := some k })).setRole away

/-- The seat wait stops. -/
theorem stopSeatWait (h : r.LineKept s) : r.LineKept { s with spe := { s.spe with seatWait := none } } := by
  refine h.withSpe ⟨rfl, id, ?_, id⟩
  rintro ⟨join, bid, -, timers⟩
  exact ⟨join, bid, nofun, timers⟩

theorem claim (h : r.LineKept s) (k : Rank) : r.LineKept (s.claim k) := by
  unfold State.claim
  split
  · exact h.setView _
  · exact h.stopSeatWait.setView _
  · next role => exact (h.withSpe (e := { s.spe with view := some k })).setRole (by simp [role])
  · next role => exact ite (h.yieldTo k (by simp [role])) (h.send _)
  · next role => exact ite (h.yieldTo k (by simp [role])) (h.send _)
  all_goals exact h

theorem release (h : r.LineKept s) (k : Rank) : r.LineKept (s.release k) := by
  unfold State.release
  split
  · split
    · exact h.setView none
    · exact (h.setView none).bidCheck
    · exact h
  · exact h

theorem bidHeard (h : r.LineKept s) (k : Rank) : r.LineKept (s.bidHeard k) := by
  unfold State.bidHeard
  split
  · next standby => exact ite (h.beginBid _ (by simp [standby])) h
  · next bidding =>
    refine h.withSpe ⟨rfl, fun ⟨distinct, _⟩ => ⟨joinBidSet_nodup k distinct, fun other => absurd bidding other⟩, ?_, id⟩
    rintro ⟨join, -, timers⟩
    exact ⟨join, fun _ => bidding, timers⟩
  · exact h.send _
  · exact h.send _
  all_goals exact h

theorem speBusSilent (h : r.LineKept s) : r.LineKept s.speBusSilent := by
  unfold State.speBusSilent
  split
  · exact h.setView none
  · exact (h.setView none).bidCheck
  · exact h

theorem contention (h : r.LineKept s) : r.LineKept s.contention := by
  unfold State.contention
  split
  · exact h.send _
  · exact h.send _
  · exact h

/-- The MUTE command empties the queue it silences (R70). -/
theorem muteCommand (h : r.LineKept s) : r.LineKept (s.withLine s.lct.muteCommand) := by
  unfold LineController.muteCommand
  split
  · next running =>
    refine h.trans ⟨fun ⟨received, _, _⟩ => ⟨received, Nat.zero_le _, List.Pairwise.nil⟩, id, ⟨rfl, rfl⟩, ?_⟩
    rintro ⟨withdrawn, -, -, timers⟩
    refine ⟨⟨fun _ => rfl, ⟨fun _ => ⟨rfl, rfl, rfl⟩, nofun⟩, nofun, timers⟩, ?_⟩
    simp [running, LineController.mute]
  · exact h
  · exact h

theorem withdraw (h : r.LineKept s) (reason : WithdrawalReason) (working : r.Silent → s.lct.mode ≠ .off) :
    r.LineKept (s.withdraw reason) := by
  unfold State.withdraw
  split
  · exact h
  · have stopped : r.LineKept { s with
        lct := s.lct.muteCommand
        spe := { s.spe with
          withdrawal := some reason, joinWindow := none, bidWindow := none, seatWait := none, bidSet := [], requests := [] } } := by
      refine h.muteCommand.withSpe ⟨rfl, fun _ => ⟨List.nodup_nil, fun _ => rfl⟩, ?_, fun _ => rfl⟩
      rintro ⟨-, -, -, timers⟩
      exact ⟨nofun, nofun, nofun, timers⟩
    have mute (hr : r.Silent) : s.lct.muteCommand.mode = .mute := s.lct.muteCommand_mode (working hr)
    exact stopped.changeRole .withdrawn (fun hr off => absurd ((mute hr).symm.trans off) (by decide)) (fun _ hr => mute hr)

end State.LineKept

end Sys2Proof.Machine
end

section
/-!
SUPPORT. The commands keep line and engine (O55, O58): what board, bus, cabinet line, receive queue, coins and panel bring about.
-/

namespace Sys2Proof.Machine

-- One after another: side by side the threads of these many lemmas take more memory than a check has.
set_option Elab.async false

/-- A frame is taken only while the receive queue has room (R72, R75). -/
theorem LineController.room_of_taken {l : LineController} {rank sender : Rank} {read : List Bool} {chars : List Byte} {gap : Bool}
    {f : Frame} (h : l.judge rank read chars gap = .taken sender f) : l.rxq.length < 4 := by
  by_contra full
  have full : queueLimit ≤ l.rxq.length := by simpa [queueLimit] using full
  simp only [LineController.judge, judgeContents, full, if_true] at h
  repeat' split at h
  all_goals cases h

namespace State.LineKept

variable {r s t : State}

theorem speRankClash (h : r.LineKept s) (working : r.Silent → s.lct.mode ≠ .off) : r.LineKept s.speRankClash := by
  unfold State.speRankClash
  split
  · exact h.passFails.withdraw _ (fun hr => (refl s).passFails.working (h.silent hr) (working hr))
  · exact h.withdraw _ working

/-! ## HELLO (R90 to R92, R99) -/

theorem sendHello (h : r.LineKept s) (reply : Bool) : r.LineKept (s.sendHello reply) :=
  (h.withSpe (e := { s.spe with firstHello := true })).send _

/-- The join window starts in STARTUP, in RUNNING or MUTE (R99). -/
theorem speRunning (h : r.LineKept s) (startup : s.spe.role = .startup) (working : r.Silent → s.lct.mode ≠ .off) :
    r.LineKept s.speRunning := by
  have sent := h.sendHello true
  have on (hr : r.Silent) : (s.sendHello true).lct.mode ≠ .off := ((refl s).sendHello true).working (h.silent hr) (working hr)
  obtain ⟨queues, bidSet, loader, silent⟩ := sent
  refine ⟨queues, bidSet, loader, fun hr => ?_⟩
  obtain ⟨⟨withdrawn, quiet, -, -, timers⟩, off⟩ := silent hr
  exact ⟨⟨withdrawn, quiet, fun mode => absurd mode (on hr), fun _ => (s.sendHello_role true).trans startup, timers⟩, off⟩

theorem speBoard (h : r.LineKept s) (board : BoardState) : r.LineKept (s.speBoard board) := by
  have announced : r.LineKept (if s.spe.firstHello ∧ s.spe.role ≠ .withdrawn then s.sendHello false else s) :=
    ite (h.sendHello false) h
  simp only [State.speBoard]
  split
  · exact announced.bidCheck
  · exact announced

/-! ## The handover (R116 to R133) -/

theorem pick (h : r.LineKept s) (k : Rank) : r.LineKept (s.pick k) := by
  simp only [State.pick]
  split
  · next holding =>
    split
    · exact h.frame (by simp)
    · next unstuck =>
      have offering := (h.withSpe (e := { s.spe with number := s.spe.number + 1, target := some k })).setRole (role := .offering)
        (by simp [holding])
      obtain ⟨-, -, role, -⟩ := s.pick_offers k holding (by simpa using unstuck)
      refine (offering.send (offerRequest k)).withSpe ⟨rfl, id, ?_, id⟩
      rintro ⟨join, bid, seat, -, timers⟩
      exact ⟨join, bid, seat, fun _ => by simpa [State.pick, holding, unstuck] using role, timers⟩
  · exact h

theorem answerOffer (h : r.LineKept s) (k : Rank) (n : HandoverNumber) (yes : Bool) (reason : AnswerReason) :
    r.LineKept (s.answerOffer k n yes reason) :=
  (h.withSpe (e := { s.spe with answers := s.spe.answers.set k (some { number := n, yes := yes, reason := reason }) })).send _

/-- The pass timer starts in ACCEPTED. -/
theorem startPassTimer (h : r.LineKept s) (accepted : s.spe.role = .accepted) (key : Option OfferKey) :
    r.LineKept { s with spe := { s.spe with accepted := key, passTimer := s.after passTime } } := by
  refine h.withSpe ⟨rfl, id, ?_, id⟩
  rintro ⟨join, bid, seat, answer, quiet, -⟩
  exact ⟨join, bid, seat, answer, quiet, fun _ => accepted⟩

theorem enterAccepted (h : r.LineKept s) (k : Rank) (n : HandoverNumber) (away : s.spe.role ≠ .startup) :
    r.LineKept (s.enterAccepted k n) := by
  have named : r.LineKept { s with spe := { s.spe with view := some k, seatWait := none } } :=
    h.stopSeatWait.withSpe (e := { s.spe with view := some k, seatWait := none })
  exact startPassTimer (named.setRole away) (State.setRole_role ..) _

theorem offerHeard (h : r.LineKept s) (k : Rank) (n : HandoverNumber) : r.LineKept (s.offerHeard k n) := by
  unfold State.offerHeard
  split
  · exact h
  · next accepted => exact ite ((h.startPassTimer accepted s.spe.accepted).answerOffer _ _ _ _) (h.answerOffer _ _ _ _)
  · next standby =>
    exact ite (h.answerOffer _ _ _ _) (ite (h.answerOffer _ _ _ _) (ite (h.answerOffer _ _ _ _)
      ((h.enterAccepted k n (by simp [standby])).answerOffer _ _ _ _)))
  all_goals exact h.answerOffer _ _ _ _

theorem enterPassing (h : r.LineKept s) (away : s.spe.role ≠ .startup) : r.LineKept s.enterPassing := by
  refine (h.setRole (role := .passing) away).withSpe ⟨rfl, id, ?_, id⟩
  rintro ⟨join, bid, seat, answer, -, pass⟩
  exact ⟨join, bid, seat, answer, fun _ => State.setRole_role .., pass⟩

theorem answerHeard (h : r.LineKept s) (k : Rank) (n : HandoverNumber) (yes : Bool) (reason : AnswerReason) :
    r.LineKept (s.answerHeard k n yes reason) := by
  unfold State.answerHeard
  split
  · next offering =>
    have away : s.spe.role ≠ .startup := by simp [offering]
    exact ite (ite (h.enterPassing away) (h.offerFails _ fun hr => (h.silent hr).working away)) h
  · exact h

theorem passHeard (h : r.LineKept s) (k : Rank) (n : HandoverNumber) (c1 c2 : Nat) : r.LineKept (s.passHeard k n c1 c2) := by
  unfold State.passHeard
  split
  · next accepted =>
    refine ite ?_ h
    have seated := (h.withSpe (e := { s.spe with
      view := some s.rank, lastPass := some { sender := k, number := n }, accepted := none })).setRole (role := .holding)
      (by simp [accepted])
    exact (seated.frame (by simp) : r.LineKept (State.coinSeated _ c1 c2)).send _
  · exact h

theorem coinHeard (h : r.LineKept s) : r.LineKept s.coinHeard := by
  unfold State.coinHeard
  split
  · next passing _ =>
    refine ite h (h.withSpe ⟨rfl, id, ?_, id⟩)
    rintro ⟨join, bid, seat, answer, -, pass⟩
    exact ⟨join, bid, seat, answer, fun _ => passing, pass⟩
  · exact h

theorem issuePass (h : r.LineKept s) : r.LineKept s.issuePass := by
  have frozen : r.LineKept { s.coinFreeze with spe := { s.spe with
      coinQuiet := none, frozen := some s.cnu.carriedCounts, passIssued := true } } := by
    refine (h.frame (by simp) : r.LineKept s.coinFreeze).withSpe ⟨rfl, id, ?_, id⟩
    rintro ⟨join, bid, seat, answer, -, pass⟩
    exact ⟨join, bid, seat, answer, nofun, pass⟩
  simp only [State.issuePass]
  split
  · exact frozen.send _
  · exact frozen

theorem leaveAccepted (h : r.LineKept s) (working : r.Silent → s.lct.mode ≠ .off) : r.LineKept s.leaveAccepted :=
  (h.withSpe (e := { s.spe with view := s.viewFromBus })).changeRole .standby working nofun

/-! ## A stuck line (R112, R113, R133) -/

theorem speLineStuck (h : r.LineKept s) : r.LineKept s.speLineStuck := by
  have recovering := h.withSpe (e := { s.spe with recovering := true, recoveryHello := false })
  simp only [State.speLineStuck]
  split
  · exact h
  · split
    · next bidding =>
      exact (recovering.withSpe (e := { s.spe with recovering := true, recoveryHello := false, view := none })).setRole
        (role := .standby) (by simp [bidding])
    · next offering => exact recovering.offerFails _ (fun hr => (h.silent hr).working (by simp [offering]))
    · next passing => exact recovering.handoverFails _ (by simp [passing])
    · next accepted => exact recovering.leaveAccepted (fun hr => (h.silent hr).working (by simp [accepted]))
    · exact recovering

theorem speLineClear (h : r.LineKept s) : r.LineKept s.speLineClear := by
  unfold State.speLineClear
  split
  · exact h
  · exact ((h.withSpe (e := { s.spe with recoveryHello := true })).sendHello true).bidCheck

/-! ## The engine's timers (R100, R106, R107) -/

theorem joinExpires (h : r.LineKept s) (runs : s.spe.joinWindow.isSome = true) : r.LineKept s.joinExpires :=
  (h.changeRole .standby (fun hr => (h.silent hr).working_of_joinWindow runs) nofun).bidCheck

theorem bidExpires (h : r.LineKept s) (working : r.Silent → s.lct.mode ≠ .off) : r.LineKept s.bidExpires := by
  have seated := (h.withSpe (e := { s.spe with view := some s.rank })).changeRole .holding working nofun
  have lost := (h.withSpe (e := { s.spe with view := none })).changeRole .standby working nofun
  unfold State.bidExpires
  split
  · exact seated.send _
  · refine lost.withSpe ⟨rfl, id, ?_, id⟩
    rintro ⟨join, bid, -, timers⟩
    exact ⟨join, bid, fun _ => State.setRole_role .., timers⟩

theorem seatWaitExpires (h : r.LineKept s) : r.LineKept s.seatWaitExpires := h.stopSeatWait.bidCheck

/-! ## The board supervisor (R40 to R54): it reaches line and engine by the board state alone -/

theorem handBoard (h : r.LineKept s) (board : BoardState) (field : Option Moment) : r.LineKept (s.handBoard board field) :=
  (h.speBoard board).frame (by simp [State.handBoard])

theorem withBsv (h : r.LineKept s) (b : Supervisor) : r.LineKept { s with bsv := b } := h

theorem enterBoard (h : r.LineKept s) (board : BoardState) (field : Option Moment) : r.LineKept (s.enterBoard board field) :=
  (h.withBsv (s.bsv.enter s.now s.quantities board)).handBoard board field

theorem enterBoardCleared (h : r.LineKept s) (board : BoardState) : r.LineKept (s.enterBoardCleared board) :=
  enterBoard (h.frame (by simp)) board none

theorem enterVacant (h : r.LineKept s) : r.LineKept s.enterVacant := enterBoardCleared (h.frame (by simp)) .vacant

theorem endLoadPeriod (h : r.LineKept s) : r.LineKept s.endLoadPeriod := by
  simp only [State.endLoadPeriod]
  exact ite (ite h (h.withBsv _).enterVacant) h

theorem boardPresent (h : r.LineKept s) : r.LineKept s.boardPresent := by
  simp only [State.boardPresent]
  refine ite (h.withBsv _).endLoadPeriod ?_
  split
  · exact (h.withBsv _).enterBoardCleared _
  · exact h

theorem boardAbsent (h : r.LineKept s) : r.LineKept s.boardAbsent := by
  simp only [State.boardAbsent]
  refine ite h ?_
  split
  · exact h
  · exact (h.withBsv _).enterVacant

theorem firstDecision (h : r.LineKept s) : r.LineKept s.firstDecision := (h.withBsv _).endLoadPeriod

theorem boardSignature (h : r.LineKept s) (verdict : Verdict) (field : Moment) : r.LineKept (s.boardSignature verdict field) :=
  ite ((h.withBsv _).enterBoard _ _) (ite ((h.withBsv _).enterBoard _ _) (ite (h.withBsv _) h))

theorem boardDrift (h : r.LineKept s) (field : Moment) : r.LineKept (s.boardDrift field) := by
  unfold State.boardDrift
  split
  · exact h.enterBoard _ _
  · exact h

theorem boardStall (h : r.LineKept s) : r.LineKept s.boardStall := by
  unfold State.boardStall
  split
  · exact h.enterBoard _ _
  · exact h.enterBoard _ _
  · exact h.enterBoard _ _
  · exact h

theorem boardResume (h : r.LineKept s) : r.LineKept s.boardResume := by
  unfold State.boardResume
  split
  · exact h.enterBoard _ _
  · exact h

theorem graceExpires (h : r.LineKept s) : r.LineKept s.graceExpires :=
  ite ((h.withBsv _).enterBoardCleared _) ((h.withBsv _).enterBoard _ _)

theorem resetBoard (h : r.LineKept s) : r.LineKept s.resetBoard := by
  unfold State.resetBoard
  split
  · exact h
  · split <;> exact h
  · exact (h.withBsv _).enterBoardCleared _

theorem boardTmuEvent (h : r.LineKept s) (e : Option TmuEvent) (field : Moment) : r.LineKept (s.boardTmuEvent e field) := by
  unfold State.boardTmuEvent
  split
  · exact h.boardSignature _ field
  · exact h.boardDrift field
  · exact h

/-! ## Board sync (R11 to R15) -/

theorem fieldStart (h : r.LineKept s) (lead : Moment) : r.LineKept (s.fieldStart lead) := by
  rw [State.fieldStart_eq]
  have taken : r.LineKept (s.fieldTaken lead) := h
  exact (taken.boardTmuEvent (s.fieldRaises lead) lead).frame (by simp)

theorem broad (h : r.LineKept s) (lead : Moment) : r.LineKept (s.broad lead) := ite (h.fieldStart lead) h

theorem stalled (h : r.LineKept s) : r.LineKept s.stalled := boardStall h

theorem leadingEdge (h : r.LineKept s) (m : Moment) : r.LineKept (s.leadingEdge m) := by
  simp only [State.leadingEdge]
  split
  · have resumed : r.LineKept (State.resume { s with ssl := { s.ssl with logicSync := .syncActive, pair := none } }) := boardResume h
    exact resumed.frame (by simp [State.resumePulse])
  · exact h.frame (by simp)

theorem classify (h : r.LineKept s) (p : Pulse) (m : Moment) : r.LineKept (s.classify p m) :=
  ite h (ite h (ite (h.frame (by simp)) (ite h (h.broad p.lead))))

theorem trailingEdge (h : r.LineKept s) (m : Moment) : r.LineKept (s.trailingEdge m) := by
  simp only [State.trailingEdge]
  split
  · exact h
  · exact h
  · refine classify ?_ _ m
    exact h

theorem decideBroad (h : r.LineKept s) : r.LineKept s.decideBroad := by
  unfold State.decideBroad
  split
  · refine broad ?_ _
    exact h
  · exact h

theorem stallExpires (h : r.LineKept s) : r.LineKept s.stallExpires := by
  have quiet := h.stalled
  simp only [State.stallExpires]
  split
  · exact quiet
  · exact quiet

/-! ## The bus (R17, R110) -/

theorem busFallsSilent (h : r.LineKept s) : r.LineKept s.busFallsSilent := speBusSilent h

theorem judgeOldest (h : r.LineKept s) : r.LineKept s.judgeOldest := by
  unfold State.judgeOldest State.judgeBusLine State.busMismatch
  split
  · refine ite h ?_
    split
    · exact ite h (ite h (contention h))
    · exact h
  · exact h

/-! ## The cabinet line (R62 to R81) -/

/-- The line is idle for a node that is not OFF (R63). -/
theorem lineBecomesIdle (h : r.LineKept s) (working : s.lct.Quiet → s.lct.mode ≠ .off) : r.LineKept s.lineBecomesIdle := by
  have idle : s.lct.Kept { s.lct with phase := .idle } := .of_working rfl working id rfl id id
  exact h.withLine (idle.trans (LineController.beginIfReady_kept _ s.now))

theorem gapMet (h : r.LineKept s) (working : s.lct.works = true) : r.LineKept s.gapMet := by
  have on : s.lct.mode ≠ .off := by
    intro off
    simp [LineController.works, off] at working
  unfold State.gapMet
  split
  · exact (h.advanceTo _).lineBecomesIdle (fun _ => on)
  · exact (h.advanceTo _).lineBecomesIdle (fun _ => on)
  · have counted : s.lct.Kept { s.lct with shortFrame := countError s.lct.shortFrame } := ⟨rfl, id, id⟩
    exact (h.withLine counted).lineBecomesIdle (fun _ => on)
  · exact h

/-- A node sends only while it follows its frame, and so outside OFF (R63). -/
theorem working_of_sendingFrom {l : LineController} {start : Moment} (sends : l.sendingFrom = some start) : l.Quiet → l.mode ≠ .off := by
  refine (·.not_off (.inl fun blind => ?_))
  simp [LineController.sendingFrom, blind] at sends

theorem attemptFails (h : r.LineKept s) : r.LineKept s.attemptFails := by
  unfold State.attemptFails
  split
  · exact ite (h.withLine ⟨rfl, id, id⟩) (h.reportHead _)
  · exact h

theorem bitClashes (h : r.LineKept s) (start : Moment) (k i : Nat) (read : Level) (working : s.lct.Quiet → s.lct.mode ≠ .off) :
    r.LineKept (s.bitClashes start k i read) := by
  have stopped := s.lct.stopSending_kept start s.headChars k i read working
  exact attemptFails (h.withLine (stopped.trans ⟨rfl, id, id⟩))

theorem framingFails (h : r.LineKept s) : r.LineKept s.framingFails := by
  unfold State.framingFails
  split
  · next following _ => exact h.withLine (.of_working rfl (·.not_off (.inl (by simp [following]))) id rfl id id)
  · exact h

/-- A judgement takes a frame into the room there is, counts, or finds the own rank (R72 to R74). -/
theorem judgeAt (h : r.LineKept s) (window : Moment) (read : List Bool) (chars : List Byte) (gap : Bool)
    (working : s.lct.Quiet → s.lct.mode ≠ .off) : r.LineKept (s.judgeAt window read chars gap) := by
  unfold State.judgeAt
  have judged (taken : Bool) : r.LineKept (s.withLine { s.lct with phase := .window window taken }) :=
    h.withLine (.of_working rfl working id rfl id id)
  cases hj : s.lct.judge s.rank read chars gap with
  | passedOver => exact judged false
  | refusedCheck =>
    refine (judged false).withLine ?_
    exact ⟨rfl, id, id⟩
  | rankClash =>
    have latched : r.LineKept (s.withLine { s.lct with phase := .window window false, rankClash := true }) :=
      (judged false).withLine ⟨rfl, id, id⟩
    exact (latched.speRankClash fun hr => working (h.silent hr).quiet).muteCommand
  | refusedOverrun =>
    refine (judged false).withLine ?_
    exact ⟨rfl, id, id⟩
  | taken sender frame =>
    have room := LineController.room_of_taken hj
    refine (judged true).withLine ⟨rfl, ?_, ?_⟩
    · rintro ⟨-, queued, distinct⟩
      exact ⟨by simpa using room, queued, distinct⟩
    · rintro ⟨silent, off⟩
      refine ⟨fun mode => ?_, off⟩
      obtain ⟨sending, acking, empty⟩ := silent mode
      refine ⟨sending, ?_, empty⟩
      dsimp only
      split
      · next running => exact absurd running mode
      · rfl

theorem judgeAck (h : r.LineKept s) (middles : BitVec 9) : r.LineKept (s.judgeAck middles) := by
  unfold State.judgeAck
  split
  · exact ite (h.reportHead _) (ite h.attemptFails (h.reportHead _))
  · exact h

theorem windowCloses (h : r.LineKept s) (middles : BitVec 9) (working : s.lct.Quiet → s.lct.mode ≠ .off) :
    r.LineKept (s.windowCloses middles) := by
  have ended := h.withLine (s.lct.frameEnd_kept s.now working)
  simp only [State.windowCloses]
  split
  · exact ended.judgeAck middles
  · exact ended

theorem flush (h : r.LineKept s) : r.LineKept s.flush := by
  have emptied := (h.reportAll s.lct.txq).withLine (s.reportAll s.lct.txq).lct.emptied_kept
  exact ite emptied.space emptied

theorem lineSticks (h : r.LineKept s) (working : s.lct.Quiet → s.lct.mode ≠ .off) : r.LineKept s.lineSticks := by
  exact ((h.withLine (s.lct.stick_kept s.now working)).speLineStuck).flush

theorem lineClears (h : r.LineKept s) (stuck : s.lct.stuck = true) : r.LineKept s.lineClears := by
  refine speLineClear (h.withLine (.of_working rfl (·.not_off (.inr stuck)) id rfl id id))

theorem takeEntry (h : r.LineKept s) (e : RxEntry) : r.LineKept (s.takeEntry e) := by
  have taken : r.LineKept (s.withLine { s.lct with rxq := s.lct.rxq.tail }) := by
    refine h.withLine ⟨rfl, fun ⟨received, queued, distinct⟩ => ⟨?_, queued, distinct⟩, id⟩
    exact (List.tail_sublist _).length_le.trans received
  exact taken.frame (by simp [State.takeEntry])

theorem helloHeard (h : r.LineKept s) (k : Rank) (holding reply : Bool) : r.LineKept (s.helloHeard k holding reply) := by
  have replied : r.LineKept (if reply ∧ s.spe.role ≠ .withdrawn then s.sendHello false else s) := ite (h.sendHello false) h
  exact ite (replied.claim k) (replied.release k)

/-! ## Coins and panel -/

theorem closureJudged (h : r.LineKept s) (ch : Channel) (start stop : Moment) : r.LineKept (s.closureJudged ch start stop) := by
  refine ite ?_ (h.frame (by simp))
  unfold State.countCoin
  split
  · exact h.frame (by simp)
  · exact (h.frame (by simp) : r.LineKept ((s.closureEnds ch).addCarried ch)).coinHeard
  · exact h.frame (by simp)
  · exact h.frame (by simp)

theorem pickEntry (h : r.LineKept s) : r.LineKept s.pickEntry :=
  ite (h.frame (by simp)) (ite ((h.frame (by simp) : r.LineKept s.enterWait).pick _) (h.frame (by simp)))

theorem menuKey (h : r.LineKept s) (k : Key) : r.LineKept (s.menuKey k) := by
  unfold State.menuKey
  split
  · exact h
  · unfold State.browseKey
    split
    · exact h
    · exact h
    · exact h.pickEntry
    · exact h.frame (by simp)
    · exact h.frame (by simp)
    · exact h
    · exact h
  · exact h
  · exact h
  · unfold State.serviceKey
    split
    · exact h.resetBoard
    · have cleared : r.LineKept s.clearFaults := h.withLine ⟨rfl, id, id⟩
      exact cleared.frame (by simp)
    all_goals exact h

theorem pressed (h : r.LineKept s) (i : PanelInput) : r.LineKept (s.pressed i) := by
  have latched : r.LineKept ((s.pressLines i).setLatch i true) := h.frame (by simp)
  unfold State.pressed
  rw [State.menuPress_eq]
  refine menuKey (latched.frame ?_) _
  simp [State.touched]

end State.LineKept

end Sys2Proof.Machine
end

section
/-!
SUPPORT. The cabinet line and the engine at every command (O55, O58), the loader's own among them: LOAD END moves the line out of OFF as
the load ends.
-/

namespace Sys2Proof.Machine

/-- The line is OFF until the load ends, and the loader's pause runs only while it is PAUSED (R70, R179). -/
def State.LoaderMatches (s : State) : Prop :=
  (s.lct.mode = .off ↔ s.cfl.load = .held ∨ s.cfl.load = .reading ∨ s.cfl.load = .paused) ∧
  (s.cfl.pause.isSome = true → s.cfl.load = .paused)

theorem State.silent_iff (s : State) : s.WithdrawnIsSilent ∧ s.RoleTimers ↔ s.Silent ∧ s.LoaderMatches := by
  constructor
  · rintro ⟨⟨withdrawn, silent, off, loader⟩, timers⟩
    exact ⟨⟨withdrawn, ⟨silent, fun mode => ⟨(off mode).1, (off mode).2.1⟩⟩, fun mode => (off mode).2.2, timers⟩, loader⟩
  · rintro ⟨⟨withdrawn, ⟨silent, off⟩, startup, timers⟩, loader⟩
    exact ⟨⟨withdrawn, silent, fun mode => ⟨(off mode).1, (off mode).2, startup mode⟩, loader⟩, timers⟩

/-- From `r` to `s` the laws of O55 and O58 hold on. -/
def State.LineLawsKept (r s : State) : Prop :=
  (r.QueuesWithin → s.QueuesWithin) ∧ (r.BidSetDistinct → s.BidSetDistinct) ∧
  (r.WithdrawnIsSilent ∧ r.RoleTimers → s.WithdrawnIsSilent ∧ s.RoleTimers)

theorem State.LineKept.laws {r s : State} (h : r.LineKept s) : r.LineLawsKept s := by
  obtain ⟨queues, bidSet, ⟨load, pause⟩, silent⟩ := h
  refine ⟨queues, bidSet, fun laws => ?_⟩
  rw [State.silent_iff] at laws ⊢
  obtain ⟨hr, matching⟩ := laws
  obtain ⟨hs, off⟩ := silent hr
  refine ⟨hs, ?_⟩
  simpa only [State.LoaderMatches, off, load, pause] using matching

/-- The loader alone moves, with the line as it is. -/
theorem State.LineLawsKept.of_loader {s t : State} (line : t.lct = s.lct ∧ t.spe = s.spe) (h : s.LoaderMatches → t.LoaderMatches) :
    s.LineLawsKept t := by
  obtain ⟨lct, spe⟩ := line
  refine ⟨?_, ?_, fun laws => ?_⟩
  · simp only [State.QueuesWithin, lct, imp_self]
  · simp only [State.BidSetDistinct, spe, imp_self]
  · rw [State.silent_iff] at laws ⊢
    obtain ⟨silent, matching⟩ := laws
    exact ⟨by simpa only [State.Silent, lct, spe] using silent, h matching⟩

theorem State.LineLawsKept.trans {r s t : State} (h : r.LineLawsKept s) (h' : s.LineLawsKept t) : r.LineLawsKept t := by
  obtain ⟨queues, bidSet, silent⟩ := h
  obtain ⟨queues', bidSet', silent'⟩ := h'
  exact ⟨queues' ∘ queues, bidSet' ∘ bidSet, silent' ∘ silent⟩

/-! ## LOAD END (R70, R99, R101, R181) -/

/-- The blocks before the line controller leave it OFF in STARTUP; it then has nothing to send in RUNNING or MUTE (R70). -/
theorem State.loadStarted_line (s : State) (copy : Option (List Byte)) :
    (s.lct.QueuesWithin → (s.loadStarted copy).lct.QueuesWithin) ∧
    (s.spe.BidSetDistinct → (s.loadStarted copy).spe.BidSetDistinct) ∧ (s.loadStarted copy).lct.mode ≠ .off ∧
    (s.Silent → s.lct.mode = .off → (s.loadStarted copy).Silent ∧ (s.loadStarted copy).spe.role = .startup) := by
  have period : (s.loadTaken copy).LineKept (s.loadTaken copy).slicerLoadEnd.endLoadPeriod :=
    ((State.LineKept.refl (s.loadTaken copy)).frame (by simp)).endLoadPeriod
  obtain ⟨queues, bidSet, -, silent⟩ := period
  have started : (s.loadStarted copy).lct.mode ≠ .off := by
    simp only [State.loadStarted, LineController.loadEnd, State.withLine_lct]
    split <;> decide
  refine ⟨queues, bidSet, started, fun hs off => ?_⟩
  obtain ⟨⟨-, ⟨idle, -⟩, startup, timers⟩, same⟩ := silent hs
  obtain ⟨role, -⟩ := startup (same.mpr off)
  have empty := idle (by rw [same.mpr off]; decide)
  exact ⟨⟨fun withdrawn => absurd (role.symm.trans withdrawn) (by decide), ⟨fun _ => empty, fun mode => absurd mode started⟩,
    fun mode => absurd mode started, timers⟩, role⟩

theorem State.loadEnd_lawsKept (s : State) (copy : Option (List Byte)) (reading : s.cfl.load = .reading) :
    s.LineLawsKept (s.loadEnd copy) := by
  obtain ⟨queues, bidSet, on, silent⟩ := s.loadStarted_line copy
  generalize hu : s.loadStarted copy = u at queues bidSet on silent
  have engine : ∃ t : State, s.loadEnd copy = t.coinLoadEnd.mapperLoadEnd ∧ (u.lct.QueuesWithin → t.lct.QueuesWithin) ∧
      (u.spe.BidSetDistinct → t.spe.BidSetDistinct) ∧ (u.Silent → u.spe.role = .startup → t.Silent ∧ t.lct.mode ≠ .off) := by
    rw [State.loadEnd_eq, hu]
    split
    · obtain ⟨queues, bidSet, -⟩ := (State.LineKept.refl u).sendHello true
      exact ⟨_, rfl, queues, bidSet, fun hu startup =>
        have running := (State.LineKept.refl u).speRunning startup (fun _ => on)
        ⟨running.silent hu, running.working hu on⟩⟩
    · have withdrawn := (State.LineKept.refl u).withdraw .noConfig (fun _ => on)
      have withdrawn' := withdrawn
      obtain ⟨queues, bidSet, -⟩ := withdrawn'
      exact ⟨_, rfl, queues, bidSet, fun hu _ => ⟨withdrawn.silent hu, withdrawn.working hu on⟩⟩
  obtain ⟨t, ht, queues', bidSet', silent'⟩ := engine
  have same : (s.loadEnd copy).lct = t.lct ∧ (s.loadEnd copy).spe = t.spe := by simp [ht]
  obtain ⟨lct, spe⟩ := same
  have loader : (s.loadEnd copy).cfl = (s.loadTaken copy).cfl := by
    rw [State.loadEnd_eq]
    split <;> simp
  refine ⟨?_, ?_, fun laws => ?_⟩
  · exact fun h => show (s.loadEnd copy).lct.QueuesWithin from lct ▸ queues' (queues h)
  · exact fun h => show (s.loadEnd copy).spe.BidSetDistinct from spe ▸ bidSet' (bidSet h)
  · rw [State.silent_iff] at laws ⊢
    obtain ⟨hs, off, -⟩ := laws
    obtain ⟨hu, startup⟩ := silent hs (off.mpr (.inr (.inl reading)))
    obtain ⟨htsilent, hton⟩ := silent' hu startup
    refine ⟨by simpa only [State.Silent, lct, spe] using htsilent, ?_⟩
    simp only [State.LoaderMatches, lct, loader, State.loadTaken]
    cases copy <;> simp [hton]

/-! ## Every command -/

/-- What node reset leaves meets the laws (R82, R114). -/
theorem State.resetBy_lawsKept (s : State) (cause : ResetCause) : s.LineLawsKept (s.resetBy cause) := by
  obtain ⟨silent, bidSet, timers⟩ := State.reset_silent
  obtain ⟨-, -, -, -, queues⟩ := State.reset_counts
  exact ⟨fun _ => queues, fun _ => bidSet, fun _ => ⟨silent, timers⟩⟩

/-- The loader's commands before LOAD END keep the line OFF (R178, R179). -/
theorem State.causesEnd_lawsKept (s : State) (release : ResetRelease) (held : s.cfl.load = .held) : s.LineLawsKept (s.causesEnd release) := by
  refine .of_loader (by simp) fun ⟨off, pause⟩ => ?_
  have stopped : s.cfl.pause.isSome = false := by
    by_contra runs
    exact absurd (held.symm.trans (pause (by simpa only [Bool.not_eq_false] using runs))) (by decide)
  have mode : s.lct.mode = .off := off.mpr (.inl held)
  simp only [State.causesEnd]
  split
  · exact ⟨off, pause⟩
  · simp [State.LoaderMatches, State.nodeResetEnds, mode, stopped]

theorem State.tryFails_lawsKept (s : State) (linesFree : Bool) (reading : s.cfl.load = .reading) : s.LineLawsKept (s.tryFails linesFree) := by
  unfold State.tryFails
  split
  · refine .of_loader ⟨rfl, rfl⟩ fun ⟨off, _⟩ => ?_
    have mode : s.lct.mode = .off := off.mpr (.inr (.inl reading))
    simp [State.LoaderMatches, mode]
  · exact (s.loadEnd_lawsKept none reading).trans (.of_loader (by simp) id)

/-- The self-timed commands of the engine run outside OFF: their timers do (R99, R104, R115). -/
theorem State.Silent.working_of_timer {s : State} (h : s.Silent)
    (runs : s.spe.bidWindow.isSome = true ∨ s.spe.answerTimer.isSome = true ∨ s.spe.passTimer.isSome = true) : s.lct.mode ≠ .off := by
  have silent := h
  obtain ⟨-, -, -, -, bid, -, answer, -, pass⟩ := silent
  rcases runs with runs | runs | runs
  · exact h.working (by simp [bid runs])
  · exact h.working (by simp [answer runs])
  · exact h.working (by simp [pass runs])

/-- Every command keeps the laws of line and engine. -/
theorem exec_lineLawsKept (c : Instr) (s : State) : ∃ u, exec c s = done u ∧ s.LineLawsKept u := by
  have h := State.LineKept.refl s
  have following {start : Moment} {read : List Bool} {begun : Nat} (hp : s.lct.phase = .following start read begun) :
      s.lct.Quiet → s.lct.mode ≠ .off := (·.not_off (.inl (by simp [hp])))
  cases c with
  | nodeReset dt cause =>
    refine ⟨_, rfl, ?_⟩
    split
    · exact s.resetBy_lawsKept cause
    · exact (h.elapse dt).laws
  | nodeResetEnd dt release =>
    refine ⟨_, rfl, ?_⟩
    split
    · next held => exact (h.elapse dt).laws.trans ((s.elapse dt).causesEnd_lawsKept release held)
    · exact (h.elapse dt).laws
  | tryFails dt failed =>
    refine ⟨_, rfl, ?_⟩
    split
    · next reading _ => exact (h.elapse dt).laws.trans ((s.elapse dt).tryFails_lawsKept failed.linesFree reading)
    · exact (h.elapse dt).laws
  | pausedExpiry =>
    refine ⟨_, rfl, ?_⟩
    cases running : s.cfl.pause with
    | none => exact h.laws
    | some due =>
      refine .of_loader ⟨rfl, rfl⟩ fun ⟨off, pause⟩ => ?_
      have mode : s.lct.mode = .off := off.mpr (.inr (.inr (pause (by simp [running]))))
      simp [State.LoaderMatches, mode]
  | blockRead dt bytes =>
    refine ⟨_, rfl, ?_⟩
    split
    · next reading _ => exact (h.elapse dt).laws.trans ((s.elapse dt).loadEnd_lawsKept _ reading)
    · exact (h.elapse dt).laws
  | acquisitionWindowEnd runs level =>
    refine ⟨_, rfl, State.LineKept.laws ?_⟩
    split
    · exact h.onExpiry _ fun due _ => (h.advanceTo due).frame (by simp)
    · exact h
  | leadingEdge dt held level => exact ⟨_, rfl, (State.LineKept.ite ((h.elapse dt).leadingEdge _) (h.elapse dt)).laws⟩
  | trailingEdge dt held level => exact ⟨_, rfl, (State.LineKept.ite ((h.elapse dt).trailingEdge _) (h.elapse dt)).laws⟩
  | broadDecided => exact ⟨_, rfl, (h.onExpiry _ fun due _ => (h.advanceTo due).decideBroad).laws⟩
  | tipSample code => exact ⟨_, rfl, (h.onExpiry _ fun due _ => (h.advanceTo due).frame (by simp)).laws⟩
  | restSample code => exact ⟨_, rfl, (h.onExpiry _ fun due _ => (h.advanceTo due).frame (by simp)).laws⟩
  | stall => exact ⟨_, rfl, (h.onExpiry _ fun due _ => (h.advanceTo due).stallExpires).laws⟩
  | lockExpiry => exact ⟨_, rfl, (h.onExpiry _ fun due _ => (h.advanceTo due).frame (by simp)).laws⟩
  | busEdge dt held level => exact ⟨_, rfl, (State.LineKept.ite ((h.elapse dt).frame (by simp)) (h.elapse dt)).laws⟩
  | busSilent => exact ⟨_, rfl, (h.onExpiry _ fun due _ => (h.advanceTo due).busFallsSilent).laws⟩
  | busLineJudged => exact ⟨_, rfl, (h.onExpiry _ fun due _ => (h.advanceTo due).judgeOldest).laws⟩
  | present dt held => exact ⟨_, rfl, (State.LineKept.ite (h.elapse dt).boardPresent (h.elapse dt)).laws⟩
  | absent dt held => exact ⟨_, rfl, (State.LineKept.ite (h.elapse dt).boardAbsent (h.elapse dt)).laws⟩
  | resetHoldExpiry => exact ⟨_, rfl, (h.onExpiry _ fun due _ => (h.advanceTo due).enterBoardCleared .settling).laws⟩
  | bootLimitExpiry => exact ⟨_, rfl, (h.onExpiry _ fun due _ => (h.advanceTo due).enterBoard .stalled none).laws⟩
  | stallGraceExpiry => exact ⟨_, rfl, (h.onExpiry _ fun due _ => (h.advanceTo due).graceExpires).laws⟩
  | fillFieldStart =>
    refine ⟨_, rfl, State.LineKept.laws ?_⟩
    split
    · next due _ => exact (h.advanceTo due).frame (by simp)
    · exact h
  | fillLineStart =>
    refine ⟨_, rfl, State.LineKept.laws ?_⟩
    split
    · next due _ => exact (h.advanceTo due).frame (by simp)
    · exact h
  | fillPulseEnd => exact ⟨_, rfl, (h.onExpiry _ fun _ _ => h).laws⟩
  | lineIdle dt =>
    refine ⟨_, rfl, State.LineKept.laws ?_⟩
    split
    · next works => exact (h.elapse dt).gapMet works
    · exact h.elapse dt
  | lostArbitration bit =>
    refine ⟨_, rfl, State.LineKept.laws ?_⟩
    split
    · next start sends =>
      have working := State.LineKept.working_of_sendingFrom sends
      exact .ite ((h.advanceTo _).withLine (s.lct.stopSending_kept start _ 0 (bit + 1) .dominant working)) h
    · exact h
  | bitClash char bit read =>
    refine ⟨_, rfl, State.LineKept.laws ?_⟩
    split
    · next sends => exact .ite ((h.advanceTo _).bitClashes _ _ _ _ (State.LineKept.working_of_sendingFrom sends)) h
    · exact h
  | framingError dt kind => exact ⟨_, rfl, (h.elapse dt).framingFails.laws⟩
  | frameJudged contents check gapDominant =>
    refine ⟨_, rfl, State.LineKept.laws ?_⟩
    split
    · next phase => exact (h.advanceTo _).judgeAt _ _ _ _ (following phase)
    · exact h
  | ackWindowEnd middles =>
    refine ⟨_, rfl, State.LineKept.laws ?_⟩
    split
    · next phase => exact (h.advanceTo _).windowCloses middles (·.not_off (.inl (by simp [phase])))
    · exact h
  | lineStuck dt =>
    refine ⟨_, rfl, State.LineKept.laws ?_⟩
    split
    · next works =>
      refine ((h.elapse dt).advanceTo _).lineSticks fun _ off => ?_
      simp [LineController.works, show s.lct.mode = .off from off] at works
    · exact h.elapse dt
  | lineClear dt =>
    refine ⟨_, rfl, State.LineKept.laws ?_⟩
    split
    · next stuck => exact ((h.elapse dt).advanceTo _).lineClears stuck
    · exact h.elapse dt
  | helloTaken =>
    refine ⟨_, rfl, State.LineKept.laws ?_⟩
    split
    · split
      · exact (h.takeEntry _).helloHeard _ _ _
      · exact h
    · exact h
  | seatedTaken =>
    refine ⟨_, rfl, State.LineKept.laws ?_⟩
    split
    · exact (h.takeEntry _).claim _
    · exact h
  | bidTaken =>
    refine ⟨_, rfl, State.LineKept.laws ?_⟩
    split
    · exact (h.takeEntry _).bidHeard _
    · exact h
  | offerTaken =>
    refine ⟨_, rfl, State.LineKept.laws ?_⟩
    split
    · split
      · exact (h.takeEntry _).offerHeard _ _
      · exact h
    · exact h
  | answerTaken =>
    refine ⟨_, rfl, State.LineKept.laws ?_⟩
    split
    · split
      · exact (h.takeEntry _).answerHeard _ _ _ _
      · exact h
    · exact h
  | passTaken =>
    refine ⟨_, rfl, State.LineKept.laws ?_⟩
    split
    · split
      · exact (h.takeEntry _).passHeard _ _ _ _
      · exact h
    · exact h
  | joinWindowExpiry => exact ⟨_, rfl, (h.onExpiry _ fun due runs => (h.advanceTo due).joinExpires (by simp [runs])).laws⟩
  | bidWindowExpiry =>
    exact ⟨_, rfl, (h.onExpiry _ fun due runs => (h.advanceTo due).bidExpires (·.working_of_timer (.inl (by simp [runs])))).laws⟩
  | seatWaitExpiry => exact ⟨_, rfl, (h.onExpiry _ fun due _ => (h.advanceTo due).seatWaitExpires).laws⟩
  | answerTimerExpiry =>
    exact ⟨_, rfl, (h.onExpiry _ fun due runs =>
      (h.advanceTo due).offerFails .noAnswer (·.working_of_timer (.inr (.inl (by simp [runs]))))).laws⟩
  | coinQuietExpiry => exact ⟨_, rfl, (h.onExpiry _ fun due _ => (h.advanceTo due).issuePass).laws⟩
  | passTimerExpiry =>
    exact ⟨_, rfl, (h.onExpiry _ fun due runs =>
      ((h.advanceTo due).leaveAccepted (·.working_of_timer (.inr (.inr (by simp [runs]))))).bidCheck).laws⟩
  | closure dt held ch => exact ⟨_, rfl, (State.LineKept.ite ((h.elapse dt).frame (by simp)) (h.elapse dt)).laws⟩
  | detectedCoin dt held ch =>
    refine ⟨_, rfl, State.LineKept.laws ?_⟩
    split
    · exact .ite (h.elapse dt) ((h.elapse dt).closureJudged ch _ _)
    · exact h.elapse dt
  | coinJam ch => exact ⟨_, rfl, (h.onExpiry _ fun due _ => (h.advanceTo due).frame (by simp)).laws⟩
  | pulseTimerExpiry ch => exact ⟨_, rfl, (h.onExpiry _ fun due _ => (h.advanceTo due).frame (by simp)).laws⟩
  | gapTimerExpiry ch => exact ⟨_, rfl, (h.onExpiry _ fun due _ => (h.advanceTo due).frame (by simp)).laws⟩
  | press dt held input => exact ⟨_, rfl, (State.LineKept.ite ((h.elapse dt).pressed input) (h.elapse dt)).laws⟩
  | release dt held input => exact ⟨_, rfl, (State.LineKept.ite ((h.elapse dt).frame (by simp)) (h.elapse dt)).laws⟩
  | lampLevelChange dt held lamp lit => exact ⟨_, rfl, (State.LineKept.ite ((h.elapse dt).frame (by simp)) (h.elapse dt)).laws⟩
  | selectHoldExpiry => exact ⟨_, rfl, (h.onExpiry _ fun due _ => (h.advanceTo due).frame (by simp)).laws⟩
  | browseTimerExpiry => exact ⟨_, rfl, (h.onExpiry _ fun due _ => (h.advanceTo due).frame (by simp)).laws⟩
  | noticeTimerExpiry => exact ⟨_, rfl, (h.onExpiry _ fun due _ => (h.advanceTo due).frame (by simp)).laws⟩
  | statusLampBlink lamp =>
    refine ⟨_, rfl, State.LineKept.laws ?_⟩
    split
    · exact h
    · exact h
  | lineFall dt fall =>
    refine ⟨_, rfl, State.LineKept.laws ?_⟩
    split
    · exact h.elapse dt
    · next working =>
      have stretched : s.lct.Kept { s.lct with stretch := some (s.now + dt) } := ⟨rfl, id, id⟩
      refine (h.elapse dt).withLine ?_
      split
      · exact stretched
      · exact stretched.trans (LineController.fall_kept _ _ _ _ working)
  | jammedClosureEnd dt held ch =>
    refine ⟨_, rfl, State.LineKept.laws ?_⟩
    split
    · exact .ite ((h.elapse dt).frame (by simp)) (h.elapse dt)
    · exact h.elapse dt
  | presenceFirstDecision dt held => exact ⟨_, rfl, (State.LineKept.ite (h.elapse dt).firstDecision (h.elapse dt)).laws⟩

/-- An invariant that `LineLawsKept` carries, and that queue and clock do not touch, is kept by every step. -/
theorem keeps_of_lineLawsKept {Inv : State → Prop} (hinv : ∀ {s t : State}, s.LineLawsKept t → Inv s → Inv t)
    (hqueue : ∀ s p, Inv s → Inv (s.withPending p)) : Keeps Inv := by
  refine keeps_of_exec hqueue (fun s n => hinv ((State.LineKept.refl s).elapse n).laws) (fun c s t hs ht => ?_)
  obtain ⟨u, hu, kept⟩ := exec_lineLawsKept c s
  rw [hu] at ht
  rw [next_of_done ht]
  exact hinv (kept.trans (.of_loader (by simp) (by simp [State.LoaderMatches]))) hs

end Sys2Proof.Machine
end

section
open Sys2Proof.Machine

/-- Settles O55: every command keeps the queues (`exec_lineLawsKept`), and so does every step. -/
theorem everyStepKeepsQueues : Obligations.EveryStepKeepsQueues :=
  keeps_of_lineLawsKept (fun ⟨queues, _, _⟩ => queues) (fun _ _ h => h)

/-- Settles O58: every command keeps silence, role timers and bid set (`exec_lineLawsKept`), and so does every step. -/
theorem everyStepKeepsWithdrawnSilent : Obligations.EveryStepKeepsWithdrawnSilent :=
  ⟨keeps_of_lineLawsKept (fun ⟨_, _, silent⟩ => silent) (fun _ _ h => h),
    keeps_of_lineLawsKept (fun ⟨_, bidSet, _⟩ => bidSet) (fun _ _ h => h)⟩

end

section
/-!
SUPPORT. Frames as characters (R64, R65, R183): each reading is the inverse of its writing, so that `readFrame` reads exactly the contents of
admissible frames; the bits of a character by their numbers.
-/

namespace Sys2Proof.Machine

/-! ## Characters -/

theorem char8_toNat {n : Nat} (h : n < 256) : (char8 n).toNat = n := by
  simp only [char8, BitVec.toNat_ofNat]
  omega

@[simp] theorem char8_of_toNat (c : Byte) : char8 c.toNat = c := by simp [char8]

theorem char8_eq_iff (c : Byte) {n : Nat} (h : n < 256) : c = char8 n ↔ c.toNat = n := by
  rw [← BitVec.toNat_inj, char8_toNat h]

theorem num16_lt (hi lo : Byte) : num16 hi lo < 65536 := by
  have := hi.isLt
  have := lo.isLt
  unfold num16
  omega

theorem num16_eq_iff (hi lo : Byte) {n : Nat} (h : n < 65536) : num16 hi lo = n ↔ hi = char8 (n / 256) ∧ lo = char8 n := by
  have := hi.isLt
  have := lo.isLt
  have low : (char8 n).toNat = n % 256 := by simp [char8]
  rw [char8_eq_iff hi (by omega), ← BitVec.toNat_inj (y := char8 n), low]
  unfold num16
  omega

/-! ## Codes -/

theorem kindCode_bounds (k : FrameKind) : 1 ≤ kindCode k ∧ kindCode k ≤ 6 := by cases k <;> decide

theorem readKind_iff (n : Nat) (k : FrameKind) : readKind n = some k ↔ n = kindCode k := by
  constructor
  · intro h
    unfold readKind at h
    split at h <;> cases h <;> rfl
  · rintro rfl
    cases k <;> rfl

theorem boardCode_lt (b : BoardState) : boardCode b < 7 := by cases b <;> decide

theorem boardOfCode_iff (n : Nat) (b : BoardState) : boardOfCode n = some b ↔ n = boardCode b := by
  constructor
  · intro h
    unfold boardOfCode at h
    split at h <;> cases h <;> rfl
  · rintro rfl
    cases b <;> rfl

theorem reasonCode_lt (r : AnswerReason) : reasonCode r < 4 := by cases r <;> decide

theorem reasonOfCode_iff (n : Nat) (r : AnswerReason) : reasonOfCode n = some r ↔ n = reasonCode r := by
  constructor
  · intro h
    unfold reasonOfCode at h
    split at h <;> cases h <;> rfl
  · rintro rfl
    cases r <;> rfl

/-! ## Head and target -/

theorem headChar_toNat (r : Rank) (k : FrameKind) : (headChar r k).toNat = 16 * kindCode k + r.val := by
  have := kindCode_bounds k
  exact char8_toNat (by omega)

theorem readHead_iff (c : Byte) (k : FrameKind) (r : Rank) : readHead c = some (k, r) ↔ c = headChar r k := by
  rw [← BitVec.toNat_inj, headChar_toNat]
  unfold readHead
  split
  · simp only [Option.map_eq_some_iff, Prod.mk.injEq, readKind_iff, Fin.ext_iff]
    constructor
    · rintro ⟨k', code, rfl, rank⟩
      omega
    · intro h
      exact ⟨k, by omega, rfl, by omega⟩
  · simp only [reduceCtorEq, false_iff]
    omega

theorem readTarget_iff (c : Byte) (t : Target) : readTarget c = some t ↔ c = targetChar t := by
  unfold readTarget
  cases t with
  | all =>
    rw [show targetChar .all = char8 15 from rfl, char8_eq_iff c (by decide)]
    split
    · simp; omega
    · simp
  | rank r =>
    rw [targetChar, char8_eq_iff c (by omega)]
    split
    · simp [Fin.ext_iff]
    · split <;> simp <;> omega

/-! ## Payloads -/

/-- Each field of a body holds a value of the set R65 gives it. -/
def Body.fits : Body → Bool
  | .pass _ c1 c2 => decide (c1 ≤ 31) && decide (c2 ≤ 31)
  | .hello _ _ _ l16 hl title => decide (l16 ≤ 65520) && decide (hl ≤ 1023) && decide (title.length ≤ 20)
  | .answer _ _ _ _ => true
  | .offer _ => true
  | .seated => true
  | .bid _ => true

theorem Frame.admissible_iff (f : Frame) : f.admissible = true ↔ targetSuits f.kind f.target = true ∧ f.body.fits = true := by
  rw [Frame.admissible, Bool.and_eq_true]
  rfl

theorem bodyChars_length_le {b : Body} (h : b.fits = true) : (bodyChars b).length ≤ 27 := by
  cases b with
  | hello holding reply board l16 hl title =>
    have ⟨_, short⟩ : (l16 ≤ 65520 ∧ hl ≤ 1023) ∧ title.length ≤ 20 := by simpa [Body.fits] using h
    simp [bodyChars, char16]
    omega
  | _ => simp [bodyChars]

theorem readTitle_iff (len : Byte) (chars : List Byte) (title : List Glyph) :
    readTitle len chars = some title ↔ title.length ≤ 20 ∧ len = char8 title.length ∧ chars = title.map (fun g => char8 g.val) := by
  unfold readTitle
  constructor
  · intro h
    split at h
    · next fits =>
      obtain ⟨short, length, glyphs⟩ := fits
      cases h
      simp only [List.all_eq_true, decide_eq_true_eq] at glyphs
      refine ⟨by simpa [length] using short, by simp [length], ?_⟩
      rw [List.map_map]
      have same : ∀ c ∈ chars, char8 (Fin.ofNat 64 c.toNat).val = c := fun c hc => by
        simp [Nat.mod_eq_of_lt (glyphs c hc)]
      exact ((List.map_congr_left same).trans (List.map_id' chars)).symm
    · cases h
  · rintro ⟨short, rfl, rfl⟩
    have len := char8_toNat (n := title.length) (by omega)
    have glyph (g : Glyph) : (char8 g.val).toNat = g.val := char8_toNat (by omega)
    rw [if_pos]
    · simp [glyph, Function.comp_def]
    · simp [len, glyph, short]

theorem flags_iff (flags : Byte) (holding reply : Bool) :
    flags.toNat ≤ 3 ∧ flags.getLsbD 0 = holding ∧ flags.getLsbD 1 = reply ↔ flags = char8 (holding.toNat + 2 * reply.toNat) := by
  constructor
  · rintro ⟨small, rfl, rfl⟩
    obtain ⟨n, hn⟩ : ∃ n, n = flags.toNat := ⟨_, rfl⟩
    rw [← hn] at small
    rw [← char8_of_toNat flags, ← hn]
    interval_cases n <;> rfl
  · rintro rfl
    cases holding <;> cases reply <;> decide

theorem readBody_pass_iff (payload : List Byte) (b : Body) :
    readBody .pass payload = some b ↔ ∃ n c1 c2, b = .pass n c1 c2 ∧ b.fits = true ∧ payload = bodyChars b := by
  constructor
  · intro h
    rcases payload with _ | ⟨n, _ | ⟨c1, _ | ⟨c2, _ | ⟨x, rest⟩⟩⟩⟩
    case cons.cons.cons.nil =>
      unfold readBody at h
      dsimp only at h
      split at h
      · next fits =>
        cases h
        exact ⟨n, _, _, rfl, by simpa [Body.fits] using fits, by simp [bodyChars]⟩
      · cases h
    all_goals cases h
  · rintro ⟨n, c1, c2, rfl, fits, rfl⟩
    obtain ⟨h1, h2⟩ : c1 ≤ 31 ∧ c2 ≤ 31 := by simpa [Body.fits] using fits
    unfold readBody
    simp [bodyChars, char8_toNat (n := c1) (by omega), char8_toNat (n := c2) (by omega), h1, h2]

theorem readBody_answer_iff (payload : List Byte) (b : Body) :
    readBody .answer payload = some b ↔ ∃ n yes reason board, b = .answer n yes reason board ∧ payload = bodyChars b := by
  constructor
  · intro h
    rcases payload with _ | ⟨n, _ | ⟨v, _ | ⟨r, _ | ⟨board, _ | ⟨x, rest⟩⟩⟩⟩⟩
    case cons.cons.cons.cons.nil =>
      unfold readBody at h
      dsimp only at h
      split at h
      · next verdict =>
        split at h
        · next reason board' hr hb =>
          cases h
          refine ⟨n, _, reason, board', rfl, ?_⟩
          have yes : char8 (v.toNat == 1).toNat = v := by
            rw [eq_comm, char8_eq_iff v (by cases v.toNat == 1 <;> decide)]
            obtain zero | one : v.toNat = 0 ∨ v.toNat = 1 := by omega
            · rw [zero]; rfl
            · rw [one]; rfl
          rw [reasonOfCode_iff] at hr
          rw [boardOfCode_iff] at hb
          simp [bodyChars, yes, ← hr, ← hb]
        · cases h
      · cases h
    all_goals cases h
  · rintro ⟨n, yes, reason, board, rfl, rfl⟩
    have hr : reasonOfCode (char8 (reasonCode reason)).toNat = some reason := by cases reason <;> rfl
    have hb : boardOfCode (char8 (boardCode board)).toNat = some board := by cases board <;> rfl
    have hv : (char8 yes.toNat).toNat = yes.toNat := by cases yes <;> rfl
    unfold readBody
    simp only [bodyChars, hr, hb, hv]
    cases yes <;> rfl

theorem readBody_offer_iff (payload : List Byte) (b : Body) :
    readBody .offer payload = some b ↔ ∃ n, b = .offer n ∧ payload = bodyChars b := by
  constructor
  · intro h
    rcases payload with _ | ⟨n, _ | ⟨x, rest⟩⟩
    case cons.nil =>
      cases h
      exact ⟨n, rfl, rfl⟩
    all_goals cases h
  · rintro ⟨n, rfl, rfl⟩
    rfl

theorem readBody_seated_iff (payload : List Byte) (b : Body) :
    readBody .seated payload = some b ↔ b = .seated ∧ payload = bodyChars b := by
  constructor
  · intro h
    cases payload with
    | nil =>
      cases h
      exact ⟨rfl, rfl⟩
    | cons x rest => cases h
  · rintro ⟨rfl, rfl⟩
    rfl

theorem readBody_bid_iff (payload : List Byte) (b : Body) :
    readBody .bid payload = some b ↔ ∃ board, b = .bid board ∧ payload = bodyChars b := by
  constructor
  · intro h
    rcases payload with _ | ⟨c, _ | ⟨x, rest⟩⟩
    case cons.nil =>
      obtain ⟨board, code, rfl⟩ := Option.map_eq_some_iff.mp h
      rw [boardOfCode_iff] at code
      exact ⟨board, rfl, by simp [bodyChars, ← code]⟩
    all_goals cases h
  · rintro ⟨board, rfl, rfl⟩
    cases board <;> rfl

theorem readBody_hello_iff (payload : List Byte) (b : Body) :
    readBody .hello payload = some b ↔
      ∃ holding reply board l16 hl title, b = .hello holding reply board l16 hl title ∧ b.fits = true ∧ payload = bodyChars b := by
  constructor
  · intro h
    rcases payload with _ | ⟨flags, _ | ⟨board, _ | ⟨l1, _ | ⟨l0, _ | ⟨h1, _ | ⟨h0, _ | ⟨len, chars⟩⟩⟩⟩⟩⟩⟩
    case cons.cons.cons.cons.cons.cons.cons =>
      unfold readBody at h
      dsimp only at h
      split at h
      · next fits =>
        obtain ⟨small, lineFits, halvesFit⟩ := fits
        split at h
        · next board' title hb ht =>
          cases h
          rw [boardOfCode_iff] at hb
          obtain ⟨short, length, glyphs⟩ := (readTitle_iff _ _ _).mp ht
          refine ⟨_, _, board', _, _, title, rfl, by simp [Body.fits, lineFits, halvesFit, short], ?_⟩
          have hflags := (flags_iff flags _ _).mp ⟨small, rfl, rfl⟩
          obtain ⟨hl1, hl0⟩ := (num16_eq_iff l1 l0 (num16_lt l1 l0)).mp rfl
          obtain ⟨hh1, hh0⟩ := (num16_eq_iff h1 h0 (num16_lt h1 h0)).mp rfl
          simp only [bodyChars, char16, List.cons_append, List.nil_append, ← hflags, ← hl1, ← hl0, ← hh1, ← hh0, ← hb,
            char8_of_toNat, ← length, ← glyphs]
        · cases h
      · cases h
    all_goals cases h
  · rintro ⟨holding, reply, board, l16, hl, title, rfl, fits, rfl⟩
    obtain ⟨⟨lineFits, halvesFit⟩, short⟩ : (l16 ≤ 65520 ∧ hl ≤ 1023) ∧ title.length ≤ 20 := by simpa [Body.fits] using fits
    obtain ⟨small, hholding, hreply⟩ := (flags_iff _ holding reply).mpr rfl
    have line := (num16_eq_iff _ _ (n := l16) (by omega)).mpr ⟨rfl, rfl⟩
    have halves := (num16_eq_iff _ _ (n := hl) (by omega)).mpr ⟨rfl, rfl⟩
    have hb : boardOfCode (char8 (boardCode board)).toNat = some board := by cases board <;> rfl
    have ht := (readTitle_iff _ _ title).mpr ⟨short, rfl, rfl⟩
    unfold readBody
    simp only [bodyChars, char16, List.cons_append, List.nil_append, line, halves, small, lineFits, halvesFit, and_self, if_true, hb, ht,
      hholding, hreply]

/-- Exactly the payloads of bodies of the kind whose fields fit are read (R65). -/
theorem readBody_iff (k : FrameKind) (payload : List Byte) (b : Body) :
    readBody k payload = some b ↔ b.kind = k ∧ b.fits = true ∧ payload = bodyChars b := by
  cases k with
  | pass =>
    rw [readBody_pass_iff]
    constructor
    · rintro ⟨n, c1, c2, rfl, read⟩
      exact ⟨rfl, read⟩
    · rintro ⟨kind, read⟩
      cases b <;> cases kind
      exact ⟨_, _, _, rfl, read⟩
  | answer =>
    rw [readBody_answer_iff]
    constructor
    · rintro ⟨n, yes, reason, board, rfl, read⟩
      exact ⟨rfl, rfl, read⟩
    · rintro ⟨kind, -, read⟩
      cases b <;> cases kind
      exact ⟨_, _, _, _, rfl, read⟩
  | offer =>
    rw [readBody_offer_iff]
    constructor
    · rintro ⟨n, rfl, read⟩
      exact ⟨rfl, rfl, read⟩
    · rintro ⟨kind, -, read⟩
      cases b <;> cases kind
      exact ⟨_, rfl, read⟩
  | seated =>
    rw [readBody_seated_iff]
    constructor
    · rintro ⟨rfl, read⟩
      exact ⟨rfl, rfl, read⟩
    · rintro ⟨kind, -, read⟩
      cases b <;> cases kind
      exact ⟨rfl, read⟩
  | bid =>
    rw [readBody_bid_iff]
    constructor
    · rintro ⟨board, rfl, read⟩
      exact ⟨rfl, rfl, read⟩
    · rintro ⟨kind, -, read⟩
      cases b <;> cases kind
      exact ⟨_, rfl, read⟩
  | hello =>
    rw [readBody_hello_iff]
    constructor
    · rintro ⟨holding, reply, board, l16, hl, title, rfl, read⟩
      exact ⟨rfl, read⟩
    · rintro ⟨kind, read⟩
      cases b <;> cases kind
      exact ⟨_, _, _, _, _, _, rfl, read⟩

/-! ## Frames -/

/-- Exactly the contents of admissible frames are read, as the sender and frame that wrote them (R64, R65). -/
theorem readFrame_iff (contents : List Byte) (sender : Rank) (f : Frame) :
    readFrame contents = some (sender, f) ↔ f.admissible = true ∧ contents = frameContents sender f := by
  rw [Frame.admissible_iff]
  constructor
  · intro h
    rcases contents with _ | ⟨head, _ | ⟨target, _ | ⟨count, payload⟩⟩⟩
    case cons.cons.cons =>
      unfold readFrame at h
      dsimp only at h
      split at h
      · next k sender' t hh ht =>
        rw [readHead_iff] at hh
        rw [readTarget_iff] at ht
        split at h
        · next suits =>
          obtain ⟨suits, length⟩ := suits
          obtain ⟨b, hb, same⟩ := Option.map_eq_some_iff.mp h
          cases same
          obtain ⟨rfl, fits, rfl⟩ := (readBody_iff _ _ _).mp hb
          exact ⟨⟨suits, fits⟩, by simp [frameContents, hh, ht, Frame.count, Frame.kind, length]⟩
        · cases h
      · cases h
    all_goals cases h
  · rintro ⟨⟨suits, fits⟩, rfl⟩
    have hh := (readHead_iff _ f.kind sender).mpr rfl
    have ht := (readTarget_iff _ f.target).mpr rfl
    have hb := (readBody_iff f.kind _ f.body).mpr ⟨rfl, fits, rfl⟩
    have count : (bodyChars f.body).length = (char8 (bodyChars f.body).length).toNat :=
      (char8_toNat (Nat.lt_of_le_of_lt (bodyChars_length_le fits) (by decide))).symm
    unfold readFrame
    simp [frameContents, hh, ht, hb, suits, ← count, Frame.count]

theorem Frame.count_le {f : Frame} (h : f.admissible = true) : f.count ≤ 27 :=
  bodyChars_length_le ((Frame.admissible_iff f).mp h).2

theorem frameContents_length (sender : Rank) (f : Frame) : (frameContents sender f).length = 3 + f.count := by
  simp [frameContents, Frame.count]
  omega

theorem frameChars_length (sender : Rank) (f : Frame) : (frameChars sender f).length = 4 + f.count := by
  simp [frameChars, frameContents_length]
  omega

/-! ## Bits -/

/-- The number that `bits` spell behind those that spell `n`. -/
def spellOn (n : Nat) (bits : List Bool) : Nat := bits.foldl (fun n b => 2 * n + b.toNat) n

theorem spellOn_zero (bits : List Bool) : spellOn 0 bits = bitsNumber bits := rfl

theorem spellOn_bounds (bits : List Bool) (n : Nat) :
    n * 2 ^ bits.length ≤ spellOn n bits ∧ spellOn n bits < (n + 1) * 2 ^ bits.length := by
  induction bits generalizing n with
  | nil => simp [spellOn]
  | cons b rest ih =>
    obtain ⟨low, high⟩ := ih (2 * n + b.toNat)
    have bit : b.toNat ≤ 1 := Bool.toNat_le b
    have less : n * 2 ^ (rest.length + 1) ≤ (2 * n + b.toNat) * 2 ^ rest.length := by
      rw [pow_succ']
      nlinarith [Nat.zero_le (b.toNat * 2 ^ rest.length)]
    have more : (2 * n + b.toNat + 1) * 2 ^ rest.length ≤ (n + 1) * 2 ^ (rest.length + 1) := by
      rw [pow_succ', ← Nat.mul_assoc]
      exact Nat.mul_le_mul_right _ (by omega)
    exact ⟨less.trans low, lt_of_lt_of_le high more⟩

/-- Of two bit strings of one length the one of lower value has a 0 where they first differ. -/
theorem spellOn_first_difference (x y : List Bool) (n : Nat) (same : x.length = y.length) (h : spellOn n x < spellOn n y) :
    ∃ i, i < x.length ∧ x.take i = y.take i ∧ x[i]? = some false ∧ y[i]? = some true := by
  induction x generalizing y n with
  | nil =>
    rw [List.length_nil, eq_comm, List.length_eq_zero_iff] at same
    simp [same, spellOn] at h
  | cons b x ih =>
    obtain _ | ⟨c, y⟩ := y
    · cases same
    · have same' : x.length = y.length := by simpa using same
      match b, c, h with
      | false, true, _ => exact ⟨0, by simp⟩
      | true, false, h =>
        have low := (spellOn_bounds x (2 * n + 1)).1
        have high := (spellOn_bounds y (2 * n)).2
        rw [same'] at low
        exact absurd (low.trans_lt h) (Nat.not_lt.mpr high.le)
      | false, false, h =>
        obtain ⟨i, less, front, zero, one⟩ := ih y _ same' h
        exact ⟨i + 1, by simpa using less, by simp [front], by simpa using zero, by simpa using one⟩
      | true, true, h =>
        obtain ⟨i, less, front, zero, one⟩ := ih y _ same' h
        exact ⟨i + 1, by simpa using less, by simp [front], by simpa using zero, by simpa using one⟩

/-- The bits of a character spell it, the most significant first (R62). -/
theorem bitsNumber_charBits (c : Byte) : bitsNumber (charBits c) = c.toNat := by
  revert c
  decide +kernel

@[simp] theorem charBits_length (c : Byte) : (charBits c).length = 8 := rfl

/-- A character that a node goes on reading from its own first bits is that character (R67, R71). -/
theorem readChar_of_prefix (c : Byte) (k : Nat) : readChar ((charBits c).take k) c = c := by
  have rest : (charBits c).drop ((charBits c).take k).length = (charBits c).drop k := by
    rw [List.length_take, charBits_length]
    rcases Nat.le_total k 8 with less | more
    · rw [Nat.min_eq_left less]
    · rw [Nat.min_eq_right more, List.drop_of_length_le (by simp), List.drop_of_length_le (by simpa using more)]
  rw [readChar, rest, List.take_append_drop, bitsNumber_charBits]
  exact char8_of_toNat c

/-- Characters of which the node has read any of their own first bits are read whole (R67, R71). -/
theorem readChars_of_prefix (chars : List Byte) (k : Nat) : readChars ((chars.flatMap charBits).take k) chars = chars := by
  induction chars generalizing k with
  | nil => rfl
  | cons c rest ih =>
    have front : (((c :: rest).flatMap charBits).take k).take 8 = (charBits c).take k := by
      rw [List.flatMap_cons, List.take_take, Nat.min_comm, ← List.take_take, List.take_left' (charBits_length c)]
    have tail : (((c :: rest).flatMap charBits).take k).drop 8 = (rest.flatMap charBits).take (k - 8) := by
      rw [List.flatMap_cons, List.drop_take, List.drop_left' (charBits_length c)]
    rw [readChars, front, tail, readChar_of_prefix, ih]

/-- The level of a data bit (R62). -/
theorem charLevel_data {c : Byte} {i : Nat} {b : Bool} (h : (charBits c)[i]? = some b) : charLevel c (i + 1) = bitLevel b := by
  have less : i < 8 := by
    rw [← charBits_length c]
    exact (List.getElem?_eq_some_iff.mp h).1
  simp [charLevel, List.getD_eq_getElem?_getD, h, Nat.succ_le_of_lt less]

end Sys2Proof.Machine
end

section
open Sys2Proof.Machine

/-- Settles O27: `readFrame_iff` reads back what was written; the rest is the layout of `frameChars`. -/
theorem frameReadsBack : Obligations.FrameReadsBack := by
  intro sender f admissible
  have short := f.count_le admissible
  refine ⟨(readFrame_iff _ sender f).mpr ⟨admissible, rfl⟩, by simp [frameChars], by simp [frameChars], ?_,
    frameChars_length sender f, short⟩
  have count : (char8 f.count).toNat = f.count := char8_toNat (by omega)
  have payload : (bodyChars f.body).length = f.count := rfl
  simp [Sys2Proof.contentsWellFormed, frameContents, count, payload, short]

/-- Settles O30: bits by `spellOn_first_difference`, heads by the number they stand for (`headChar_toNat`). -/
theorem lowerHeadWinsArbitration : Obligations.LowerHeadWinsArbitration := by
  constructor
  · intro a b less
    rw [← bitsNumber_charBits a, ← bitsNumber_charBits b, ← spellOn_zero, ← spellOn_zero] at less
    obtain ⟨i, inside, front, zero, one⟩ := spellOn_first_difference (charBits a) (charBits b) 0 rfl less
    exact ⟨i, inside, front, charLevel_data zero, charLevel_data one⟩
  · intro r q j k
    have code : kindCode j = kindCode k ↔ j = k := by cases j <;> cases k <;> decide
    rw [headChar_toNat, headChar_toNat, ← code, Fin.lt_def]
    omega

end

section
/-!
SUPPORT. The commands of the cabinet line that act on the line controller alone (R63, R67, R71): the state with another clock and line, the
line as it falls idle, and what a fall does by phase.
-/

namespace Sys2Proof.Machine

/-- The state at another moment with another line controller. -/
def State.lineAt (s : State) (m : Moment) (l : LineController) : State :=
  { s with now := m, lct := l }

/-- A command that leaves the state at `m` with line `l` has moved clock and line alone. -/
theorem State.lineAt_settled (s : State) (m : Moment) (l : LineController) :
    (s.lineAt m l).settled.now = m ∧ (s.lineAt m l).settled.lct = l ∧
    s.agreesOutside (s.lineAt m l).settled (.now :: .lct :: follows) := by
  simp [State.agreesOutside_iff, follows, State.lineAt]

theorem State.advanceTo_withLine (s : State) (m : Moment) (l : LineController) :
    (s.advanceTo m).withLine l = s.lineAt (max s.now m) l := rfl

theorem State.elapse_withLine (s : State) (dt : Nat) (l : LineController) : (s.elapse dt).withLine l = s.lineAt (s.now + dt) l := rfl

theorem LineController.works_iff (l : LineController) : l.works = true ↔ l.mode ≠ .off ∧ l.stuck = false := by
  simp [LineController.works]

/-! ## Lost arbitration (R67) -/

theorem LineController.sendingFrom_following {l : LineController} {start from' : Moment} {kept : List Bool} {begun : Nat}
    (phase : l.phase = .following from' kept begun) (sending : l.sending = some start) : l.sendingFrom = some start := by
  simp [LineController.sendingFrom, phase, sending]

theorem State.headChars_of_head {s : State} {f : Frame} (h : s.lct.txq.head? = some f) : s.headChars = frameChars s.rank f := by
  obtain ⟨rest, hq⟩ := List.head?_eq_some_iff.mp h
  simp [State.headChars, hq]

/-- The level of a bit of a head's data (R62). -/
theorem frameLevel_head (sender : Rank) (f : Frame) {bit : Nat} {b : Bool} (h : (charBits (headChar sender f.kind))[bit]? = some b) :
    frameLevel (frameChars sender f) 0 (bit + 1) = bitLevel b := by
  simp [frameLevel, frameChars, frameContents, charLevel_data h]

theorem bitsBefore_head (sender : Rank) (f : Frame) (bit : Nat) :
    bitsBefore (frameChars sender f) 0 (bit + 1) = (charBits (headChar sender f.kind)).take bit := by
  simp [bitsBefore, frameChars, frameContents]

/-- Arbitration lost at a data bit of the head that was sent recessive (R67). -/
theorem exec_lostArbitration {s : State} {start from' : Moment} {kept : List Bool} {begun bit : Nat} {f : Frame}
    (phase : s.lct.phase = .following from' kept begun) (sending : s.lct.sending = some start) (head : s.lct.txq.head? = some f)
    (sent : (charBits (headChar s.rank f.kind))[bit]? = some true) :
    exec (.lostArbitration bit) s = .next (s.lineAt (max s.now (start + 480 * (bit + 1) + 240)) { s.lct with
      sending := none, phase := .following start ((charBits (headChar s.rank f.kind)).take bit ++ [false]) 1 }).settled := by
  have inside : bit < 8 := by
    rw [← charBits_length (headChar s.rank f.kind)]
    exact (List.getElem?_eq_some_iff.mp sent).1
  have level : frameLevel s.headChars 0 (bit + 1) = .recessive := by
    rw [s.headChars_of_head head, frameLevel_head s.rank f sent]
    rfl
  have middle : bitMiddle start 0 (bit + 1) = start + 480 * (bit + 1) + 240 := by
    simp [bitMiddle, bitTime, Nat.mul_comm]
  have stopped : s.lct.stopSending start s.headChars 0 (bit + 1) .dominant = { s.lct with
      sending := none, phase := .following start ((charBits (headChar s.rank f.kind)).take bit ++ [false]) 1 } := by
    have read : bitRead (bit + 1) .dominant = [false] := by simp [bitRead, Nat.succ_le_of_lt inside]
    simp [LineController.stopSending, s.headChars_of_head head, bitsBefore_head, read]
  rw [exec, execLostArbitration, s.lct.sendingFrom_following phase sending, done_eq, ← stopped, ← middle, ← State.advanceTo_withLine]
  simp only [inside, level, and_self, if_true]
  rfl

/-! ## The idle gap and falls (R63, R71) -/

/-- A line that falls idle, its stuck flag clear: a RUNNING node with a queued frame begins it, any other stands idle (R63). -/
theorem LineController.beginIfReady_idle (l : LineController) (m : Moment) (unstuck : l.stuck = false) :
    (l.mode = .running ∧ l.txq ≠ [] → { l with phase := .idle }.beginIfReady m =
      { l with phase := .following m [] 1, sending := some m, stretch := some m }) ∧
    (¬(l.mode = .running ∧ l.txq ≠ []) → { l with phase := .idle }.beginIfReady m = { l with phase := .idle }) := by
  unfold LineController.beginIfReady
  split
  · next mode txq =>
    have mode : l.mode = .running := mode
    have txq : l.txq ≠ [] := List.ne_nil_of_length_eq_add_one (congrArg List.length txq)
    simp [mode, txq, unstuck, LineController.beginFrame]
  · next other =>
    refine ⟨fun ⟨mode, txq⟩ => ?_, fun _ => rfl⟩
    obtain ⟨f, rest, hq⟩ := List.exists_cons_of_ne_nil txq
    exact absurd hq (other f rest rfl mode)

theorem exec_lineIdle {s : State} (dt : Nat) (on : s.lct.mode ≠ .off) (unstuck : s.lct.stuck = false) :
    exec (.lineIdle dt) s = .next (s.elapse dt).gapMet.settled := by
  have works : s.lct.works = true := by simp [LineController.works_iff, on, unstuck]
  simp [exec, execLineIdle, done_eq, works]

/-- The gap met after the end of a frame or after a discarded one (R63). -/
theorem State.gapMet_of_gap {s : State} (dt : Nat) {since : Moment} (phase : s.lct.phase = .gap since ∨ s.lct.phase = .spoilt since) :
    (s.elapse dt).gapMet = s.lineAt (max (s.now + dt) (since + 5760))
      ({ s.lct with phase := .idle }.beginIfReady (max (s.now + dt) (since + 5760))) := by
  obtain phase | phase := phase <;> simp only [State.gapMet, State.elapse_frame, phase] <;> rfl

/-- The gap met in a followed frame: a short frame (R71). -/
theorem State.gapMet_of_following {s : State} (dt : Nat) {start : Moment} {kept : List Bool} {begun : Nat}
    (phase : s.lct.phase = .following start kept begun) (sending : s.lct.sending = none) :
    (s.elapse dt).gapMet = s.lineAt (s.now + dt)
      ({ s.lct with shortFrame := countError s.lct.shortFrame, phase := .idle }.beginIfReady (s.now + dt)) := by
  simp only [State.gapMet, State.elapse_frame, phase, sending]
  rfl

/-- A counter of the line saturates at 255 (R78). -/
theorem countError_eq (n : Nat) : countError n = if n < 255 then n + 1 else 255 := by
  unfold countError satInc
  split
  · rfl
  · rfl

theorem exec_lineFall {s : State} (dt : Nat) (middle : Level) (read : List Bool) (on : s.lct.mode ≠ .off) (unstuck : s.lct.stuck = false) :
    exec (.lineFall dt ⟨middle, read⟩) s = .next (s.lineAt (s.now + dt)
      ({ s.lct with stretch := some (s.now + dt) }.fall (s.now + dt) middle read)).settled := by
  rw [exec, execLineFall, done_eq]
  cases mode : s.lct.mode with
  | off => exact absurd mode on
  | _ => simp only [State.elapse_frame, mode, unstuck]; rfl

theorem LineController.hear_eq (l : LineController) (m : Moment) (middle : Level) :
    l.hear m middle = { l with phase := if middle = .dominant then .following m [] 1 else .gap m } := by
  cases middle <;> rfl

/-- A fall on an idle line is joined by a node that has a frame to send, and heard by any other (R63). -/
theorem LineController.fall_of_idle {l : LineController} (m : Moment) (middle : Level) (read : List Bool) (phase : l.phase = .idle) :
    (l.mode = .running ∧ l.txq ≠ [] → l.fall m middle read =
      { l with phase := .following m [] 1, sending := some m, stretch := some m }) ∧
    (¬(l.mode = .running ∧ l.txq ≠ []) → l.fall m middle read =
      { l with phase := if middle = .dominant then .following m [] 1 else .gap m }) := by
  simp only [LineController.fall, phase, LineController.fallOnIdle]
  split
  · next mode txq => simp [mode, txq, LineController.beginFrame]
  · next other =>
    refine ⟨fun ⟨mode, txq⟩ => ?_, fun _ => l.hear_eq m middle⟩
    obtain ⟨f, rest, hq⟩ := List.exists_cons_of_ne_nil txq
    exact absurd hq (other f rest mode)

/-- A fall begins a character of a frame whose bits read are whole characters while characters of it are missing (R62, R64). -/
theorem beginsChar_of_chars (start : Moment) (bits : List Bool) (begun : Nat) (m : Moment) (middle : Level) :
    beginsChar start bits begun m middle = true ↔
      bits.length % 8 = 0 ∧ begun ≤ bits.length / 8 ∧ start + 4800 * (bits.length / 8) < m + 240 ∧
        (bits.length / 8 < 3 ∨ bits.length / 8 < 4 + bitsNumber ((bits.drop 16).take 8)) ∧ middle = .dominant := by
  rw [beginsChar_iff, Nat.mul_comm 4800]
  refine and_congr_right fun whole => and_congr_right fun _ => and_congr_right fun _ => and_congr_left fun _ => ?_
  simp only [frameComplete, Bool.and_eq_false_iff, decide_eq_false_iff_not, Nat.not_le]
  omega

theorem readOn_of_chars (start : Moment) (kept read : List Bool) (begun : Nat) (m : Moment) (middle : Level) :
    readOn start kept read begun m middle =
      if (kept ++ read).length % 8 = 0 ∧ begun ≤ (kept ++ read).length / 8 ∧ start + 4800 * ((kept ++ read).length / 8) < m + 240 ∧
        ((kept ++ read).length / 8 < 3 ∨ (kept ++ read).length / 8 < 4 + bitsNumber (((kept ++ read).drop 16).take 8)) ∧
          middle = .dominant then
        .following (m - 4800 * ((kept ++ read).length / 8)) (kept ++ read) ((kept ++ read).length / 8 + 1)
      else .following start (kept ++ read) begun := by
  simp only [readOn_eq, beginsChar_of_chars, Nat.mul_comm 4800]

end Sys2Proof.Machine
end

section
open Sys2Proof.Machine

/-- Settles O29: `exec_lostArbitration`. -/
theorem lostArbitrationFollowsOn : Obligations.LostArbitrationFollowsOn := by
  intro s bit start sending from' kept begun phase f head sent
  obtain ⟨now, lct, same⟩ := s.lineAt_settled (max s.now (start + 480 * (bit + 1) + 240)) { s.lct with
    sending := none, phase := .following start ((charBits (headChar s.rank f.kind)).take bit ++ [false]) 1 }
  exact ⟨_, exec_lostArbitration phase sending head sent, now, lct, same⟩

/-- Settles O28: the gap by `LineController.beginIfReady_idle`, falls by phase. -/
theorem idleLineBeginsHead : Obligations.IdleLineBeginsHead := by
  intro s dt on unstuck ready
  refine ⟨fun since phase => ?_, fun start kept begun phase sending => ?_, fun middle read => ?_⟩
  · obtain ⟨begins, idles⟩ := s.lct.beginIfReady_idle (max (s.now + dt) (since + 5760)) unstuck
    obtain ⟨now, lct, same⟩ := s.lineAt_settled (max (s.now + dt) (since + 5760))
      ({ s.lct with phase := .idle }.beginIfReady (max (s.now + dt) (since + 5760)))
    refine ⟨_, exec_lineIdle dt on unstuck, ?_⟩
    rw [s.gapMet_of_gap dt phase]
    refine ⟨now, fun hready => ?_, fun hready => ?_, same⟩
    · rw [lct, now, begins hready]
    · rw [lct, idles hready]
  · obtain ⟨begins, idles⟩ :=
      { s.lct with shortFrame := countError s.lct.shortFrame }.beginIfReady_idle (s.now + dt) unstuck
    obtain ⟨now, lct, same⟩ := s.lineAt_settled (s.now + dt)
      ({ s.lct with shortFrame := countError s.lct.shortFrame, phase := .idle }.beginIfReady (s.now + dt))
    refine ⟨_, exec_lineIdle dt on unstuck, ?_⟩
    rw [s.gapMet_of_following dt phase sending]
    have counted : ({ s.lct with shortFrame := countError s.lct.shortFrame, phase := .idle }.beginIfReady (s.now + dt)).shortFrame =
        countError s.lct.shortFrame := by
      by_cases hready : s.lct.mode = .running ∧ s.lct.txq ≠ []
      · exact congrArg LineController.shortFrame (begins hready)
      · exact congrArg LineController.shortFrame (idles hready)
    refine ⟨now, ?_, fun hready => ?_, fun hready => ?_, same⟩
    · rw [lct, counted, countError_eq]
    · rw [lct, counted, now]
      exact begins hready
    · rw [lct, counted]
      exact idles hready
  · refine ⟨_, exec_lineFall dt middle read on unstuck, ?_⟩
    obtain ⟨now, lct, same⟩ := s.lineAt_settled (s.now + dt)
      ({ s.lct with stretch := some (s.now + dt) }.fall (s.now + dt) middle read)
    rw [now, lct]
    refine ⟨rfl, fun phase hready => ?_, fun phase hready => ?_, fun since phase => ?_, fun since phase => ?_,
      fun start kept begun phase sending => ?_, fun start kept begun phase sending => ?_, fun start taken phase => ?_, same⟩
    · exact (LineController.fall_of_idle (l := { s.lct with stretch := some (s.now + dt) }) _ middle read phase).1 hready
    · exact (LineController.fall_of_idle (l := { s.lct with stretch := some (s.now + dt) }) _ middle read phase).2 hready
    · simp only [LineController.fall, phase, LineController.hear_eq]
    · simp only [LineController.fall, phase]
    · simp only [LineController.fall, LineController.fallInFrame, phase, sending, readOn_of_chars]
      rfl
    · obtain ⟨m, sends⟩ := Option.ne_none_iff_exists'.mp sending
      simp only [LineController.fall, LineController.fallInFrame, phase, sends]
    · simp only [LineController.fall, phase]

end

section
/-!
SUPPORT. Frames judged (R71 to R74): the state each judgement leaves, and what is judged of the characters of a frame of which the node has
read any of the bits already.
-/

namespace Sys2Proof.Machine

theorem State.settled_lct (s : State) : s.settled.lct = s.lct := by simp

theorem exec_framingError {s : State} (dt : Nat) (kind : FramingKind) {start : Moment} {kept : List Bool} {begun : Nat}
    (phase : s.lct.phase = .following start kept begun) (sending : s.lct.sending = none) :
    exec (.framingError dt kind) s = .next (s.lineAt (s.now + dt)
      { s.lct with phase := .spoilt (s.now + dt), checkError := countError s.lct.checkError }).settled := by
  rw [exec, execFramingError, done_eq]
  simp only [State.framingFails, LineController.discard, State.elapse_frame, phase, sending]
  rfl

/-! ## What is judged -/

/-- A frame of another node followed to its check is judged at its window (R72). -/
theorem exec_frameJudged_of_receiver {s : State} (contents : List Byte) (check : Byte) (gap : Bool) {start : Moment} {kept : List Bool}
    {begun : Nat} {j : Judgement} (phase : s.lct.phase = .following start kept begun) (sending : s.lct.sending = none)
    (judged : s.lct.judge s.rank kept (contents ++ [check]) gap = j) {window : Moment}
    (at' : window = start + (10 * (contents ++ [check]).length + 2) * 480) :
    exec (.frameJudged contents check gap) s = .next
      ((s.lineAt (max s.now window) { s.lct with phase := .window window j.isTaken }).applyJudgement window j).settled := by
  subst at'
  rw [exec, execFrameJudged, done_eq]
  simp only [phase, State.judgeAt, State.advanceTo_frame, judged, State.followedChars, sending]
  rfl

/-- The frame a node sends itself is passed over at its window, whatever is heard (R71, R72). -/
theorem exec_frameJudged_of_sender {s : State} (contents : List Byte) (check : Byte) (gap : Bool) {start : Moment} {kept : List Bool}
    {begun : Nat} {f : Frame} (phase : s.lct.phase = .following start kept begun) (sending : s.lct.sending ≠ none)
    (head : s.lct.txq.head? = some f) {window : Moment} (at' : window = start + (10 * (frameChars s.rank f).length + 2) * 480) :
    exec (.frameJudged contents check gap) s = .next
      (s.lineAt (max s.now window) { s.lct with phase := .window window false }).settled := by
  subst at'
  obtain ⟨m, sends⟩ := Option.ne_none_iff_exists'.mp sending
  have own : s.lct.judge s.rank kept (contents ++ [check]) gap = .passedOver := by simp [LineController.judge, sends]
  rw [exec, execFrameJudged, done_eq]
  simp only [phase, State.judgeAt, State.advanceTo_frame, own, State.followedChars, sends, s.headChars_of_head head]
  rfl

/-- A dominant level before the window refuses the frame (R72). -/
theorem LineController.judge_of_gap {l : LineController} (rank : Rank) (kept : List Bool) (chars : List Byte) (sending : l.sending = none) :
    l.judge rank kept chars true = .refusedCheck := by
  simp [LineController.judge, sending]

/-- Whichever of its bits the node had read already, a frame is judged by its own characters (R67, R71, R72). -/
theorem LineController.judge_of_own_bits {l : LineController} (rank : Rank) {kept : List Bool} {chars : List Byte} {k : Nat}
    (sending : l.sending = none) (own : kept = (chars.flatMap charBits).take k) :
    l.judge rank kept chars false = judgeContents rank l.rxq.length chars := by
  rw [LineController.judge, own, readChars_of_prefix]
  simp [sending]

/-- A wrong check, or contents no admissible frame has, are refused (R72). -/
theorem judgeContents_of_spoilt (rank : Rank) (n : Nat) {contents : List Byte} {check : Byte}
    (spoilt : check ≠ crc8 contents ∨ ∀ (sender : Rank) (f : Frame), f.admissible = true → frameContents sender f ≠ contents) :
    judgeContents rank n (contents ++ [check]) = .refusedCheck := by
  unfold judgeContents
  rw [List.getLast?_concat, List.dropLast_concat]
  split
  · rfl
  · next right =>
    have none : readFrame contents = none := by
      rw [Option.eq_none_iff_forall_ne_some]
      rintro ⟨sender, f⟩ read
      obtain ⟨admissible, same⟩ := (readFrame_iff contents sender f).mp read
      exact (spoilt.resolve_left fun wrong => right fun h => wrong (Option.some.inj h)) sender f admissible same.symm
    rw [none]

/-- A right frame is judged by sender, target and room (R72 to R74). -/
theorem judgeContents_of_frame (rank : Rank) (n : Nat) (sender : Rank) {f : Frame} (admissible : f.admissible = true) :
    judgeContents rank n (frameChars sender f) =
      if sender = rank then .rankClash
      else if f.target ≠ .rank rank ∧ f.target ≠ .all then .passedOver
      else if 4 ≤ n then .refusedOverrun
      else .taken sender f := by
  have read := (readFrame_iff (frameContents sender f) sender f).mpr ⟨admissible, rfl⟩
  unfold judgeContents frameChars
  simp only [List.getLast?_concat, List.dropLast_concat, ne_eq, not_true_eq_false, if_false, read]
  rfl

/-! ## What the judgement does (R72) -/

theorem LineController.acking_of_taken (l : LineController) (window : Moment) :
    (match l.mode with
      | .running => some window
      | _ => none) = if l.mode = .running then some window else none := by
  cases l.mode <;> rfl

/-- A frame taken is held, and acknowledged in RUNNING (R66, R72). -/
theorem State.applyJudgement_taken (s : State) (window : Moment) (sender : Rank) (f : Frame) :
    s.applyJudgement window (.taken sender f) = s.lineAt s.now { s.lct with
      rxq := s.lct.rxq ++ [RxEntry.mk sender f true], acking := if s.lct.mode = .running then some window else none } := by
  unfold State.applyJudgement State.withLine State.lineAt
  cases s.lct.mode <;> rfl

/-! ## RANK CLASH (R74, R101) -/

/-- What entering WITHDRAWN leaves of line and engine (R101). -/
theorem State.withdraw_of_working {s : State} (reason : WithdrawalReason) (role : s.spe.role ≠ .withdrawn) :
    (s.withdraw reason).lct = s.lct.muteCommand ∧ (s.withdraw reason).spe.role = .withdrawn ∧
    (s.withdraw reason).spe.withdrawal = some reason := by
  unfold State.withdraw
  split
  · next withdrawn => exact absurd withdrawn role
  · exact ⟨by simp, by simp, by simp [State.setRole_spe, role]⟩

theorem State.speRankClash_of_working {s : State} (role : s.spe.role ≠ .withdrawn) :
    s.speRankClash.lct = s.lct.muteCommand ∧ s.speRankClash.spe.role = .withdrawn ∧
    s.speRankClash.spe.withdrawal = some .rankClash := by
  unfold State.speRankClash
  split
  · obtain ⟨lct, role', reason⟩ := s.passFails.withdraw_of_working .rankClash (by simpa [State.passFails] using role)
    exact ⟨by simpa [State.passFails] using lct, role', reason⟩
  · exact s.withdraw_of_working .rankClash role

theorem State.speRankClash_of_withdrawn {s : State} (role : s.spe.role = .withdrawn) : s.speRankClash = s := by
  simp [State.speRankClash, State.withdraw, role]

/-- A frame of the own rank mutes a RUNNING line and withdraws the node (R74, R101). -/
theorem State.applyJudgement_rankClash {s : State} (window : Moment) (mode : s.lct.mode = .running) (role : s.spe.role ≠ .withdrawn) :
    (s.applyJudgement window .rankClash).lct = { s.lct with rankClash := true }.mute ∧
    (s.applyJudgement window .rankClash).spe.role = .withdrawn ∧
    (s.applyJudgement window .rankClash).spe.withdrawal = some .rankClash := by
  obtain ⟨lct, role', reason⟩ := (s.withLine { s.lct with rankClash := true }).speRankClash_of_working role
  have muted : { s.lct with rankClash := true }.muteCommand = { s.lct with rankClash := true }.mute := by
    simp [LineController.muteCommand, mode]
  rw [State.withLine_lct, muted] at lct
  refine ⟨?_, role', reason⟩
  rw [State.applyJudgement, State.withLine_lct, lct]
  rfl

/-- In MUTE a withdrawn node latches RANK CLASH alone (R74). -/
theorem State.applyJudgement_rankClash_of_withdrawn {s : State} (window : Moment) (mode : s.lct.mode = .mute)
    (role : s.spe.role = .withdrawn) :
    s.applyJudgement window .rankClash = s.lineAt s.now { s.lct with rankClash := true } := by
  have silent : (s.withLine { s.lct with rankClash := true }).speRankClash = s.withLine { s.lct with rankClash := true } :=
    State.speRankClash_of_withdrawn role
  have muted : { s.lct with rankClash := true }.muteCommand = { s.lct with rankClash := true } := by
    simp [LineController.muteCommand, mode]
  rw [State.applyJudgement, silent, State.withLine_lct, muted]
  rfl

end Sys2Proof.Machine
end

section
open Sys2Proof.Machine

/-- Settles O32: `judgeContents_of_frame` takes the frame, `exec_frameJudged` applies the judgement. -/
theorem goodFrameIsTaken : Obligations.GoodFrameIsTaken := by
  intro s k begun start sender f admissible other target chars phase sending room window
  have here : ¬(f.target ≠ .rank s.rank ∧ f.target ≠ .all) := by tauto
  have taken : s.lct.judge s.rank ((chars.flatMap charBits).take k) chars false = .taken sender f := by
    rw [LineController.judge_of_own_bits _ sending rfl, judgeContents_of_frame _ _ _ admissible, if_neg other, if_neg here,
      if_neg (Nat.not_le.mpr room)]
  obtain ⟨now, lct, same⟩ := s.lineAt_settled (max s.now window) { s.lct with
    phase := .window window true, rxq := s.lct.rxq ++ [RxEntry.mk sender f true]
    acking := if s.lct.mode = .running then some window else none }
  refine ⟨_, exec_frameJudged_of_receiver _ _ _ phase sending taken rfl, ?_⟩
  rw [State.applyJudgement_taken]
  exact ⟨now, lct, same⟩

/-- Settles O33: by what spoils the frame, each judgement by its effect. -/
theorem badFrameIsRefused : Obligations.BadFrameIsRefused := by
  intro s start kept begun phase window counted
  have hcounted : counted = countError s.lct.checkError := (countError_eq _).symm
  refine ⟨fun sending dt kind => ?_, fun sending contents check gap k spoilt => ?_, fun sending sender f k admissible => ?_,
    fun f head sending contents check gap => ?_⟩
  · obtain ⟨now, lct, same⟩ := s.lineAt_settled (s.now + dt)
      { s.lct with phase := .spoilt (s.now + dt), checkError := countError s.lct.checkError }
    exact ⟨_, exec_framingError dt kind phase sending, now, by rw [lct, now, hcounted], same⟩
  · have refused : s.lct.judge s.rank kept (contents ++ [check]) gap = .refusedCheck := by
      cases gap with
      | true => exact LineController.judge_of_gap _ _ _ sending
      | false =>
        obtain ⟨own, wrong⟩ := spoilt.resolve_left (by decide)
        rw [LineController.judge_of_own_bits _ sending own, judgeContents_of_spoilt _ _ wrong]
    obtain ⟨now, lct, same⟩ := s.lineAt_settled (max s.now (window (contents ++ [check])))
      { s.lct with phase := .window (window (contents ++ [check])) false, checkError := counted }
    rw [hcounted] at lct same ⊢
    exact ⟨_, exec_frameJudged_of_receiver _ _ _ phase sending refused rfl, now, lct, same⟩
  · intro chars own
    obtain ⟨m, hm⟩ : ∃ m, m = window chars := ⟨_, rfl⟩
    obtain ⟨j, hj⟩ : ∃ j, judgeContents s.rank s.lct.rxq.length chars = j := ⟨_, rfl⟩
    have judged : s.lct.judge s.rank kept chars false = j := (LineController.judge_of_own_bits _ sending own).trans hj
    rw [judgeContents_of_frame _ _ _ admissible] at hj
    rw [← hm]
    refine ⟨_, exec_frameJudged_of_receiver _ _ _ phase sending judged hm, by simp [State.lineAt],
      fun other away broadcast => ?_, fun other here full => ?_, fun rank running working => ?_, fun rank mute withdrawn => ?_⟩
    · rw [if_neg other, if_pos ⟨away, broadcast⟩] at hj
      subst hj
      exact (s.lineAt_settled _ _).2
    · rw [if_neg other, if_neg (by tauto), if_pos full] at hj
      subst hj
      rw [← countError_eq]
      exact (s.lineAt_settled (max s.now m) { s.lct with phase := .window m false, overrun := countError s.lct.overrun }).2
    · rw [if_pos rank] at hj
      subst hj
      simp only [Judgement.isTaken]
      obtain ⟨lct, role, reason⟩ :=
        State.applyJudgement_rankClash (s := s.lineAt (max s.now m) { s.lct with phase := .window m false }) m running working
      rw [State.settled_lct, lct]
      exact ⟨rfl, rfl, rfl, rfl, rfl, by simpa using role, by simpa using reason,
        by simp [State.agreesOutside_iff, follows, reached, State.lineAt]⟩
    · rw [if_pos rank] at hj
      subst hj
      simp only [Judgement.isTaken]
      rw [State.applyJudgement_rankClash_of_withdrawn (s := s.lineAt (max s.now m) { s.lct with phase := .window m false }) m mute
        withdrawn]
      exact (s.lineAt_settled (max s.now m) { s.lct with phase := .window m false, rankClash := true }).2
  · obtain ⟨now, lct, same⟩ := s.lineAt_settled (max s.now (window (frameChars s.rank f)))
      { s.lct with phase := .window (window (frameChars s.rank f)) false }
    exact ⟨_, exec_frameJudged_of_sender _ _ _ phase sending head rfl, now, lct, same⟩

end

section
/-!
SUPPORT. Reports and sending (R69, R76, R77, R89, R98): what a report leaves of roster and requests, and that on a line that is not idle
whatever SPACE sends moves the queue alone.
-/

namespace Sys2Proof.Machine

/-! ## Reports (R89) -/

theorem State.report_roster (s : State) (rep : Report) (f : Frame) : (s.report rep f).roster = (s.rosterReport rep f).roster := by
  simp [State.report]

theorem State.report_lct (s : State) (rep : Report) (f : Frame) : (s.report rep f).lct = s.lct := by simp

/-- The entry of a peer is its roster entry (R83, R84). -/
theorem State.entry_of_peer {s : State} {r : Rank} (peer : r ≠ s.rank) : s.entry r = s.roster[r] := if_neg peer

theorem State.setEntry_entry {s : State} {r : Rank} (e : RosterEntry) (peer : r ≠ s.rank) : (s.setEntry r e).roster[r] = e := by
  simp [State.setEntry, peer]

/-- A delivered frame makes its target PRESENT, an undelivered one SILENT (R89). -/
theorem State.report_entry_of_addressed {s : State} {f : Frame} {r : Rank} (target : f.target = .rank r) (peer : r ≠ s.rank) :
    ((s.report .delivered f).entry r).presence = .present ∧ ((s.report .undelivered f).entry r).presence = .silent := by
  have silent : (s.rosterSilent r).roster = (s.setEntry r { s.roster[r] with presence := .silent }).roster := by
    simp only [State.rosterSilent]
    split <;> rfl
  constructor
  · rw [State.entry_of_peer (by simpa using peer), State.report_roster]
    simp only [State.rosterReport, target, State.rosterPresent, State.setEntry_entry _ peer]
  · rw [State.entry_of_peer (by simpa using peer), State.report_roster]
    simp only [State.rosterReport, target, silent, State.setEntry_entry _ peer]

/-- A change of role asks for nothing new (R98). -/
theorem State.setRole_requests_nil {s : State} (role : Role) (none : s.spe.requests = []) : (s.setRole role).spe.requests = [] := by
  rw [State.setRole_spe]
  split
  · exact none
  · simp [Spe.enterRole, none]

theorem State.offerFails_requests_nil {s : State} (reason : Notice) (none : s.spe.requests = []) :
    (s.offerFails reason).spe.requests = [] := by
  simpa [State.offerFails] using State.setRole_requests_nil .holding none

theorem State.handoverCompletes_requests_nil {s : State} (target : Rank) (none : s.spe.requests = []) :
    (s.handoverCompletes target).spe.requests = [] := by
  simpa [State.handoverCompletes] using
    State.setRole_requests_nil (s := { s with spe := { s.spe with view := some target } }) .standby none

/-- A report asks for nothing new. -/
theorem State.report_requests_nil {s : State} (rep : Report) (f : Frame) (none : s.spe.requests = []) :
    (s.report rep f).spe.requests = [] := by
  have recovered : ((s.rosterReport rep f).recoveryReport f).spe.requests = [] := by
    unfold State.recoveryReport
    split
    · split <;> simpa using none
    · simpa using none
  unfold State.report State.roleReport
  split
  · exact recovered
  · split
    · exact State.offerFails_requests_nil _ recovered
    · exact recovered
  · split
    · next target _ =>
      split
      · split
        · exact State.handoverCompletes_requests_nil target recovered
        · exact State.offerFails_requests_nil _ (by simp [State.passFails, recovered])
        · exact recovered
      · exact recovered
    · exact recovered
  · split
    · split <;> exact recovered
    · exact recovered
  · exact recovered

/-! ## The queue of a line that is not idle (R63, R76) -/

/-- A frame begins on an idle line alone (R63). -/
theorem LineController.beginIfReady_of_busy {l : LineController} (busy : l.phase ≠ .idle) (now : Moment) : l.beginIfReady now = l := by
  unfold LineController.beginIfReady
  split
  · next idle _ _ => exact absurd idle busy
  · rfl

/-- A frame accepted on a line that is not idle waits behind the others (R76). -/
theorem LineController.enqueue_of_accepted {l : LineController} {f : Frame} (busy : l.phase ≠ .idle) (now : Moment)
    (accepted : l.answerTo f = .accepted) :
    l.enqueue now f = { l with txq := l.txq ++ [f], attempts := if l.txq = [] then 0 else l.attempts } := by
  have unbegun := LineController.beginIfReady_of_busy
    (l := { l with txq := l.txq ++ [f], attempts := if l.txq.isEmpty then 0 else l.attempts }) busy now
  simpa [LineController.enqueue, accepted] using unbegun

/-- `m` is `l` but for the transmit queue and the attempts of its head. -/
def LineController.SameButQueue (l m : LineController) : Prop :=
  m = { l with txq := m.txq, attempts := m.attempts }

namespace LineController.SameButQueue

variable {l m n : LineController}

theorem refl (l : LineController) : l.SameButQueue l := rfl

theorem trans (h : l.SameButQueue m) (h' : m.SameButQueue n) : l.SameButQueue n := by
  unfold SameButQueue at h h' ⊢
  rw [h] at h'
  exact h'

theorem phase (h : l.SameButQueue m) : m.phase = l.phase := by
  unfold SameButQueue at h
  rw [h]

theorem wire (h : l.SameButQueue m) : m.sending = l.sending ∧ m.acking = l.acking ∧ m.clash = l.clash := by
  unfold SameButQueue at h
  rw [h]
  exact ⟨rfl, rfl, rfl⟩

/-- A frame enqueued on a line that is not idle is not begun (R63). -/
theorem enqueue (busy : l.phase ≠ .idle) (now : Moment) (f : Frame) : l.SameButQueue (l.enqueue now f) := by
  cases answer : l.answerTo f with
  | accepted =>
    rw [l.enqueue_of_accepted busy now answer]
    rfl
  | _ =>
    simp only [LineController.enqueue, answer]
    rfl

end LineController.SameButQueue

/-- A request tried on a line that is not idle moves the queue alone (R76, R80). -/
theorem State.tryEnqueue_sameButQueue {s : State} (busy : s.lct.phase ≠ .idle) (q : PendingRequest) :
    s.lct.SameButQueue (s.tryEnqueue q).lct := by
  simp only [State.tryEnqueue]
  split
  · simpa using LineController.SameButQueue.refl s.lct
  · exact .enqueue busy _ _

theorem State.drainRequests_sameButQueue {s : State} (busy : s.lct.phase ≠ .idle) (qs : List PendingRequest) :
    s.lct.SameButQueue (s.drainRequests qs).lct := by
  induction qs generalizing s with
  | nil => exact .refl _
  | cons q rest ih =>
    unfold State.drainRequests
    split
    · split
      · exact .refl _
      · have tried := State.tryEnqueue_sameButQueue (s := { s with spe := s.spe.clearRequest q }) busy q
        exact tried.trans (ih (by rw [tried.phase]; exact busy))
    · exact ih busy

/-- SPACE on a line that is not idle moves its queue alone (R77, R98). -/
theorem State.space_sameButQueue {s : State} (busy : s.lct.phase ≠ .idle) : s.lct.SameButQueue s.space.lct :=
  State.drainRequests_sameButQueue busy _

theorem State.space_of_nil {s : State} (none : s.spe.requests = []) : s.space = s := by
  simp [State.space, none, State.drainRequests]

/-! ## The head reported (R69, R77) -/

/-- The state without the head of its queue (R77). -/
def State.headDropped (s : State) : State :=
  { s with lct := { s.lct with txq := s.lct.txq.tail, attempts := 0 } }

theorem State.reportHead_of_head {s : State} (rep : Report) {f : Frame} (head : s.lct.txq.head? = some f) :
    s.reportHead rep = if s.lct.txq.length = 4 then (s.headDropped.report rep f).space else s.headDropped.report rep f := by
  obtain ⟨rest, hq⟩ := List.head?_eq_some_iff.mp head
  simp only [State.reportHead, hq]
  rfl

/-- Without a pending request, or without a full queue, a report hands nothing (R77, R98). -/
theorem State.reportHead_of_quiet {s : State} (rep : Report) {f : Frame} (head : s.lct.txq.head? = some f)
    (quiet : s.lct.txq.length ≠ 4 ∨ s.spe.requests = []) : s.reportHead rep = s.headDropped.report rep f := by
  rw [State.reportHead_of_head rep head]
  split
  · next full =>
    exact State.space_of_nil (State.report_requests_nil rep f (quiet.resolve_left (not_not_intro full)))
  · rfl

/-- What such a report leaves of line and roster (R77, R89). -/
theorem State.reportHead_settled_of_quiet {s : State} (rep : Report) {f : Frame} (head : s.lct.txq.head? = some f)
    (quiet : s.lct.txq.length ≠ 4 ∨ s.spe.requests = []) :
    (s.reportHead rep).settled.lct = { s.lct with txq := s.lct.txq.tail, attempts := 0 } ∧
    (∀ r, f.target = .rank r → r ≠ s.rank →
      (rep = .delivered → ((s.reportHead rep).settled.entry r).presence = .present) ∧
      (rep = .undelivered → ((s.reportHead rep).settled.entry r).presence = .silent)) ∧
    (f.target = .all → (s.reportHead rep).settled.roster = s.roster) := by
  rw [State.reportHead_of_quiet rep head quiet, State.settled_lct, State.report_lct]
  refine ⟨rfl, fun r target peer => ?_, fun broadcast => ?_⟩
  · obtain ⟨present, silent⟩ := State.report_entry_of_addressed (s := s.headDropped) target peer
    rw [State.settled_entry]
    constructor
    · rintro rfl
      exact present
    · rintro rfl
      exact silent
  · simp [State.report_roster_of_all _ _ _ broadcast, State.headDropped]

/-- Whatever SPACE sends, the head's report moves of a line that is not idle the queue alone. -/
theorem State.reportHead_sameButQueue {s : State} (rep : Report) {f : Frame} (head : s.lct.txq.head? = some f)
    (busy : s.lct.phase ≠ .idle) : s.lct.SameButQueue (s.reportHead rep).lct := by
  have reported : (s.headDropped.report rep f).lct = s.headDropped.lct := by simp
  have dropped : s.lct.SameButQueue s.headDropped.lct := rfl
  rw [State.reportHead_of_head rep head]
  split
  · have spaced := State.space_sameButQueue (s := s.headDropped.report rep f) (by rw [reported]; exact busy)
    rw [reported] at spaced
    exact dropped.trans spaced
  · rw [reported]
    exact dropped

/-! ## Failed attempts (R68, R69) -/

theorem State.attemptFails_of_head {s : State} {f : Frame} (head : s.lct.txq.head? = some f) :
    s.attemptFails = if s.lct.attempts < 3 then s.lineAt s.now { s.lct with attempts := s.lct.attempts + 1 }
      else s.reportHead (if f.target = .all then .unheard else .undelivered) := by
  obtain ⟨rest, hq⟩ := List.head?_eq_some_iff.mp head
  rw [← failedReport_eq]
  simp only [State.attemptFails, hq]
  rfl

theorem State.attemptFails_sameButQueue {s : State} {f : Frame} (head : s.lct.txq.head? = some f) (busy : s.lct.phase ≠ .idle) :
    s.lct.SameButQueue s.attemptFails.lct := by
  rw [State.attemptFails_of_head head]
  split
  · rfl
  · exact State.reportHead_sameButQueue _ head busy

/-- A node that neither sends nor acknowledges drives nothing (R62, R66). -/
theorem State.clineDriven_of_released {s : State} (sending : s.lct.sending = none) (acking : s.lct.acking = none) :
    s.clineDriven = .recessive := by
  simp [State.clineDriven, sending, acking]

end Sys2Proof.Machine
end

section
/-!
SUPPORT. A bit clash (R68): the line as the sender leaves it, and the attempt that fails.
-/

namespace Sys2Proof.Machine

/-- The line of a sender that stops at bit `bit` of character `char`, its clash counted (R62, R68, R71). -/
def LineController.clashedAt (l : LineController) (phase : LinePhase) : LineController :=
  { l with sending := none, phase := phase, clash := countError l.clash }

/-- A bit read otherwise than it was sent, arbitration aside, is a clash (R68). -/
theorem exec_bitClash {s : State} {char bit : Nat} {read : Level} {start from' : Moment} {kept : List Bool} {begun : Nat} {f : Frame}
    (sending : s.lct.sending = some start) (phase : s.lct.phase = .following from' kept begun) (head : s.lct.txq.head? = some f)
    (inFrame : char < (frameChars s.rank f).length) (inChar : bit < 10) (differ : frameLevel (frameChars s.rank f) char bit ≠ read)
    (dominant : char = 0 → 1 ≤ bit → bit ≤ 8 → frameLevel (frameChars s.rank f) char bit = .dominant) :
    exec (.bitClash char bit read) s = .next
      ((s.lineAt (max s.now (start + 480 * (10 * char + bit) + 240)) (s.lct.clashedAt
        (.following start (bitsBefore (frameChars s.rank f) char bit ++ bitRead bit read)
          (if bit = 0 then char else char + 1)))).attemptFails).settled := by
  have clash : clashes s.headChars char bit read = true := by
    have head : headData char bit = false ∨ frameLevel (frameChars s.rank f) char bit = .dominant := by
      rw [or_iff_not_imp_left]
      intro data
      obtain ⟨first, low, high⟩ : char = 0 ∧ 1 ≤ bit ∧ bit ≤ 8 := by simpa [headData] using data
      exact dominant first low high
    simp only [clashes, s.headChars_of_head ‹_›, inFrame, inChar, decide_true, Bool.true_and, Bool.and_eq_true, bne_iff_ne, ne_eq,
      differ, not_false_eq_true, true_and, Bool.or_eq_true, Bool.not_eq_true', beq_iff_eq]
    exact head
  have middle : bitMiddle start char bit = start + 480 * (10 * char + bit) + 240 := by
    simp [bitMiddle, bitTime, Nat.mul_comm]
  rw [exec, execBitClash, s.lct.sendingFrom_following phase sending, done_eq, ← middle, ← s.headChars_of_head head]
  simp only [clash, if_true]
  rfl

end Sys2Proof.Machine
end

section
open Sys2Proof.Machine

/-- Settles O31: the clash by `exec_bitClash`, the failed attempt by `State.attemptFails_of_head`, the report by `reportHead`'s lemmas. -/
theorem bitClashFailsAttempt : Obligations.BitClashFailsAttempt := by
  intro s char bit read start sending from' kept begun phase f head chars sent inFrame inChar differ dominant bits following
  have clashed := exec_bitClash sending phase head inFrame inChar differ dominant
  obtain ⟨m, hm⟩ : ∃ m, max s.now (start + 480 * (10 * char + bit) + 240) = m := ⟨_, rfl⟩
  obtain ⟨stopped, hstopped⟩ : ∃ u : State, s.lineAt m (s.lct.clashedAt following) = u := ⟨_, rfl⟩
  have clashed : exec (.bitClash char bit read) s = .next stopped.attemptFails.settled := by
    rw [← hstopped, ← hm]
    exact clashed
  have here : stopped.lct.txq.head? = some f := hstopped ▸ head
  have kept : stopped.lct.SameButQueue stopped.attemptFails.lct :=
    State.attemptFails_sameButQueue here (hstopped ▸ LinePhase.noConfusion)
  obtain ⟨released, acking, counted⟩ := kept.wire
  have failed := State.attemptFails_of_head here
  have clash : stopped.attemptFails.settled.lct.clash = countError s.lct.clash := by
    rw [State.settled_lct, counted, ← hstopped]
    rfl
  have now : stopped.attemptFails.settled.now = m := by simp [← hstopped, State.lineAt]
  refine ⟨_, clashed, ?_, clash.trans (countError_eq _), ?_, ?_, fun quiet => ?_, fun few => ?_, fun many quiet => ?_, fun many => ?_, ?_⟩
  · exact now.trans hm.symm
  · rw [State.settled_lct, released, ← hstopped]
    rfl
  · rw [State.settled_lct, kept.phase, ← hstopped]
    rfl
  · apply State.clineDriven_of_released
    · rw [State.settled_lct, released, ← hstopped]
      rfl
    · rw [State.settled_lct, acking, ← hstopped]
      exact quiet
  · rw [clash, failed, ← hstopped, if_pos (by exact few)]
    exact (s.lineAt_settled m { s.lct.clashedAt following with attempts := s.lct.attempts + 1 }).2
  · rw [clash, failed, if_neg (by rw [← hstopped]; exact Nat.not_lt.mpr many)]
    obtain ⟨lct, entry, roster⟩ := State.reportHead_settled_of_quiet (if f.target = .all then .unheard else .undelivered) here
      (by rw [← hstopped]; exact quiet)
    refine ⟨?_, fun r target peer => ?_, fun broadcast => ?_⟩
    · rw [lct, ← hstopped]
      rfl
    · exact (entry r target (by rw [← hstopped]; exact peer)).2 (if_neg (by simp [target]))
    · rw [roster broadcast, ← hstopped]
      rfl
  · intro reporting
    have same : reporting = stopped := by
      simp only [reporting, now, clash]
      exact hstopped
    rw [same, failed, if_neg (by rw [← hstopped]; exact Nat.not_lt.mpr many)]
  · simp [State.agreesOutside_iff, follows, reached, ← hstopped, State.lineAt]

end

section
/-!
SUPPORT. The end of the acknowledge window (R66, R69), and the requests that SPACE sends (R76, R98).
-/

namespace Sys2Proof.Machine

/-- The line at the end of a followed frame (R63, R66, R72). -/
theorem LineController.frameEnd_eq (l : LineController) (m : Moment) : l.frameEnd m = { l with
    phase := .gap m, sending := none, acking := none, rxq := l.rxq.map (fun e => { e with held := false }) } := rfl

theorem exec_ackWindowEnd {s : State} (middles : BitVec 9) {start : Moment} {taken : Bool} (phase : s.lct.phase = .window start taken) :
    exec (.ackWindowEnd middles) s = .next ((s.advanceTo (start + 4800)).windowCloses middles).settled := by
  rw [exec, execAckWindowEnd, done_eq]
  simp only [phase]
  rfl

theorem State.windowCloses_of_receiver {s : State} (middles : BitVec 9) {due m : Moment} (hm : max s.now due = m)
    (sending : s.lct.sending = none) : (s.advanceTo due).windowCloses middles = s.lineAt m (s.lct.frameEnd m) := by
  subst hm
  simp only [State.windowCloses, State.advanceTo_frame, sending]
  rfl

/-- A sender judges its window: acknowledged, DELIVERED; a broadcast one UNHEARD otherwise; an addressed one has failed an attempt (R69). -/
theorem State.windowCloses_of_sender {s : State} (middles : BitVec 9) {due m k : Moment} {f : Frame} (hm : max s.now due = m)
    (sending : s.lct.sending = some k) (head : s.lct.txq.head? = some f) :
    (s.advanceTo due).windowCloses middles =
      if middles = 0#9 then (s.lineAt m (s.lct.frameEnd m)).reportHead .delivered
      else if f.target = .all then (s.lineAt m (s.lct.frameEnd m)).reportHead .unheard
      else (s.lineAt m (s.lct.frameEnd m)).attemptFails := by
  subst hm
  obtain ⟨rest, hq⟩ := List.head?_eq_some_iff.mp head
  obtain ⟨ended, hended⟩ : ∃ u, s.lineAt (max s.now due) (s.lct.frameEnd (max s.now due)) = u := ⟨_, rfl⟩
  have judged : (s.advanceTo due).windowCloses middles = ended.judgeAck middles := by
    simp only [State.windowCloses, State.advanceTo_frame, sending]
    rw [← hended]
    rfl
  have queue : ended.lct.txq = f :: rest := hended ▸ hq
  have addressed : f.addressed = true ↔ f.target ≠ .all := by
    unfold Frame.addressed
    split <;> simp [*]
  rw [judged, State.judgeAck, hended]
  simp only [queue, acknowledged, beq_iff_eq, addressed, ite_not]

/-! ## Requests (R98) -/

theorem State.buildFrame_kind (s : State) (r : PendingRequest) : (s.buildFrame r).kind = r.kind := by
  unfold State.buildFrame State.buildBody Frame.kind
  cases r.kind
  case answer =>
    cases r.target with
    | rank k => dsimp only; cases s.spe.answers[k] <;> rfl
    | all => rfl
  all_goals rfl

/-- A waiting frame has the kind and target of a request (R76). -/
theorem State.waitingMatch_iff (s : State) (r : PendingRequest) (q : List Frame) :
    waitingMatch (s.buildFrame r) q = true ↔ ∃ g ∈ q.tail, g.kind = r.kind ∧ g.target = r.target := by
  have target : (s.buildFrame r).target = r.target := rfl
  simp [waitingMatch, Frame.sameSlot_iff, State.buildFrame_kind, target]

/-- A request refused for want of room, or outside RUNNING, is recorded once for its kind and target (R98). -/
theorem State.send_of_refused {s : State} {r : PendingRequest} (refused : s.answerTo r = .refused) :
    s.send r = { s with spe := { s.spe with requests :=
      if ∃ q ∈ s.spe.requests, q.kind = r.kind ∧ q.target = r.target then s.spe.requests else s.spe.requests ++ [r] } } := by
  simp only [State.send, refused, Spe.recordRequest, List.any_eq_true, Bool.and_eq_true, beq_iff_eq]
  split <;> rfl

/-- The first pending request that the line takes is cleared and enqueued, and the rest follow (R98). -/
theorem State.space_of_taken {s : State} {r : PendingRequest} (first : s.spe.requests.head? = some r)
    (once : r ∉ s.spe.requests.tail) {a : EnqueueAnswer} (ha : s.answerTo r = a) (taken : a = .accepted ∨ a = .replaced) :
    s.space = { s with
      spe := { s.spe with requests := s.spe.requests.tail }, lct := s.lct.enqueue s.now (s.buildFrame r) }.space := by
  obtain ⟨rest, hrest⟩ := List.head?_eq_some_iff.mp first
  have absent : r ∉ rest := by simpa [hrest] using once
  have cleared : s.spe.clearRequest r = { s.spe with requests := rest } := by
    have others : rest.filter (fun q => q != r) = rest := by
      rw [List.filter_eq_self]
      rintro q mem
      simpa using fun same : q = r => absent (same ▸ mem)
    simp [Spe.clearRequest, hrest, others]
  have tried : { s with spe := { s.spe with requests := rest } }.tryEnqueue r =
      { s with spe := { s.spe with requests := rest }, lct := s.lct.enqueue s.now (s.buildFrame r) } := by
    have built : { s with spe := { s.spe with requests := rest } }.buildFrame r = s.buildFrame r := rfl
    have answer : { s with spe := { s.spe with requests := rest } }.answerTo r = a := ha
    unfold State.tryEnqueue
    rw [built, answer]
    obtain rfl | rfl := taken <;> rfl
  simp only [State.space, hrest, State.drainRequests, List.mem_cons, true_or, if_true, cleared, tried, ha, List.tail_cons]
  obtain rfl | rfl := taken <;> rfl

/-- SPACE stops at a request that is refused (R98). -/
theorem State.space_of_refused {s : State} {r : PendingRequest} (first : s.spe.requests.head? = some r)
    (refused : s.answerTo r = .refused) : s.space = s := by
  obtain ⟨rest, hrest⟩ := List.head?_eq_some_iff.mp first
  simp [State.space, hrest, State.drainRequests, refused]

end Sys2Proof.Machine
end

section
open Sys2Proof.Machine

/-- Settles O34: the window by `State.windowCloses_of_sender`, reports and SPACE by the lemmas of `reportHead`, `send` and `space`. -/
theorem ackWindowReportsHead : Obligations.AckWindowReportsHead := by
  refine ⟨fun s middles start taken phase => ?_, fun s rep f head => State.reportHead_of_head rep head, fun s r fresh full => ?_,
    fun s none => State.space_of_nil none, fun s mode unstuck busy r first once => ?_, fun s k reply => ?_⟩
  · obtain ⟨m, hm⟩ : ∃ m, max s.now (start + 4800) = m := ⟨_, rfl⟩
    refine ⟨_, exec_ackWindowEnd middles phase, ?_⟩
    have now : ((s.advanceTo (start + 4800)).windowCloses middles).settled.now = m := by simp [hm]
    rw [now]
    intro ended
    obtain ⟨closed, hclosed⟩ : ∃ u, s.lineAt m ended = u := ⟨_, rfl⟩
    refine ⟨hm.symm, fun sending => ?_, fun k sending f head => ?_, ?_⟩
    · rw [State.windowCloses_of_receiver middles hm sending]
      exact (s.lineAt_settled m ended).2
    · have judged : (s.advanceTo (start + 4800)).windowCloses middles =
          if middles = 0#9 then closed.reportHead .delivered
          else if f.target = .all then closed.reportHead .unheard
          else closed.attemptFails := by
        rw [← hclosed]
        exact State.windowCloses_of_sender middles hm sending head
      have here : closed.lct.txq.head? = some f := hclosed ▸ head
      have failed := State.attemptFails_of_head here
      rw [judged]
      have line : closed.lct = ended ∧ closed.roster = s.roster ∧ closed.rank = s.rank := by
        rw [← hclosed]
        exact ⟨rfl, rfl, rfl⟩
      obtain ⟨line, roster, rank⟩ := line
      have report (rep : Report) (quiet : s.lct.txq.length ≠ 4 ∨ s.spe.requests = []) :=
        State.reportHead_settled_of_quiet rep here (by rw [← hclosed]; exact quiet)
      rw [line, roster, rank] at report
      refine ⟨fun quiet => ⟨fun acked => ?_, fun unheard broadcast => ?_, fun r target silent many => ?_⟩,
        fun r target silent few => ?_, fun acked => ?_, fun silent broadcast => ?_, fun silent addressed many => ?_⟩
      · obtain ⟨lct, entry, kept⟩ := report .delivered quiet
        rw [if_pos acked]
        exact ⟨lct, fun r target peer => (entry r target peer).1 rfl, kept⟩
      · obtain ⟨lct, -, kept⟩ := report .unheard quiet
        rw [if_neg unheard, if_pos broadcast]
        exact ⟨lct, kept broadcast⟩
      · obtain ⟨lct, entry, -⟩ := report .undelivered quiet
        have addressed : f.target ≠ .all := by simp [target]
        rw [if_neg silent, if_neg addressed, failed, if_neg (by rw [line]; exact Nat.not_lt.mpr many), if_neg addressed]
        exact ⟨lct, fun peer => (entry r target peer).2 rfl⟩
      · rw [if_neg silent, if_neg (by simp [target]), failed, if_pos (by rw [line]; exact few), ← hclosed]
        exact (s.lineAt_settled m { ended with attempts := s.lct.attempts + 1 }).2
      · rw [if_pos acked, ← hclosed]
        rfl
      · rw [if_neg silent, if_pos broadcast, ← hclosed]
        rfl
      · rw [if_neg silent, if_neg addressed, failed, if_neg (by rw [line]; exact Nat.not_lt.mpr many), if_neg addressed, ← hclosed]
        rfl
    · simp [State.agreesOutside_iff, follows, reached]
  · apply State.send_of_refused
    have unmatched : waitingMatch (s.buildFrame r) s.lct.txq = false := by
      rw [Bool.eq_false_iff, ne_eq, State.waitingMatch_iff]
      rintro ⟨g, mem, same⟩
      exact fresh g mem same
    unfold State.answerTo LineController.answerTo
    obtain idle | ⟨unstuck, full⟩ := full
    · cases mode : s.lct.mode with
      | running => exact absurd mode idle
      | _ => rfl
    · have full : ¬s.lct.txq.length < queueLimit := Nat.not_lt.mpr full
      simp only [unstuck, unmatched, full, Bool.false_eq_true, if_false]
      split <;> rfl
  · intro f waits sent
    have matched : waitingMatch f s.lct.txq = true ↔ waits := s.waitingMatch_iff r s.lct.txq
    have answer : s.answerTo r = if waitingMatch f s.lct.txq = true then .replaced
        else if s.lct.txq.length < queueLimit then .accepted else .refused := by
      simp only [State.answerTo, LineController.answerTo, mode, unstuck, Bool.false_eq_true, if_false]
      rfl
    refine ⟨fun fresh room => ?_, fun waiting => ?_, fun fresh full => ?_⟩
    · rw [if_neg (mt matched.mp fresh), if_pos (by exact room)] at answer
      rw [State.space_of_taken first once answer (.inl rfl), LineController.enqueue_of_accepted busy _ answer]
    · rw [if_pos (matched.mpr waiting)] at answer
      rw [State.space_of_taken first once answer (.inr rfl), LineController.enqueue, show s.lct.answerTo (s.buildFrame r) = _ from answer]
    · rw [if_neg (mt matched.mp fresh), if_neg (Nat.not_lt.mpr (by exact full))] at answer
      exact State.space_of_refused first answer
  · refine ⟨rfl, rfl, rfl, rfl, fun a ha => ?_, fun c hc => ?_⟩
    · simp [State.buildFrame, State.buildBody, answerRequest, ha]
    · simp [State.buildFrame, State.buildBody, passRequest, hc]

end

section
/-!
SUPPORT. A stuck line (R79, R80, R89, R112, R133): what LINE STUCK makes of the roles, and that the flush, in the roles it leaves, moves
roster, requests and the marks of line recovering alone.
-/

namespace Sys2Proof.Machine

/-! ## LINE STUCK at the engine (R112, R133) -/

/-- The roles in which a report acts on the engine (R89). -/
def Role.awaitsReport : Role → Bool
  | .bidding => true
  | .offering => true
  | .passing => true
  | .accepted => true
  | .startup => false
  | .standby => false
  | .holding => false
  | .withdrawn => false

theorem State.setRole_recovery (s : State) (role : Role) :
    (s.setRole role).spe.recovering = s.spe.recovering ∧ (s.setRole role).spe.recoveryHello = s.spe.recoveryHello := by
  rw [State.setRole_spe]
  split <;> exact ⟨rfl, rfl⟩

/-- A node that is not WITHDRAWN is recovering, in a role that awaits no report (R112, R133). -/
theorem State.speLineStuck_of_working {s : State} (working : s.spe.role ≠ .withdrawn) :
    s.speLineStuck.spe.recovering = true ∧ s.speLineStuck.spe.recoveryHello = false ∧
    s.speLineStuck.spe.role.awaitsReport = false ∧
    (s.spe.role = .bidding → s.speLineStuck.spe.role = .standby ∧ s.speLineStuck.spe.view = none) ∧
    (s.spe.role = .offering ∨ s.spe.role = .passing → s.speLineStuck.spe.role = .holding) ∧
    (s.spe.role = .accepted → s.speLineStuck.spe.role = .standby) ∧
    (s.spe.role.awaitsReport = false → s.speLineStuck.spe.role = s.spe.role ∧ s.speLineStuck.spe.view = s.spe.view) := by
  have offerFails (u : State) (reason : Notice) : (u.offerFails reason).spe = (u.setRole .holding).spe := by simp [State.offerFails]
  have passFails (u : State) : u.passFails.spe.recovering = u.spe.recovering ∧ u.passFails.spe.recoveryHello = u.spe.recoveryHello := by
    simp [State.passFails]
  unfold State.speLineStuck
  cases role : s.spe.role
  case withdrawn => exact absurd role working
  case bidding => simp [State.setRole_recovery, Role.awaitsReport]
  case offering => simp [offerFails, State.setRole_recovery, Role.awaitsReport]
  case passing => simp [State.handoverFails, offerFails, passFails, State.setRole_recovery, Role.awaitsReport]
  case accepted => simp [State.leaveAccepted, State.setRole_recovery, Role.awaitsReport]
  all_goals simp [role, Role.awaitsReport]

theorem State.speLineStuck_of_withdrawn {s : State} (withdrawn : s.spe.role = .withdrawn) : s.speLineStuck = s := by
  simp [State.speLineStuck, withdrawn]

/-- Whatever the role, it awaits no report then. -/
theorem State.speLineStuck_awaits (s : State) : s.speLineStuck.spe.role.awaitsReport = false := by
  by_cases withdrawn : s.spe.role = .withdrawn
  · rw [s.speLineStuck_of_withdrawn withdrawn, withdrawn]
    rfl
  · obtain ⟨-, -, awaits, -⟩ := s.speLineStuck_of_working withdrawn
    exact awaits

/-- LINE STUCK asks for nothing new (R98). -/
theorem State.speLineStuck_requests_nil {s : State} (none : s.spe.requests = []) : s.speLineStuck.spe.requests = [] := by
  unfold State.speLineStuck
  cases s.spe.role
  case bidding => exact State.setRole_requests_nil _ none
  case offering => exact State.offerFails_requests_nil _ none
  case passing => exact State.offerFails_requests_nil _ (by simp [State.passFails, none])
  case accepted => exact State.setRole_requests_nil _ none
  all_goals exact none

/-! ## The flush (R79) -/

/-- From `u` to `v`, while the line is stuck, the line controller, the role and the view stay, line recovering stays where no HELLO ends it,
and who is SILENT stays so. -/
structure State.FlushKept (u v : State) : Prop where
  lct : v.lct = u.lct
  rank : v.rank = u.rank
  role : v.spe.role = u.spe.role
  view : v.spe.view = u.spe.view
  recovering : u.spe.recoveryHello = false → v.spe.recovering = u.spe.recovering ∧ v.spe.recoveryHello = false
  silent : ∀ r, r ≠ u.rank → (u.entry r).presence = .silent → (v.entry r).presence = .silent

namespace State.FlushKept

variable {u v w : State}

theorem refl (u : State) : u.FlushKept u := ⟨rfl, rfl, rfl, rfl, fun h => ⟨rfl, h⟩, fun _ _ => id⟩

theorem trans (h : u.FlushKept v) (h' : v.FlushKept w) : u.FlushKept w where
  lct := h'.lct.trans h.lct
  rank := h'.rank.trans h.rank
  role := h'.role.trans h.role
  view := h'.view.trans h.view
  recovering off := by
    obtain ⟨same, off'⟩ := h.recovering off
    obtain ⟨same', off''⟩ := h'.recovering off'
    exact ⟨same'.trans same, off''⟩
  silent r peer hu := h'.silent r (by rw [h.rank]; exact peer) (h.silent r peer hu)

end State.FlushKept

/-- A report in a role that awaits none acts on the roster and on line recovering (R89, R133). -/
theorem State.roleReport_of_unawaited {s : State} (rep : Report) (f : Frame) (unawaited : s.spe.role.awaitsReport = false) :
    s.roleReport rep f = s := by
  unfold State.roleReport
  split
  case h_5 => rfl
  all_goals next role _ => simp [role, Role.awaitsReport] at unawaited

/-- The report of a HELLO moves the marks of line recovering alone (R133). -/
theorem State.recoveryReport_spe (s : State) (f : Frame) :
    (s.recoveryReport f).spe.view = s.spe.view ∧
    (s.spe.recoveryHello = false → (s.recoveryReport f).spe = s.spe) := by
  unfold State.recoveryReport
  split
  · split
    · next marked => exact ⟨rfl, fun off => by simp [off] at marked⟩
    · exact ⟨rfl, fun _ => rfl⟩
  · exact ⟨rfl, fun _ => rfl⟩

/-- Who is made SILENT is so, and no one else's presence changes (R89). -/
theorem State.rosterSilent_entry {s : State} {k r : Rank} (peer : r ≠ s.rank) :
    ((s.rosterSilent k).entry r).presence = if r = k then .silent else (s.entry r).presence := by
  have roster : (s.rosterSilent k).roster = (s.setEntry k { s.roster[k] with presence := .silent }).roster := by
    simp only [State.rosterSilent]
    split <;> rfl
  rw [State.entry_of_peer (by simpa using peer), State.entry_of_peer peer, roster]
  split
  · next same =>
    subst same
    rw [State.setEntry_entry _ peer]
  · next other =>
    unfold State.setEntry
    split
    · rfl
    · simp only [Fin.getElem_fin]
      rw [Vector.getElem_set_ne _ _ (fun same => other (Fin.ext same.symm))]

/-- The report of a frame that was not delivered (R79, R89). -/
theorem State.failedReport_flushKept {u : State} (f : Frame) (unawaited : u.spe.role.awaitsReport = false) :
    u.FlushKept (u.report (if f.target = .all then .unheard else .undelivered) f) := by
  obtain ⟨rep, hrep⟩ : ∃ rep, (if f.target = .all then Report.unheard else .undelivered) = rep := ⟨_, rfl⟩
  have report : u.report rep f = (u.rosterReport rep f).recoveryReport f :=
    State.roleReport_of_unawaited rep f (by simpa using unawaited)
  obtain ⟨view, marks⟩ := (u.rosterReport rep f).recoveryReport_spe f
  rw [hrep]
  refine ⟨State.report_lct _ _ _, by simp, by simp [report], by simp [report, view], fun off => ?_, fun r peer silent => ?_⟩
  · have marks := marks (by simpa using off)
    rw [report, marks]
    simpa using off
  · have roster : ((u.report rep f).entry r).presence = ((u.rosterReport rep f).entry r).presence := by
      rw [State.entry_of_peer (by simpa using peer), State.entry_of_peer (by simpa using peer), State.report_roster]
    rw [roster]
    unfold State.rosterReport
    cases target : f.target with
    | all => exact silent
    | rank k =>
      rw [← hrep, if_neg (by simp [target])]
      simp only [State.rosterSilent_entry peer, silent, ite_self]

/-- The queue's reports; who was addressed is SILENT after them (R79, R89). -/
theorem State.reportAll_flushKept {u : State} (q : List Frame) (unawaited : u.spe.role.awaitsReport = false) :
    u.FlushKept (u.reportAll q) ∧
    ∀ f ∈ q, ∀ r, f.target = .rank r → r ≠ u.rank → ((u.reportAll q).entry r).presence = .silent := by
  induction q generalizing u with
  | nil => exact ⟨.refl u, nofun⟩
  | cons f rest ih =>
    have first := State.failedReport_flushKept f unawaited
    obtain ⟨later, addressed⟩ := ih (u := u.report (if f.target = .all then .unheard else .undelivered) f)
      (by rw [first.role]; exact unawaited)
    have all : u.reportAll (f :: rest) = (u.report (if f.target = .all then .unheard else .undelivered) f).reportAll rest := by
      rw [State.reportAll, failedReport_eq]
    rw [all]
    refine ⟨first.trans later, fun g mem r target peer => ?_⟩
    have peer' : r ≠ (u.report (if f.target = .all then .unheard else .undelivered) f).rank := by rw [first.rank]; exact peer
    rcases List.mem_cons.mp mem with rfl | mem
    · apply later.silent r peer'
      rw [if_neg (by simp [target])]
      exact (State.report_entry_of_addressed target peer).2
    · exact addressed g mem r target peer'

theorem State.reportAll_requests_nil {s : State} (q : List Frame) (none : s.spe.requests = []) : (s.reportAll q).spe.requests = [] := by
  induction q generalizing s with
  | nil => exact none
  | cons f rest ih => exact ih (State.report_requests_nil _ f none)

theorem State.reportAll_roster_of_all {s : State} (q : List Frame) (broadcast : ∀ f ∈ q, f.target = .all) :
    (s.reportAll q).roster = s.roster := by
  induction q generalizing s with
  | nil => rfl
  | cons f rest ih =>
    obtain ⟨first, later⟩ := List.forall_mem_cons.mp broadcast
    exact (ih later).trans (s.report_roster_of_all _ f first)

/-- While the line is stuck each request sent is reported at once, or refused (R80, R98). -/
theorem State.drainRequests_flushKept {u : State} (qs : List PendingRequest) (stuck : u.lct.stuck = true)
    (unawaited : u.spe.role.awaitsReport = false) : u.FlushKept (u.drainRequests qs) := by
  induction qs generalizing u with
  | nil => exact .refl u
  | cons q rest ih =>
    unfold State.drainRequests
    split
    · split
      · exact .refl u
      · next taken =>
        have reported : u.answerTo q = .reported := by
          unfold State.answerTo LineController.answerTo at taken ⊢
          cases mode : u.lct.mode <;> simp_all
        have cleared : u.FlushKept { u with spe := u.spe.clearRequest q } :=
          ⟨rfl, rfl, rfl, rfl, fun off => ⟨rfl, off⟩, fun _ _ => id⟩
        have tried : { u with spe := u.spe.clearRequest q }.FlushKept ({ u with spe := u.spe.clearRequest q }.tryEnqueue q) := by
          have reported' : { u with spe := u.spe.clearRequest q }.answerTo q = .reported := reported
          simp only [State.tryEnqueue, reported', failedReport_eq]
          exact State.failedReport_flushKept _ (by simpa using unawaited)
        exact (cleared.trans tried).trans (ih (by rw [tried.lct]; exact stuck) (by rw [tried.role]; simpa using unawaited))
    · exact ih stuck unawaited

theorem exec_lineStuck {s : State} (dt : Nat) (on : s.lct.mode ≠ .off) (unstuck : s.lct.stuck = false) {m : Moment}
    (hm : max (s.now + dt) (s.lct.stretch.getD 0 + 96000) = m) :
    exec (.lineStuck dt) s = .next ((s.lineAt m (s.lct.stick m)).speLineStuck.flush).settled := by
  have works : s.lct.works = true := (s.lct.works_iff).mpr ⟨on, unstuck⟩
  subst hm
  rw [exec, execLineStuck, done_eq]
  simp only [State.elapse_frame, works, if_true]
  rfl

/-- The flush, step by step (R79). -/
theorem State.flush_eq (s : State) :
    s.flush = if s.lct.txq.length = 4 then ((s.reportAll s.lct.txq).lineAt s.now { s.lct with txq := [], attempts := 0 }).space
      else (s.reportAll s.lct.txq).lineAt s.now { s.lct with txq := [], attempts := 0 } := by
  have emptied : (s.reportAll s.lct.txq).withLine { (s.reportAll s.lct.txq).lct with txq := [], attempts := 0 } =
      (s.reportAll s.lct.txq).lineAt s.now { s.lct with txq := [], attempts := 0 } := by
    simp [State.withLine, State.lineAt]
  simp only [State.flush, emptied]
  rfl

/-- What the flush leaves while the line is stuck, in a role that awaits no report (R79, R89). -/
theorem State.flush_of_stuck {s : State} (stuck : s.lct.stuck = true) (unawaited : s.spe.role.awaitsReport = false) :
    s.flush.lct = { s.lct with txq := [], attempts := 0 } ∧ s.flush.spe.role = s.spe.role ∧ s.flush.spe.view = s.spe.view ∧
    (s.spe.recoveryHello = false → s.flush.spe.recovering = s.spe.recovering) ∧
    (∀ f ∈ s.lct.txq, ∀ r, f.target = .rank r → r ≠ s.rank → (s.flush.entry r).presence = .silent) ∧
    ((∀ f ∈ s.lct.txq, f.target = .all) → s.lct.txq.length ≠ 4 ∨ s.spe.requests = [] → s.flush.roster = s.roster) := by
  obtain ⟨reported, silent⟩ := State.reportAll_flushKept s.lct.txq unawaited
  obtain ⟨emptied, hemptied⟩ : ∃ u, (s.reportAll s.lct.txq).lineAt s.now { s.lct with txq := [], attempts := 0 } = u := ⟨_, rfl⟩
  have line : emptied.lct = { s.lct with txq := [], attempts := 0 } := hemptied ▸ rfl
  have spe : emptied.spe = (s.reportAll s.lct.txq).spe := hemptied ▸ rfl
  have roster : emptied.roster = (s.reportAll s.lct.txq).roster := hemptied ▸ rfl
  have rank : emptied.rank = s.rank := hemptied ▸ reported.rank
  have ends : emptied.FlushKept s.flush := by
    rw [State.flush_eq, hemptied]
    split
    · exact State.drainRequests_flushKept _ (by rw [line]; exact stuck) (by rw [spe, reported.role]; exact unawaited)
    · exact .refl emptied
  refine ⟨ends.lct.trans line, by rw [ends.role, spe, reported.role], by rw [ends.view, spe, reported.view], fun off => ?_,
    fun f mem r target peer => ?_, fun broadcast quiet => ?_⟩
  · obtain ⟨same, off'⟩ := reported.recovering off
    obtain ⟨same', -⟩ := ends.recovering (by rw [spe]; exact off')
    rw [same', spe, same]
  · have peer' : r ≠ emptied.rank := by rw [rank]; exact peer
    apply ends.silent r peer'
    rw [State.entry_of_peer peer', roster, ← State.entry_of_peer (by rw [reported.rank]; exact peer)]
    exact silent f mem r target peer
  · have kept : emptied.roster = s.roster := roster.trans (State.reportAll_roster_of_all _ broadcast)
    rw [State.flush_eq, hemptied]
    split
    · next full =>
      have none : emptied.spe.requests = [] := by
        rw [spe]
        exact State.reportAll_requests_nil _ (quiet.resolve_left (not_not_intro full))
      rw [State.space_of_nil none, kept]
    · exact kept

end Sys2Proof.Machine
end

section
open Sys2Proof.Machine

/-- Settles O35: the roles by `State.speLineStuck_of_working`, the reports and the queue by `State.flush_of_stuck`. -/
theorem stuckLineIsFlushed : Obligations.StuckLineIsFlushed := by
  intro s dt on unstuck
  obtain ⟨m, hm⟩ : ∃ m, max (s.now + dt) (s.lct.stretch.getD 0 + 96000) = m := ⟨_, rfl⟩
  obtain ⟨u, hu⟩ : ∃ u : State, (s.lineAt m (s.lct.stick m)).speLineStuck = u := ⟨_, rfl⟩
  have line : u.lct = s.lct.stick m := by simp [← hu, State.lineAt]
  have kept : u.roster = s.roster ∧ u.rank = s.rank := by simp [← hu, State.lineAt]
  obtain ⟨roster, rank⟩ := kept
  have unawaited : u.spe.role.awaitsReport = false := hu ▸ State.speLineStuck_awaits _
  obtain ⟨lct, role, view, recovering, silent, unheard⟩ := State.flush_of_stuck (s := u) (by rw [line]; rfl) unawaited
  rw [line] at lct silent unheard
  rw [rank] at silent
  rw [roster] at unheard
  have executed := exec_lineStuck dt on unstuck hm
  rw [hu] at executed
  have engine : u.flush.settled.spe.role = u.spe.role ∧ u.flush.settled.spe.view = u.spe.view := by simp [role, view]
  obtain ⟨role', view'⟩ := engine
  have now : u.flush.settled.now = m := by simp [← hu, State.lineAt]
  have working (h : s.spe.role ≠ .withdrawn) := State.speLineStuck_of_working (s := s.lineAt m (s.lct.stick m)) h
  rw [hu] at working
  have lct' : u.flush.settled.lct = { s.lct.stick m with txq := [], attempts := 0 } := (State.settled_lct _).trans lct
  refine ⟨_, executed, now.trans hm.symm, ?_, fun withdrawn => ?_, fun h => ?_, fun bidding => ?_, fun handing => ?_,
    fun accepted => ?_, fun idle => ?_, fun f mem r target peer => ?_, fun broadcast quiet => ?_, ?_, ?_⟩
  · rw [lct', now]
    rfl
  · rw [role', ← hu, State.speLineStuck_of_withdrawn (by exact withdrawn)]
    exact withdrawn
  · obtain ⟨marked, off, -⟩ := working h
    simp [recovering off, marked]
  · obtain ⟨-, -, -, left, -⟩ := working (by simp [bidding])
    rw [role', view']
    exact left bidding
  · obtain ⟨-, -, -, -, left, -⟩ := working (by rcases handing with h | h <;> simp [h])
    rw [role']
    exact left handing
  · obtain ⟨-, -, -, -, -, left, -⟩ := working (by simp [accepted])
    rw [role']
    exact left accepted
  · obtain ⟨-, -, -, -, -, -, stays⟩ := working (by rcases idle with h | h | h <;> simp [h])
    rw [role', view']
    exact stays (by
      show s.spe.role.awaitsReport = false
      rcases idle with h | h | h <;> simp [h, Role.awaitsReport])
  · rw [State.settled_entry]
    exact silent f mem r target peer
  · have none : s.lct.txq.length ≠ 4 ∨ u.spe.requests = [] := quiet.imp_right fun none => by
      rw [← hu]
      exact State.speLineStuck_requests_nil none
    simpa using unheard broadcast none
  · intro stuck reported emptied
    have begun : stuck = s.lineAt m (s.lct.stick m) := by
      simp only [stuck, now, lct']
      rfl
    have all : reported = u.reportAll s.lct.txq := by
      simp only [reported, begun, hu, State.reportAll_eq]
    have empty : emptied = (u.reportAll s.lct.txq).lineAt u.now { u.lct with txq := [], attempts := 0 } := by
      simp only [emptied, all]
      simp [State.lineAt]
    have queue : u.lct.txq = s.lct.txq := by rw [line]; rfl
    rw [empty, State.flush_eq, queue]
  · simp [State.agreesOutside_iff, follows, reached, ← hu, State.lineAt]

end

section
/-!
SUPPORT. Sending on a line that is not stuck (R76, R98), the bid check (R102, R104), and a line that clears (R81, R91, R113).
-/

namespace Sys2Proof.Machine

/-! ## Sending -/

/-- On a line that is not stuck the frame goes to the line controller, which may refuse it; then the engine records the request (R98). -/
theorem State.send_lct_of_unstuck {s : State} (r : PendingRequest) (unstuck : s.lct.stuck = false) :
    (s.send r).lct = s.lct.enqueue s.now (s.buildFrame r) := by
  unfold State.send
  split
  · next refused =>
    have refused : s.lct.answerTo (s.buildFrame r) = .refused := refused
    simp only [LineController.enqueue, refused]
  · unfold State.tryEnqueue
    split
    · next reported => exact absurd reported (s.lct.answerTo_ne_reported _ unstuck)
    · rfl

/-- The engine keeps all but its requests (R98). -/
theorem State.send_spe_of_unstuck {s : State} (r : PendingRequest) (unstuck : s.lct.stuck = false) :
    (s.send r).spe = { s.spe with requests := (s.send r).spe.requests } := by
  obtain ⟨l, q, sent⟩ := s.send_of_unstuck r unstuck
  rw [sent]

/-- An enqueue leaves mode, flags and receive queue (R76). -/
theorem LineController.enqueue_flags (l : LineController) (now : Moment) (f : Frame) :
    (l.enqueue now f).mode = l.mode ∧ (l.enqueue now f).stuck = l.stuck ∧ (l.enqueue now f).lineStuck = l.lineStuck ∧
    (l.enqueue now f).rxq = l.rxq := by
  have begin' (k : LineController) : (k.beginIfReady now).mode = k.mode ∧ (k.beginIfReady now).stuck = k.stuck ∧
      (k.beginIfReady now).lineStuck = k.lineStuck ∧ (k.beginIfReady now).rxq = k.rxq := by
    unfold LineController.beginIfReady LineController.beginFrame
    repeat' split
    all_goals exact ⟨rfl, rfl, rfl, rfl⟩
  unfold LineController.enqueue
  split
  · exact begin' _
  all_goals exact ⟨rfl, rfl, rfl, rfl⟩

/-! ## HELLO and BID -/

/-- The HELLO of a node (R90). -/
def State.hello (s : State) (reply : Bool) : Frame := s.buildFrame (helloRequest reply)

theorem State.sendHello_lct_of_unstuck {s : State} (reply : Bool) (unstuck : s.lct.stuck = false) :
    (s.sendHello reply).lct = s.lct.enqueue s.now (s.hello reply) :=
  State.send_lct_of_unstuck (s := { s with spe := { s.spe with firstHello := true } }) _ unstuck

theorem State.sendHello_spe_of_unstuck {s : State} (reply : Bool) (unstuck : s.lct.stuck = false) :
    (s.sendHello reply).spe = { s.spe with firstHello := true, requests := (s.sendHello reply).spe.requests } :=
  State.send_spe_of_unstuck (s := { s with spe := { s.spe with firstHello := true } }) (helloRequest reply) unstuck

theorem State.beginBid_lct_of_unstuck {s : State} (joined : Option Rank) (unstuck : s.lct.stuck = false) :
    (s.beginBid joined).lct = s.lct.enqueue s.now (Frame.mk .all (.bid s.bsv.board)) := by
  have entered : (s.bidEntered joined).lct = s.lct ∧ (s.bidEntered joined).bsv = s.bsv ∧ (s.bidEntered joined).now = s.now := by
    simp [State.bidEntered]
  obtain ⟨lct, bsv, now⟩ := entered
  have built : (s.bidEntered joined).buildFrame bidRequest = Frame.mk .all (.bid s.bsv.board) := by
    rw [← bsv]
    rfl
  have sent := State.send_lct_of_unstuck (s := s.bidEntered joined) bidRequest (by rw [lct]; exact unstuck)
  rw [State.beginBid_eq, ← built, ← lct, ← now]
  exact sent

theorem State.bidEntered_spe {s : State} (joined : Option Rank) (away : s.spe.role ≠ .bidding) :
    (s.bidEntered joined).spe =
      { { s.spe with view := none }.enterRole .bidding with bidSet := bidders s.rank joined } := by
  simp [State.bidEntered, State.setRole_spe, away]

/-- The engine that begins to bid (R104). -/
theorem State.beginBid_spe_of_unstuck {s : State} (joined : Option Rank) (unstuck : s.lct.stuck = false) (away : s.spe.role ≠ .bidding) :
    (s.beginBid joined).spe = { { s.spe with view := none }.enterRole .bidding with
      bidSet := bidders s.rank joined, requests := (s.beginBid joined).spe.requests, bidWindow := some (s.now + 2400000) } := by
  have sent := State.send_spe_of_unstuck (s := s.bidEntered joined) bidRequest (by simpa [State.bidEntered] using unstuck)
  rw [State.bidEntered_spe joined away] at sent
  rw [State.beginBid_eq, sent]
  rfl

/-- The bid check passes in STANDBY with view NONE, a READY board, a working line and no seat wait (R102). -/
theorem State.bidCheck_eq (s : State) :
    s.bidCheck = if s.spe.role = .standby ∧ s.spe.view = none ∧ s.bsv.board = .ready ∧ s.lct.stuck = false ∧ s.spe.seatWait = none then
      s.beginBid none else s := by
  have passes : s.bidCheckPasses = true ↔
      s.spe.role = .standby ∧ s.spe.view = none ∧ s.bsv.board = .ready ∧ s.lct.stuck = false ∧ s.spe.seatWait = none := by
    simp [State.bidCheckPasses, and_assoc]
  simp only [State.bidCheck, passes]

/-! ## LINE CLEAR (R81) -/

theorem exec_lineClear {s : State} (dt : Nat) (stuck : s.lct.stuck = true) {m : Moment}
    (hm : max (s.now + dt) (s.lct.stretch.getD 0 + 480000) = m) :
    exec (.lineClear dt) s = .next (s.lineAt m { s.lct with stuck := false, phase := .idle }).speLineClear.settled := by
  subst hm
  rw [exec, execLineClear, done_eq]
  simp only [State.elapse_frame, stuck, if_true]
  rfl

theorem State.speLineClear_of_working {s : State} (working : s.spe.role ≠ .withdrawn) :
    s.speLineClear = ({ s with spe := { s.spe with recoveryHello := true } }.sendHello true).bidCheck := by
  unfold State.speLineClear
  split
  · next withdrawn => exact absurd withdrawn working
  · rfl

theorem State.speLineClear_of_withdrawn {s : State} (withdrawn : s.spe.role = .withdrawn) : s.speLineClear = s := by
  simp [State.speLineClear, withdrawn]

/-- HELLO and BID leave the roster (R89). -/
@[simp] theorem State.speLineClear_roster (s : State) : s.speLineClear.roster = s.roster := by
  unfold State.speLineClear
  split
  · rfl
  · simp

/-- A HELLO enqueued on an idle line with an empty queue is begun at once, and the BID behind it waits (R63, R76, R81). -/
theorem LineController.enqueue_of_idle {l : LineController} {f : Frame} (now : Moment) (mode : l.mode = .running) (unstuck : l.stuck = false)
    (idle : l.phase = .idle) (empty : l.txq = []) :
    l.enqueue now f = { l with txq := [f], attempts := 0 }.beginFrame now := by
  have accepted : l.answerTo f = .accepted := by
    simp [LineController.answerTo, mode, unstuck, empty, waitingMatch, queueLimit]
  simp [LineController.enqueue, accepted, empty, LineController.beginIfReady, idle, mode, unstuck]

end Sys2Proof.Machine
end

section
open Sys2Proof.Machine

/-- Settles O36: LINE CLEAR by role, the HELLO by `LineController.enqueue_of_idle`, the bid by `State.bidCheck_eq`. -/
theorem clearLineSendsHello : Obligations.ClearLineSendsHello := by
  intro s dt stuck
  obtain ⟨m, hm⟩ : ∃ m, max (s.now + dt) (s.lct.stretch.getD 0 + 480000) = m := ⟨_, rfl⟩
  refine ⟨_, exec_lineClear dt stuck hm, ?_⟩
  obtain ⟨cleared, hcleared⟩ : ∃ l : LineController, { s.lct with stuck := false, phase := .idle } = l := ⟨_, rfl⟩
  have unstuck : cleared.stuck = false := hcleared ▸ rfl
  rw [hcleared]
  have now : (s.lineAt m cleared).speLineClear.settled.now = m := by simp [State.lineAt]
  rw [now]
  refine ⟨hm.symm, ?_⟩
  have whole : s.agreesOutside (s.lineAt m cleared).speLineClear.settled (.now :: .lct :: .spe :: reached) := by
    simp [State.agreesOutside_iff, follows, reached, State.lineAt]
  by_cases withdrawn : s.spe.role = .withdrawn
  · obtain ⟨-, lct, same⟩ := s.lineAt_settled m cleared
    have spe : (s.lineAt m cleared).settled.spe = s.spe := by simp [State.lineAt]
    rw [State.speLineClear_of_withdrawn (s := s.lineAt m cleared) withdrawn] at whole ⊢
    rw [lct, spe]
    exact ⟨unstuck, hcleared ▸ rfl, fun _ => ⟨rfl, same⟩, fun working => absurd withdrawn working,
      fun working => absurd withdrawn working, fun ⟨standby, _⟩ => absurd (withdrawn.symm.trans standby) (by decide),
      fun _ => ⟨rfl, rfl, rfl⟩, whole⟩
  · obtain ⟨sent, hsent⟩ : ∃ u : State,
        ({ s.lineAt m cleared with spe := { s.spe with recoveryHello := true } } : State).sendHello true = u := ⟨_, rfl⟩
    have clears : (s.lineAt m cleared).speLineClear = sent.bidCheck := by
      rw [State.speLineClear_of_working (s := s.lineAt m cleared) withdrawn, ← hsent]
      rfl
    have line : sent.lct = cleared.enqueue m (s.hello true) := by
      rw [← hsent, State.sendHello_lct_of_unstuck true unstuck]
      rfl
    have spe : sent.spe = { s.spe with recoveryHello := true, firstHello := true, requests := sent.spe.requests } := by
      rw [← hsent]
      exact State.sendHello_spe_of_unstuck true unstuck
    have board : sent.bsv = s.bsv := by simp [← hsent, State.lineAt]
    have fields : sent.bsv = s.bsv ∧ sent.now = m ∧ sent.rank = s.rank := by simp [← hsent, State.lineAt]
    obtain ⟨board, now', rank⟩ := fields
    obtain ⟨-, stuck', lineStuck, -⟩ := cleared.enqueue_flags m (s.hello true)
    rw [← line] at stuck' lineStuck
    have open' : sent.lct.stuck = false := stuck'.trans unstuck
    have latched : sent.lct.lineStuck = s.lct.lineStuck := lineStuck.trans (hcleared ▸ rfl)
    have queue (running : s.lct.mode = .running) (empty : s.lct.txq = []) : sent.lct =
        { cleared with txq := [s.hello true], attempts := 0 }.beginFrame m := by
      rw [line]
      exact LineController.enqueue_of_idle m (hcleared ▸ running) unstuck (hcleared ▸ rfl) (hcleared ▸ empty)
    rw [clears] at whole ⊢
    rw [State.bidCheck_eq, spe, board, open'] at whole ⊢
    simp only [true_and] at whole ⊢
    split at whole
    · next bids =>
      obtain ⟨standby, view, ready, free⟩ := bids
      have bidding := State.beginBid_spe_of_unstuck (s := sent) none open' (by rw [spe]; simp [standby])
      have bid := State.beginBid_lct_of_unstuck (s := sent) none open'
      rw [now', board] at bid
      obtain ⟨-, stuck'', lineStuck', -⟩ := sent.lct.enqueue_flags m (Frame.mk .all (.bid s.bsv.board))
      rw [← bid] at stuck'' lineStuck'
      obtain ⟨e, he⟩ : ∃ e, (sent.beginBid none).settled.spe = e := ⟨_, rfl⟩
      obtain ⟨l, hl⟩ : ∃ l, (sent.beginBid none).settled.lct = l := ⟨_, rfl⟩
      have line' : l = sent.lct.enqueue m (Frame.mk .all (.bid s.bsv.board)) := by rw [← hl, State.settled_lct, bid]
      have engine : e.role = .bidding ∧ e.view = none ∧ e.bidSet = [s.rank] ∧ e.bidWindow = some (m + 2400000) ∧
          e.recoveryHello = true := by
        have same : e = (sent.beginBid none).spe := by simp [← he]
        rw [same, bidding, now', rank, spe]
        exact ⟨rfl, rfl, rfl, rfl, rfl⟩
      obtain ⟨role, view', bidSet, window, mark⟩ := engine
      rw [if_pos ⟨standby, view, ready, free⟩, he, hl]
      refine ⟨?_, ?_, fun h => absurd h withdrawn, fun _ => mark, fun _ running empty => ?_, fun _ => ⟨role, view', bidSet, window⟩,
        fun silent => absurd ⟨standby, view, ready, free⟩ silent, whole⟩
      · rw [← hl, State.settled_lct]
        exact stuck''.trans open'
      · rw [← hl, State.settled_lct]
        exact lineStuck'.trans latched
      · have begun := queue running empty
        have accepted : sent.lct.answerTo (Frame.mk .all (.bid s.bsv.board)) = .accepted := by
          simp [begun, LineController.answerTo, LineController.beginFrame, ← hcleared, running, waitingMatch, queueLimit]
        rw [if_pos ⟨standby, view, ready, free⟩, line', LineController.enqueue_of_accepted (by rw [begun]; exact LinePhase.noConfusion) m accepted, begun]
        exact ⟨rfl, rfl, rfl⟩
    · next silent =>
      obtain ⟨e, he⟩ : ∃ e, sent.settled.spe = e := ⟨_, rfl⟩
      obtain ⟨l, hl⟩ : ∃ l, sent.settled.lct = l := ⟨_, rfl⟩
      have engine : e.role = s.spe.role ∧ e.view = s.spe.view ∧ e.bidSet = s.spe.bidSet ∧ e.recoveryHello = true := by
        have same : e = sent.spe := by simp [← he]
        rw [same, spe]
        exact ⟨rfl, rfl, rfl, rfl⟩
      obtain ⟨role, view, bidSet, mark⟩ := engine
      have line' : l = sent.lct := by rw [← hl, State.settled_lct]
      rw [if_neg silent, he, hl, line']
      refine ⟨open', latched, fun h => absurd h withdrawn, fun _ => mark, fun _ running empty => ?_,
        fun bids => absurd bids silent, fun _ => ⟨role, view, bidSet⟩, whole⟩
      rw [queue running empty, if_neg silent]
      exact ⟨rfl, rfl, rfl⟩

end

section
/-!
SUPPORT. Entries of the receive queue taken (R75, R85 to R88): the commands, and the roster entry of the sender.
-/

namespace Sys2Proof.Machine

theorem State.oldestEntry_of_head {s : State} {e : RxEntry} (head : s.lct.rxq.head? = some e) (unheld : e.held = false) :
    s.oldestEntry e.frame.kind = some e := by
  obtain ⟨rest, hq⟩ := List.head?_eq_some_iff.mp head
  simp [State.oldestEntry, hq, unheld]

theorem exec_helloTaken {s : State} {e : RxEntry} {holding reply : Bool} {board : BoardState} {l16 hl : Nat} {title : List Glyph}
    (head : s.lct.rxq.head? = some e) (unheld : e.held = false) (body : e.frame.body = .hello holding reply board l16 hl title) :
    exec .helloTaken s = .next ((s.takeEntry e).helloHeard e.sender holding reply).settled := by
  have kind : e.frame.kind = .hello := by rw [Frame.kind, body]; rfl
  have oldest := s.oldestEntry_of_head head unheld
  rw [kind] at oldest
  rw [exec, execHelloTaken, done_eq, oldest]
  simp only [body]

theorem exec_seatedTaken {s : State} {e : RxEntry} (head : s.lct.rxq.head? = some e) (unheld : e.held = false)
    (kind : e.frame.kind = .seated) : exec .seatedTaken s = .next ((s.takeEntry e).claim e.sender).settled := by
  have oldest := s.oldestEntry_of_head head unheld
  rw [kind] at oldest
  rw [exec, execSeatedTaken, done_eq, oldest]

theorem exec_bidTaken {s : State} {e : RxEntry} {board : BoardState} (head : s.lct.rxq.head? = some e) (unheld : e.held = false)
    (body : e.frame.body = .bid board) : exec .bidTaken s = .next ((s.takeEntry e).bidHeard e.sender).settled := by
  have kind : e.frame.kind = .bid := by rw [Frame.kind, body]; rfl
  have oldest := s.oldestEntry_of_head head unheld
  rw [kind] at oldest
  rw [exec, execBidTaken, done_eq, oldest]

/-! ## The roster (R85 to R88) -/

theorem State.rosterPresent_get {s : State} {r : Rank} (peer : r ≠ s.rank) :
    (s.rosterPresent r).roster[r] = { s.roster[r] with presence := .present } := State.setEntry_entry _ peer

theorem State.rosterBoard_get {s : State} {r : Rank} (board : BoardState) (peer : r ≠ s.rank) :
    (s.rosterBoard r board).roster[r] = { s.roster[r] with board := some board } := State.setEntry_entry _ peer

theorem State.rosterTitle_get {s : State} {r : Rank} (title : List Glyph) (peer : r ≠ s.rank) :
    (s.rosterTitle r title).roster[r] = { s.roster[r] with title := if title = [] then none else some title } := by
  rw [State.rosterTitle, State.setEntry_entry _ peer]
  simp only [List.isEmpty_iff]

theorem State.rosterRelease_get {s : State} {r : Rank} (peer : r ≠ s.rank) :
    (s.rosterRelease r).roster[r] = { s.roster[r] with holding := false } := State.setEntry_entry _ peer

/-- A claim marks the claimant alone (R88). -/
theorem State.rosterClaim_get (s : State) (r k : Rank) :
    (s.rosterClaim r).roster[k] = { s.roster[k] with holding := decide (k = r) } := by
  simp [State.rosterClaim]

/-- What a HELLO makes of its sender's entry (R86, R88). -/
theorem State.rosterTake_of_hello (s : State) {r : Rank} (holding reply : Bool) (board : BoardState) (l16 hl : Nat) (title : List Glyph)
    (peer : r ≠ s.rank) :
    (s.rosterTake r (.hello holding reply board l16 hl title)).roster[r] =
      { presence := .present, board := some board, holding := holding, title := if title = [] then none else some title } := by
  have heard : (((s.rosterPresent r).rosterBoard r board).rosterTitle r title).roster[r] =
      { s.roster[r] with presence := .present, board := some board, title := if title = [] then none else some title } := by
    rw [State.rosterTitle_get _ (by simpa using peer), State.rosterBoard_get _ (by simpa using peer), State.rosterPresent_get peer]
  cases holding with
  | true => exact (State.rosterClaim_get _ r r).trans (by rw [heard, decide_eq_true rfl])
  | false => exact (State.rosterRelease_get (by simpa using peer)).trans (by rw [heard])

/-- A claim taken, by SEATED or by HELLO, leaves no other peer as holder (R88). -/
theorem State.rosterTake_of_claim (s : State) {r : Rank} {body : Body}
    (claims : body = .seated ∨ ∃ reply board l16 hl title, body = .hello true reply board l16 hl title) :
    (r ≠ s.rank → (s.rosterTake r body).roster[r].holding = true ∧ (s.rosterTake r body).roster[r].presence = .present) ∧
    ∀ k, k ≠ r → (s.rosterTake r body).roster[k].holding = false := by
  obtain rfl | ⟨reply, board, l16, hl, title, rfl⟩ := claims
  · refine ⟨fun peer => ?_, fun k other => ?_⟩
    · have marked := (s.rosterPresent r).rosterClaim_get r r
      rw [State.rosterPresent_get peer] at marked
      simp only [State.rosterTake, marked, decide_true, and_self]
    · have cleared := (s.rosterPresent r).rosterClaim_get r k
      simp only [State.rosterTake, cleared, other, decide_false]
  · refine ⟨fun peer => ?_, fun k other => ?_⟩
    · simp only [s.rosterTake_of_hello _ _ _ _ _ _ peer, and_self]
    · have cleared := (((s.rosterPresent r).rosterBoard r board).rosterTitle r title).rosterClaim_get r k
      simp only [State.rosterTake, if_true, cleared, other, decide_false]

theorem State.rosterTake_of_bid (s : State) {r : Rank} (board : BoardState) (peer : r ≠ s.rank) :
    (s.rosterTake r (.bid board)).roster[r] = { s.roster[r] with presence := .present, board := some board } := by
  exact (State.rosterBoard_get board (by simpa using peer)).trans (by rw [State.rosterPresent_get peer])

/-! ## The sender's entry once its frame is taken -/

section
variable {s : State} {e : RxEntry}

theorem State.takeEntry_entry_of_hello {holding reply : Bool} {board : BoardState} {l16 hl : Nat} {title : List Glyph}
    (body : e.frame.body = .hello holding reply board l16 hl title) (peer : e.sender ≠ s.rank) :
    (s.takeEntry e).roster[e.sender] =
      { presence := .present, board := some board, holding := holding, title := if title = [] then none else some title } := by
  simp only [State.takeEntry, body]
  exact State.rosterTake_of_hello _ holding reply board l16 hl title peer

theorem State.takeEntry_entry_of_claim
    (claims : e.frame.body = .seated ∨ ∃ reply board l16 hl title, e.frame.body = .hello true reply board l16 hl title) :
    (e.sender ≠ s.rank →
      (s.takeEntry e).roster[e.sender].holding = true ∧ (s.takeEntry e).roster[e.sender].presence = .present) ∧
    ∀ k, k ≠ e.sender → (s.takeEntry e).roster[k].holding = false := by
  exact State.rosterTake_of_claim { s with lct := { s.lct with rxq := s.lct.rxq.tail } } claims

theorem State.takeEntry_entry_of_bid {board : BoardState} (body : e.frame.body = .bid board) (peer : e.sender ≠ s.rank) :
    (s.takeEntry e).roster[e.sender].presence = .present ∧ (s.takeEntry e).roster[e.sender].board = some board := by
  simp only [State.takeEntry, body]
  rw [State.rosterTake_of_bid _ board (by exact peer)]
  exact ⟨rfl, rfl⟩

end

end Sys2Proof.Machine
end

section
/-!
SUPPORT. HELLO without a reply requested and SEATED move, wherever they are sent, the line controller's queue side and the requests alone: a
report of them at once, on a stuck line, has no effect (R80, R89).
-/

namespace Sys2Proof.Machine

/-- A request whose frame, reported, has no effect moves line and requests alone (R80, R98). -/
theorem State.send_of_inert {s : State} {r : PendingRequest} (inert : ∀ rep, s.report rep (s.buildFrame r) = s) :
    ∃ l q, s.send r = { s with lct := l, spe := { s.spe with requests := q } } ∧ l.rxq = s.lct.rxq ∧ l.stuck = s.lct.stuck := by
  unfold State.send
  split
  · exact ⟨s.lct, (s.spe.recordRequest r).requests, by rw [← Spe.recordRequest_eq], rfl, rfl⟩
  · unfold State.tryEnqueue
    split
    · exact ⟨s.lct, s.spe.requests, inert _, rfl, rfl⟩
    · obtain ⟨-, stuck, -, rxq⟩ := s.lct.enqueue_flags s.now (s.buildFrame r)
      exact ⟨_, s.spe.requests, rfl, rxq, stuck⟩

theorem State.report_of_seated (s : State) (rep : Report) : s.report rep (s.buildFrame seatedRequest) = s := by
  cases role : s.spe.role <;>
    simp [State.report, State.rosterReport, State.recoveryReport, State.roleReport, State.buildFrame, State.buildBody, seatedRequest, role]

theorem State.report_of_hello (s : State) (rep : Report) : s.report rep (s.buildFrame (helloRequest false)) = s := by
  rw [State.report, State.roleReport_of_hello _ _ rfl]
  rfl

/-- SEATED sent (R103, R109). -/
theorem State.send_seated (s : State) :
    ∃ l q, s.send seatedRequest = { s with lct := l, spe := { s.spe with requests := q } } ∧ l.rxq = s.lct.rxq ∧
      l.stuck = s.lct.stuck :=
  State.send_of_inert s.report_of_seated

/-- A HELLO without a reply requested sent (R90, R91). -/
theorem State.sendHello_plain (s : State) :
    ∃ l q, s.sendHello false = { s with lct := l, spe := { s.spe with firstHello := true, requests := q } } ∧ l.rxq = s.lct.rxq ∧
      l.stuck = s.lct.stuck :=
  State.send_of_inert (s := { s with spe := { s.spe with firstHello := true } }) (State.report_of_hello _)

end Sys2Proof.Machine
end

section
/-!
SUPPORT. Claims and releases at the engine by role (R91, R100, R103, R105, R109): the reply first, then what the role makes of the frame.
-/

namespace Sys2Proof.Machine

/-! ## The reply (R91) -/

/-- The state after the reply that a HELLO may request (R91; assumption log 13). -/
def State.replied (s : State) (reply : Bool) : State :=
  if reply = true ∧ s.spe.role ≠ .withdrawn then s.sendHello false else s

theorem State.helloHeard_eq (s : State) (r : Rank) (holding reply : Bool) :
    s.helloHeard r holding reply = if holding then (s.replied reply).claim r else (s.replied reply).release r := rfl

/-- The reply moves the line controller, the mark of the first HELLO and the requests alone. -/
theorem State.replied_eq (s : State) (reply : Bool) :
    (∃ l h q, s.replied reply = { s with lct := l, spe := { s.spe with firstHello := h, requests := q } } ∧ l.rxq = s.lct.rxq ∧
      l.stuck = s.lct.stuck) ∧
    (reply = false ∨ s.spe.role = .withdrawn → s.replied reply = s) := by
  unfold State.replied
  split
  · next replies =>
    obtain ⟨asked, working⟩ := replies
    obtain ⟨l, q, sent, rxq, stuck⟩ := s.sendHello_plain
    refine ⟨⟨l, true, q, sent, rxq, stuck⟩, ?_⟩
    rintro (silent | withdrawn)
    · exact absurd asked (by simp [silent])
    · exact absurd withdrawn working
  · exact ⟨⟨s.lct, s.spe.firstHello, s.spe.requests, rfl, rfl, rfl⟩, fun _ => rfl⟩

/-! ## Claims -/

/-- A claim leaves the roster to `rosterTake`, and the receive queue (R75, R88). -/
theorem State.claim_kept (s : State) (r : Rank) : (s.claim r).roster = s.roster ∧ (s.claim r).lct.rxq = s.lct.rxq := by
  obtain ⟨l, q, sent, rxq, -⟩ := s.send_seated
  unfold State.claim State.yieldTo
  cases s.spe.role
  case holding =>
    dsimp only
    split
    · simp
    · simp [sent, rxq]
  case offering =>
    dsimp only
    split
    · simp
    · simp [sent, rxq]
  all_goals simp

/-- A role that does not hold the screen opens both switches, and outside handover ends the coin duty (R97, R138). -/
theorem State.setRole_standby_of_holder {s : State} (away : s.spe.role ≠ .standby) :
    (s.setRole .standby).osw.video = .isOpen ∧ (s.setRole .standby).osw.audio = .isOpen ∧ (s.setRole .standby).cnu.duty = .none := by
  have video (u : State) : (u.switchesFollow .standby).osw.video = .isOpen ∧ (u.switchesFollow .standby).osw.audio = .isOpen := by
    unfold State.switchesFollow
    cases h : u.osw.video <;> simp [holdsScreen, State.openVideo, h]
  unfold State.setRole
  rw [if_neg away]
  simp [State.handRole, video, State.coinRole, State.decideCblk, dutyOf]

/-- What a claim makes of the engine in each role but those of a holder (R100, R103, R105, R125, R131). -/
theorem State.claim_of_free {s : State} (r : Rank) :
    (s.spe.role = .startup → (s.claim r).spe = { s.spe with view := some r } ∧ (s.claim r).lct = s.lct) ∧
    (s.spe.role = .standby → (s.claim r).spe = { s.spe with view := some r, seatWait := none } ∧ (s.claim r).lct = s.lct) ∧
    (s.spe.role = .bidding → (s.claim r).spe.role = .standby ∧ (s.claim r).spe.view = some r ∧ (s.claim r).spe.bidSet = [] ∧
      (s.claim r).spe.bidWindow = none) ∧
    (s.spe.role = .passing ∨ s.spe.role = .accepted ∨ s.spe.role = .withdrawn → s.claim r = s) := by
  refine ⟨fun role => ?_, fun role => ?_, fun role => ?_, fun role => ?_⟩
  · simp [State.claim, role]
  · simp [State.claim, role]
  · simp [State.claim, role, State.setRole_spe, Spe.enterRole]
  · rcases role with role | role | role <;> simp [State.claim, role]

/-- A holder yields to a lower rank and answers any other with SEATED (R109, R122). -/
theorem State.claim_of_holder {s : State} (r : Rank) (role : s.spe.role = .holding ∨ s.spe.role = .offering) :
    s.claim r = if r < s.rank then s.yieldTo r else s.send seatedRequest := by
  rcases role with role | role <;> simp [State.claim, role]

/-- The body of a claim, and whether it requests a reply (R65, R91). -/
def Body.claimsWith (b : Body) (reply : Bool) : Prop :=
  b = .seated ∧ reply = false ∨ ∃ board l16 hl title, b = .hello true reply board l16 hl title

/-- A claim taken: the reply it may request, then the claim (R91, R100, R103, R105, R109). -/
theorem exec_claimTaken {s : State} {c : Instr} {e : RxEntry} (head : s.lct.rxq.head? = some e) (unheld : e.held = false)
    (taken : c = .seatedTaken ∧ e.frame.kind = .seated ∨
      c = .helloTaken ∧ ∃ reply board l16 hl title, e.frame.body = .hello true reply board l16 hl title) :
    ∃ reply, e.frame.body.claimsWith reply ∧ exec c s = .next (((s.takeEntry e).replied reply).claim e.sender).settled := by
  rcases taken with ⟨rfl, kind⟩ | ⟨rfl, reply, board, l16, hl, title, body⟩
  · have body : e.frame.body = .seated := by
      unfold Frame.kind at kind
      cases h : e.frame.body <;> simp [h, Body.kind] at kind
      rfl
    refine ⟨false, .inl ⟨body, rfl⟩, ?_⟩
    rw [exec_seatedTaken head unheld kind, (State.replied_eq _ false).2 (.inl rfl)]
  · refine ⟨reply, .inr ⟨board, l16, hl, title, body⟩, ?_⟩
    rw [exec_helloTaken head unheld body, State.helloHeard_eq, if_pos rfl]

/-- A frame sent on a working line with room, and no waiting frame of its kind, joins the queue (R76). -/
theorem State.send_txq {s : State} (r : PendingRequest) (mode : s.lct.mode = .running) (unstuck : s.lct.stuck = false)
    (busy : s.lct.phase ≠ .idle) (room : s.lct.txq.length < 4) (fresh : ∀ f ∈ s.lct.txq.tail, f.kind ≠ r.kind) :
    (s.send r).lct = { s.lct with
      txq := s.lct.txq ++ [s.buildFrame r], attempts := if s.lct.txq.isEmpty then 0 else s.lct.attempts } := by
  have unmatched : waitingMatch (s.buildFrame r) s.lct.txq = false := by
    rw [Bool.eq_false_iff, ne_eq, State.waitingMatch_iff]
    rintro ⟨g, mem, kind, -⟩
    exact fresh g mem kind
  rw [s.send_joins r mode unstuck busy room unmatched]

/-- What waits behind the head once a frame has joined the queue. -/
theorem mem_tail_concat {q : List Frame} {f g : Frame} (mem : f ∈ (q ++ [g]).tail) : f ∈ q.tail ∨ f = g := by
  cases q with
  | nil => cases mem
  | cons head rest => simpa using mem

theorem State.settled_spe (s : State) : s.settled.spe = s.spe := by simp

theorem State.takeEntry_spe (s : State) (e : RxEntry) : (s.takeEntry e).spe = s.spe := by simp

/-- The same of a HELLO (R90, R91). -/
theorem State.sendHello_txq {s : State} (reply : Bool) (mode : s.lct.mode = .running) (unstuck : s.lct.stuck = false)
    (busy : s.lct.phase ≠ .idle) (room : s.lct.txq.length < 4) (fresh : ∀ f ∈ s.lct.txq.tail, f.kind ≠ .hello) :
    (s.sendHello reply).lct = { s.lct with
      txq := s.lct.txq ++ [s.hello reply], attempts := if s.lct.txq.isEmpty then 0 else s.lct.attempts } :=
  State.send_txq (s := { s with spe := { s.spe with firstHello := true } }) (helloRequest reply) mode unstuck busy room fresh

/-- The HELLO of a node that has taken an entry (R90). -/
theorem State.takeEntry_hello (s : State) (e : RxEntry) (reply : Bool) :
    (s.takeEntry e).hello reply = Frame.mk .all (.hello (holdsScreen s.spe.role) reply s.bsv.board
      ((s.tmu.current.map (·.sig.l16)).getD 0) ((s.tmu.current.map (·.sig.hl)).getD 0) s.quantities.title) := by
  simp [State.hello, State.buildFrame, State.buildBody, helloRequest, State.quantities]

end Sys2Proof.Machine
end

section
open Sys2Proof.Machine

/-- Settles O37: the roster by `State.takeEntry_entry_of_claim`, the engine by role. -/
theorem claimReachesEngine : Obligations.ClaimReachesEngine := by
  intro s c e head unheld claims replies taken
  have taken' : c = .seatedTaken ∧ e.frame.kind = .seated ∨
      c = .helloTaken ∧ ∃ reply board l16 hl title, e.frame.body = .hello true reply board l16 hl title := by
    refine taken.imp_right fun ⟨hello, holding⟩ => ⟨hello, ?_⟩
    cases body : e.frame.body with
    | hello holding' reply board l16 hl title =>
      obtain rfl : holding' = true := by simpa [claims, body] using holding
      exact ⟨reply, board, l16, hl, title, rfl⟩
    | _ => simp [claims, body] at holding
  obtain ⟨reply, claim, executed⟩ := exec_claimTaken head unheld taken'
  have answers : replies = (reply && s.spe.role != .withdrawn) := by
    rcases claim with ⟨body, rfl⟩ | ⟨board, l16, hl, title, body⟩ <;> simp [replies, body]
  obtain ⟨⟨l, h, q, reply_eq, rxq, -⟩, unanswered⟩ := (s.takeEntry e).replied_eq reply
  have quiet (silent : replies = false) : (s.takeEntry e).replied reply = s.takeEntry e := by
    apply unanswered
    rw [answers] at silent
    simpa [imp_iff_not_or] using silent
  obtain ⟨v, hv⟩ : ∃ v, (s.takeEntry e).replied reply = v := ⟨_, rfl⟩
  rw [hv] at executed reply_eq quiet
  have spe : v.spe = { s.spe with firstHello := h, requests := q } := by simp [reply_eq]
  have same : v.rank = s.rank ∧ v.osw = s.osw ∧ v.roster = (s.takeEntry e).roster ∧ v.lct.rxq = s.lct.rxq.tail := by
    simp [reply_eq, rxq]
  obtain ⟨rank, osw, roster, queue⟩ := same
  obtain ⟨kept, rxq'⟩ := v.claim_kept e.sender
  obtain ⟨startup, standby, bidding, inert⟩ := v.claim_of_free e.sender
  obtain ⟨claimed, others⟩ := State.takeEntry_entry_of_claim (s := s) (e := e) (claim.imp And.left fun ⟨b, l, h, t, body⟩ => ⟨reply, b, l, h, t, body⟩)
  have entry (k : Sys2Proof.Rank) (peer : k ≠ s.rank) : (v.claim e.sender).settled.entry k = (s.takeEntry e).roster[k] := by
    rw [State.settled_entry, State.entry_of_peer (by simpa [rank] using peer), kept, roster]
  refine ⟨_, executed, by simp [reply_eq], ?_, ?_⟩
  · rw [State.settled_lct, rxq', queue]
  refine ⟨fun peer => ?_, fun k other peer => ?_, fun role => ?_, fun role => ?_, fun role => ?_, fun role lower => ?_, fun role higher => ?_,
    fun role => ?_, fun silent notBidding notHolding notOffering => ?_, ?_⟩
  · rw [entry _ peer]
    exact claimed peer
  · rw [entry k peer]
    exact others k other
  · obtain ⟨engine, -⟩ := startup (by rw [spe]; exact role)
    simp [engine, spe]
  · obtain ⟨engine, -⟩ := standby (by rw [spe]; exact role)
    simp [engine, spe]
  · simpa using bidding (by rw [spe]; exact role)
  · have yields : v.claim e.sender = v.yieldTo e.sender := by
      rw [v.claim_of_holder e.sender (by rw [spe]; exact role), if_pos (by rw [rank]; exact lower)]
    have switches := State.setRole_standby_of_holder (s := { v with spe := { v.spe with view := some e.sender } })
      (by rw [spe]; rcases role with role | role <;> simp [role])
    rw [yields]
    simpa [State.yieldTo] using switches
  · have answered : v.claim e.sender = v.send seatedRequest := by
      rw [v.claim_of_holder e.sender (by rw [spe]; exact role), if_neg (by rw [rank]; exact not_lt.mpr higher)]
    obtain ⟨l', q', sent, -⟩ := v.send_seated
    have txq : (v.claim e.sender).settled.lct.txq = (v.send seatedRequest).lct.txq := by rw [State.settled_lct, answered]
    rw [txq, answered, sent]
    refine ⟨by simp [spe], by simp [spe], by simp [osw], fun mode unstuck busy room fresh silent => ?_, fun mode unstuck busy room fresh replied => ?_⟩
    · have taken : v = s.takeEntry e := quiet silent
      have line : v.lct = { s.lct with rxq := s.lct.rxq.tail } := by simp [taken]
      rw [← sent, State.send_txq seatedRequest (by rw [line]; exact mode) (by rw [line]; exact unstuck) (by rw [line]; exact busy)
        (by rw [line]; exact room) (by rw [line]; exact fresh), line]
      rfl
    · obtain ⟨asked, -⟩ : reply = true ∧ s.spe.role ≠ .withdrawn := by
        rw [answers] at replied
        simpa using replied
      have taken : v = (s.takeEntry e).sendHello false := by
        rw [← hv, State.replied, if_pos]
        rcases role with role | role <;> simp [asked, role]
      have hello := State.sendHello_txq (s := s.takeEntry e) false (by simpa using mode) (by simpa using unstuck) (by simpa using busy)
        (by simpa using Nat.lt_succ_of_lt room) (fun f mem => (fresh f (by simpa using mem)).2)
      rw [← taken, State.takeEntry_hello, State.takeEntry_lct] at hello
      have waiting : ∀ f ∈ v.lct.txq.tail, f.kind ≠ .seated := by
        intro f mem
        rw [hello] at mem
        rcases mem_tail_concat mem with old | rfl
        · exact (fresh f old).1
        · exact FrameKind.noConfusion
      rw [← sent, State.send_txq seatedRequest (by rw [hello]; exact mode) (by rw [hello]; exact unstuck) (by rw [hello]; exact busy)
        (by rw [hello]; simp; omega) waiting, hello]
      rcases role with role | role <;> simp [role, holdsScreen, State.buildFrame, State.buildBody, seatedRequest]
  · have unmoved : v.claim e.sender = v := inert (by rw [spe]; exact role)
    rw [unmoved]
    refine ⟨by simp [spe], ?_⟩
    simp [State.agreesOutside_iff, follows, reply_eq]
  · have taken : v = s.takeEntry e := quiet silent
    have line : (v.claim e.sender).lct = v.lct ∧ (v.claim e.sender).spe.firstHello = v.spe.firstHello ∧
        (v.claim e.sender).spe.requests = v.spe.requests := by
      cases role : s.spe.role
      case startup =>
        obtain ⟨engine, line⟩ := startup (by rw [spe]; exact role)
        exact ⟨line, by rw [engine], by rw [engine]⟩
      case standby =>
        obtain ⟨engine, line⟩ := standby (by rw [spe]; exact role)
        exact ⟨line, by rw [engine], by rw [engine]⟩
      case bidding => exact absurd role notBidding
      case holding => exact absurd role notHolding
      case offering => exact absurd role notOffering
      all_goals
        rw [inert (by simp [spe, role])]
        exact ⟨rfl, rfl, rfl⟩
    obtain ⟨line, first, requests⟩ := line
    refine ⟨?_, ?_, ?_⟩
    · rw [State.settled_lct, line, taken, State.takeEntry_lct]
    · rw [State.settled_spe, first, taken, State.takeEntry_spe]
    · rw [State.settled_spe, requests, taken, State.takeEntry_spe]
  · simp [State.agreesOutside_iff, follows, reached, reply_eq]

end

section
/-!
SUPPORT. Releases and bids at the engine (R100, R103 to R105, R109), and frames that stay queued while others join (R76).
-/

namespace Sys2Proof.Machine

/-! ## Frames that stay queued (R76) -/

theorem mem_replaceWaiting_of_other {q : List Frame} {f g : Frame} (mem : f ∈ q) (other : f.kind ≠ g.kind) : f ∈ replaceWaiting g q := by
  induction q with
  | nil => cases mem
  | cons head rest ih =>
    unfold replaceWaiting
    split
    · next same =>
      rcases List.mem_cons.mp mem with rfl | later
      · exact absurd ((Frame.sameSlot_iff _ _).mp same).1 other
      · exact List.mem_cons_of_mem _ later
    · rcases List.mem_cons.mp mem with rfl | later
      · exact List.mem_cons_self
      · exact List.mem_cons_of_mem _ (ih later)

/-- A frame enqueued takes the place of none of another kind. -/
theorem LineController.mem_enqueue {l : LineController} {f g : Frame} (now : Moment) (mem : f ∈ l.txq) (other : f.kind ≠ g.kind) :
    f ∈ (l.enqueue now g).txq := by
  rw [LineController.enqueue_txq]
  split
  · exact List.mem_append_left _ mem
  · cases h : l.txq with
    | nil => simp [h] at mem
    | cons head rest =>
      rw [h] at mem
      rcases List.mem_cons.mp mem with rfl | later
      · exact List.mem_cons_self
      · exact List.mem_cons_of_mem _ (mem_replaceWaiting_of_other later other)
  · exact mem
  · exact mem

/-- Neither a claim nor a release, on a line that is not stuck, takes a HELLO from the queue. -/
theorem State.hello_stays {s : State} {f : Frame} (r : Rank) (unstuck : s.lct.stuck = false) (mem : f ∈ s.lct.txq) (hello : f.kind = .hello) :
    f ∈ (s.claim r).lct.txq ∧ f ∈ (s.release r).lct.txq := by
  have seated : f ∈ (s.send seatedRequest).lct.txq := by
    rw [State.send_lct_of_unstuck _ unstuck]
    exact LineController.mem_enqueue _ mem (by rw [hello]; exact FrameKind.noConfusion)
  constructor
  · unfold State.claim State.yieldTo
    cases s.spe.role
    case holding =>
      dsimp only
      split
      · simpa using mem
      · exact seated
    case offering =>
      dsimp only
      split
      · simpa using mem
      · exact seated
    all_goals simpa using mem
  · unfold State.release
    split
    · split
      · simpa using mem
      · rw [State.bidCheck_eq]
        split
        · rw [State.beginBid_lct_of_unstuck _ (by simpa using unstuck)]
          exact LineController.mem_enqueue _ (by simpa using mem) (by rw [hello]; exact FrameKind.noConfusion)
        · simpa using mem
      · exact mem
    · exact mem

/-! ## Releases (R100, R103) -/

/-- A release leaves the roster to `rosterTake`, and the receive queue (R75, R88). -/
theorem State.release_kept (s : State) (r : Rank) : (s.release r).roster = s.roster ∧ (s.release r).lct.rxq = s.lct.rxq := by
  have checked (u : State) : u.bidCheck.lct.rxq = u.lct.rxq := by
    rw [State.bidCheck_eq]
    split
    · next bids =>
      obtain ⟨-, -, -, unstuck, -⟩ := bids
      obtain ⟨-, -, -, rxq⟩ := u.lct.enqueue_flags u.now (Frame.mk .all (.bid u.bsv.board))
      rw [State.beginBid_lct_of_unstuck none unstuck, rxq]
    · rfl
  unfold State.release
  split
  · split
    · simp
    · simp [checked]
    · exact ⟨rfl, rfl⟩
  · exact ⟨rfl, rfl⟩

/-- A release of a rank that is not in view, or in a role that keeps its view, changes nothing (R103, R125; assumption log 42). -/
theorem State.release_of_unmoved {s : State} {r : Rank}
    (h : s.spe.view ≠ some r ∨ s.spe.role ≠ .startup ∧ s.spe.role ≠ .standby) : s.release r = s := by
  unfold State.release
  split
  · next view =>
    obtain ⟨startup, standby⟩ := h.resolve_left (not_not_intro view)
    split
    · next role => exact absurd role startup
    · next role => exact absurd role standby
    · rfl
  · rfl

/-- A release of the rank in view frees it; in STANDBY the bid check follows (R100, R102, R103). -/
theorem State.release_of_view {s : State} {r : Rank} (view : s.spe.view = some r) :
    (s.spe.role = .startup → s.release r = s.setView none) ∧ (s.spe.role = .standby → s.release r = (s.setView none).bidCheck) := by
  constructor <;> intro role <;> simp [State.release, view, role]

/-! ## Bids (R103 to R105, R109) -/

theorem State.bidHeard_of_joiner {s : State} (r : Rank) (role : s.spe.role = .standby) (view : s.spe.view = none)
    (ready : s.bsv.board = .ready) (unstuck : s.lct.stuck = false) : s.bidHeard r = s.beginBid (some r) := by
  simp [State.bidHeard, role, view, ready, unstuck]

theorem State.bidHeard_of_bidder {s : State} (r : Rank) (role : s.spe.role = .bidding) : s.bidHeard r = { s with spe := { s.spe with
    bidSet := if r ∈ s.spe.bidSet then s.spe.bidSet else s.spe.bidSet ++ [r], bidWindow := some (s.now + 2400000) } } := by
  simp only [State.bidHeard, role]
  rfl

theorem State.bidHeard_of_holder {s : State} (r : Rank) (role : s.spe.role = .holding ∨ s.spe.role = .offering) :
    s.bidHeard r = s.send seatedRequest := by
  rcases role with role | role <;> simp [State.bidHeard, role]

/-- Every other node takes notice in the roster alone (R87, R100, R125, R131). -/
theorem State.bidHeard_of_other {s : State} (r : Rank)
    (free : ¬(s.spe.role = .standby ∧ s.spe.view = none ∧ s.bsv.board = .ready ∧ s.lct.stuck = false)) (bidding : s.spe.role ≠ .bidding)
    (holding : s.spe.role ≠ .holding) (offering : s.spe.role ≠ .offering) : s.bidHeard r = s := by
  unfold State.bidHeard
  cases role : s.spe.role
  case standby =>
    dsimp only
    rw [if_neg]
    rintro ⟨view, ready, unstuck⟩
    exact free ⟨role, by simpa using view, ready, unstuck⟩
  case bidding => exact absurd role bidding
  case holding => exact absurd role holding
  case offering => exact absurd role offering
  all_goals rfl

/-- A BID leaves the roster to `rosterTake`, and the receive queue (R75, R87). -/
theorem State.bidHeard_kept (s : State) (r : Rank) : (s.bidHeard r).roster = s.roster ∧ (s.bidHeard r).lct.rxq = s.lct.rxq := by
  obtain ⟨l, q, sent, rxq, -⟩ := s.send_seated
  unfold State.bidHeard
  cases s.spe.role
  case standby =>
    dsimp only
    split
    · next joins =>
      obtain ⟨-, -, unstuck⟩ := joins
      obtain ⟨-, -, -, rxq⟩ := s.lct.enqueue_flags s.now (Frame.mk .all (.bid s.bsv.board))
      rw [State.beginBid_lct_of_unstuck _ unstuck, State.beginBid_roster]
      exact ⟨rfl, rxq⟩
    · exact ⟨rfl, rfl⟩
  case holding => simp [sent, rxq]
  case offering => simp [sent, rxq]
  all_goals exact ⟨rfl, rfl⟩

end Sys2Proof.Machine
end

section
open Sys2Proof.Machine

/-- Settles O38: the roster by `State.takeEntry_entry_of_hello`, the reply by `State.sendHello_txq`, the view by role. -/
theorem helloReachesRosterAndEngine : Obligations.HelloReachesRosterAndEngine := by
  intro s e head unheld holding reply board l16 hl title body
  have executed := exec_helloTaken head unheld body
  obtain ⟨⟨l, h, q, reply_eq, rxq, stuck⟩, unanswered⟩ := (s.takeEntry e).replied_eq reply
  obtain ⟨v, hv⟩ : ∃ v, (s.takeEntry e).replied reply = v := ⟨_, rfl⟩
  rw [State.helloHeard_eq, hv] at executed
  rw [hv] at reply_eq unanswered
  obtain ⟨w, hw⟩ : ∃ w, (if holding then v.claim e.sender else v.release e.sender) = w := ⟨_, rfl⟩
  rw [hw] at executed
  have spe : v.spe = { s.spe with firstHello := h, requests := q } := by simp [reply_eq]
  have same : v.rank = s.rank ∧ v.roster = (s.takeEntry e).roster ∧ v.bsv = s.bsv ∧ v.lct.rxq = s.lct.rxq.tail ∧ v.lct.stuck = s.lct.stuck := by
    simp [reply_eq, rxq, stuck]
  obtain ⟨rank, roster, board', queue, stuck'⟩ := same
  have kept : w.roster = v.roster ∧ w.lct.rxq = v.lct.rxq := by
    rw [← hw]
    split
    · exact v.claim_kept e.sender
    · exact v.release_kept e.sender
  obtain ⟨kept, rxq'⟩ := kept
  have whole : s.agreesOutside w.settled (.lct :: .spe :: .roster :: reached) := by
    rw [← hw]
    split <;> simp [State.agreesOutside_iff, follows, reached, reply_eq]
  have moved : s.agreesOutside v.settled (.lct :: .spe :: .roster :: follows) := by
    simp [State.agreesOutside_iff, follows, reply_eq]
  refine ⟨_, executed, ?_, ?_, fun peer => ?_, fun asked working mode unstuck busy room fresh => ?_, ?_⟩
  · rw [← hw]
    split <;> simp [reply_eq]
  · rw [State.settled_lct, rxq', queue]
  · rw [State.settled_entry, State.entry_of_peer (by simpa [← hw, apply_ite, rank] using peer), kept, roster]
    exact State.takeEntry_entry_of_hello body peer
  · have hello := State.sendHello_txq (s := s.takeEntry e) false (by simpa using mode) (by simpa using unstuck) (by simpa using busy)
      (by simpa using room) (fun f mem => fresh f (by simpa using mem))
    have sent : v = (s.takeEntry e).sendHello false := by
      rw [← hv, State.replied, if_pos]
      simp [asked, working]
    rw [← sent, State.takeEntry_hello] at hello
    obtain ⟨claimed, released⟩ := State.hello_stays (s := v) (f := Frame.mk .all (.hello (holdsScreen s.spe.role) false s.bsv.board
      ((s.tmu.current.map (·.sig.l16)).getD 0) ((s.tmu.current.map (·.sig.hl)).getD 0) s.quantities.title)) e.sender
      (stuck'.trans unstuck) (by rw [hello]; simp) rfl
    rw [State.settled_lct, ← hw]
    split
    · exact claimed
    · exact released
  · intro silent answered
    have taken (hs : silent) : v = s.takeEntry e := unanswered (by simpa using hs)
    have idle (unmoved : w = v) : w.settled.spe = answered ∧ s.agreesOutside w.settled (.lct :: .spe :: .roster :: follows) ∧
        (silent → w.settled.lct = { s.lct with rxq := s.lct.rxq.tail } ∧ s.agreesOutside w.settled (.lct :: .roster :: follows)) := by
      simp only [answered]
      rw [unmoved]
      refine ⟨?_, moved, fun hs => ⟨?_, ?_⟩⟩
      · rw [State.settled_spe, spe]
      · rw [State.settled_lct, taken hs, State.takeEntry_lct]
      · rw [taken hs]
        simp [State.agreesOutside_iff, follows]
    have freed (unview : w = v.setView none) : w.settled.spe = { answered with view := none } ∧
        (silent → w.settled.spe = { s.spe with view := none }) := by
      simp only [answered]
      rw [unview]
      refine ⟨?_, fun hs => ?_⟩
      · rw [State.settled_spe, State.setView_spe, spe]
      · rw [State.settled_spe, State.setView_spe, taken hs, State.takeEntry_spe]
    refine ⟨fun released away => ?_, fun released view => ⟨fun role => ?_, fun role blocked => ?_, fun role ready unstuck free => ?_,
      fun startup standby => ?_⟩, whole⟩
    all_goals rw [released, if_neg Bool.false_ne_true] at hw
    · exact idle (hw.symm.trans (State.release_of_unmoved (.inl (by rw [spe]; exact away))))
    · obtain ⟨startup, -⟩ := State.release_of_view (s := v) (r := e.sender) (by rw [spe]; exact view)
      exact freed (hw.symm.trans (startup (by rw [spe]; exact role)))
    · obtain ⟨-, standby⟩ := State.release_of_view (s := v) (r := e.sender) (by rw [spe]; exact view)
      refine freed (hw.symm.trans ((standby (by rw [spe]; exact role)).trans ?_))
      rw [State.bidCheck_eq, if_neg]
      rintro ⟨-, -, ready, unstuck, free⟩
      have ready : s.bsv.board = .ready := by simpa [board'] using ready
      have unstuck : s.lct.stuck = false := by simpa [stuck'] using unstuck
      have free : s.spe.seatWait = none := by simpa [spe] using free
      rcases blocked with h | h | h
      · exact h ready
      · exact absurd (h.symm.trans unstuck) (by decide)
      · simp [free] at h
    · obtain ⟨-, standby⟩ := State.release_of_view (s := v) (r := e.sender) (by rw [spe]; exact view)
      have standby := standby (by rw [spe]; exact role)
      have open' : (v.setView none).lct.stuck = false := by simpa [stuck'] using unstuck
      have passes : (v.setView none).bidCheck = (v.setView none).beginBid none := by
        rw [State.bidCheck_eq, if_pos]
        exact ⟨by simp [spe, role], by simp, by simp [board', ready], open', by simp [spe, free]⟩
      have bids := State.beginBid_spe_of_unstuck (s := v.setView none) none open' (by simp [spe, role])
      rw [← hw, standby, passes, State.settled_spe, bids]
      exact ⟨rfl, rfl, by simp [bidders, rank]⟩
    · exact idle (hw.symm.trans (State.release_of_unmoved (.inr (by rw [spe]; exact ⟨startup, standby⟩))))

/-- Settles O39: the roster by `State.takeEntry_entry_of_bid`, the engine by role. -/
theorem bidJoinsRound : Obligations.BidJoinsRound := by
  intro s e head unheld board body
  refine ⟨_, exec_bidTaken head unheld body, ?_⟩
  obtain ⟨u, hu⟩ : ∃ u, s.takeEntry e = u := ⟨_, rfl⟩
  rw [hu]
  have line : u.lct = { s.lct with rxq := s.lct.rxq.tail } := by rw [← hu, State.takeEntry_lct]
  have same : u.spe = s.spe ∧ u.rank = s.rank ∧ u.now = s.now ∧ u.bsv = s.bsv := by simp [← hu]
  obtain ⟨spe, rank, now, bsv⟩ := same
  have entry (peer : e.sender ≠ s.rank) (kept : (u.bidHeard e.sender).roster = u.roster) :
      ((u.bidHeard e.sender).settled.entry e.sender).presence = .present ∧
      ((u.bidHeard e.sender).settled.entry e.sender).board = some board := by
    rw [State.settled_entry, State.entry_of_peer (by simpa [rank] using peer), kept, ← hu]
    exact State.takeEntry_entry_of_bid body peer
  obtain ⟨kept, rxq⟩ := u.bidHeard_kept e.sender
  refine ⟨by simp [now], by rw [State.settled_lct, rxq, line], ?_⟩
  intro r joins
  refine ⟨fun peer => entry peer kept, fun ⟨role, view, ready, unstuck⟩ => ?_, fun role => ?_, fun role => ?_,
    fun free notBidding notHolding notOffering => ?_, ?_⟩
  · have open' : u.lct.stuck = false := by rw [line]; exact unstuck
    have joined : u.bidHeard e.sender = u.beginBid (some e.sender) :=
      State.bidHeard_of_joiner e.sender (by rw [spe]; exact role) (by rw [spe]; exact view) (by rw [bsv]; exact ready) open'
    have bids := State.beginBid_spe_of_unstuck (some e.sender) open' (by rw [spe, role]; decide)
    rw [joined, State.settled_spe, bids, rank, now]
    refine ⟨rfl, rfl, rfl, ?_, rfl⟩
    simp only [bidders, joinBidSet, List.mem_singleton, List.singleton_append, r]
  · rw [u.bidHeard_of_bidder e.sender (by rw [spe]; exact role), State.settled_spe, spe, now]
  · have answered : u.bidHeard e.sender = u.send seatedRequest := u.bidHeard_of_holder e.sender (by rw [spe]; exact role)
    rw [answered]
    refine ⟨?_, fun mode unstuck busy room fresh => ?_⟩
    · obtain ⟨l, q, sent, -⟩ := u.send_seated
      rw [State.settled_spe, sent, spe]
    · rw [State.settled_lct, State.send_txq seatedRequest (by rw [line]; exact mode) (by rw [line]; exact unstuck)
        (by rw [line]; exact busy) (by rw [line]; exact room) (by rw [line]; exact fresh), line]
      rfl
  · rw [u.bidHeard_of_other e.sender (by rw [spe, bsv, line]; exact free) (by rw [spe]; exact notBidding) (by rw [spe]; exact notHolding)
      (by rw [spe]; exact notOffering), State.settled_lct, line, ← hu]
    exact ⟨rfl, by simp [State.agreesOutside_iff, follows]⟩
  · simp [State.agreesOutside_iff, follows, reached, ← hu]

end

section
/-!
SUPPORT. LOAD END without a valid block (R70, R101, R154, R181): the node withdraws, block by block.
-/

namespace Sys2Proof.Machine

/-- The end of the load period does not move a node out of STARTUP, whatever its line does (R42, R91). -/
theorem State.endLoadPeriod_role (s : State) : s.endLoadPeriod.spe.role = s.spe.role := by
  have announced (u : State) : (u.speBoard .vacant).spe.role = u.spe.role := by
    simp only [State.speBoard]
    split <;> simp
  simp only [State.endLoadPeriod]
  split
  · split
    · rfl
    · simp [State.enterVacant, State.enterBoardCleared, State.enterBoard, State.handBoard, announced]
  · rfl

/-- The blocks before the engine leave it in its role, and the line controller in MUTE without a valid block (R70). -/
theorem State.loadStarted_of_invalid (s : State) :
    (s.loadStarted none).spe.role = s.spe.role ∧ (s.loadStarted none).lct.mode = .mute := by
  have line : (s.loadStarted none).lct = (s.loadTaken none).slicerLoadEnd.endLoadPeriod.lct.loadEnd
      (s.loadTaken none).slicerLoadEnd.endLoadPeriod.now false := rfl
  have role : (s.loadStarted none).spe.role = (s.loadTaken none).slicerLoadEnd.endLoadPeriod.spe.role := rfl
  rw [line, role, State.endLoadPeriod_role]
  simp [LineController.loadEnd]

/-- A withdrawn node has its switches open (R97). -/
theorem State.setRole_withdrawn_video {s : State} (away : s.spe.role ≠ .withdrawn) : (s.setRole .withdrawn).osw.video = .isOpen := by
  have opened (u : State) : (u.switchesFollow .withdrawn).osw.video = .isOpen := by
    unfold State.switchesFollow
    cases h : u.osw.video <;> simp [holdsScreen, State.openVideo, h]
  unfold State.setRole
  rw [if_neg away]
  simp [State.handRole, opened]

/-- Without a valid block the node withdraws with reason NO CONFIG, muted, its quantities the defaults (R70, R99, R101, R181). -/
theorem State.loadEnd_withdrawn (s : State) (startup : s.spe.role = .startup) :
    (s.loadEnd none).lct.mode = .mute ∧ (s.loadEnd none).spe.role = .withdrawn ∧ (s.loadEnd none).spe.withdrawal = some .noConfig ∧
    (s.loadEnd none).cfg = some defaultQuantities ∧ (s.loadEnd none).cfl = (s.loadTaken none).cfl ∧
    (s.loadEnd none).roster = s.roster ∧ (s.loadEnd none).ssl.mode = .acquiring ∧ (s.loadEnd none).osw.video = .isOpen ∧
    (s.loadEnd none).cnu.dormant = false ∧ (s.loadEnd none).cnu.cblk = false := by
  obtain ⟨role, mode⟩ := s.loadStarted_of_invalid
  have away : (s.loadStarted none).spe.role ≠ .withdrawn := by rw [role, startup]; decide
  obtain ⟨lct, withdrawn, reason⟩ := (s.loadStarted none).withdraw_of_working .noConfig away
  have ended : s.loadEnd none = ((s.loadStarted none).withdraw .noConfig).coinLoadEnd.mapperLoadEnd := s.loadEnd_eq none
  have slicer : (s.loadTaken none).slicerLoadEnd = (s.loadTaken none).enterAcquiring := State.slicerLoadEnd_of_adaptive _ rfl
  have video : ((s.loadStarted none).withdraw .noConfig).osw.video = .isOpen := by
    unfold State.withdraw
    split
    · next h => exact absurd h away
    · exact State.setRole_withdrawn_video (by simpa using away)
  have cblk : ((s.loadStarted none).withdraw .noConfig).coinLoadEnd.cnu.cblk = false := by
    simp [State.coinLoadEnd, State.decideCblk, cblkAsserted, withdrawn]
  have muted : (s.loadStarted none).lct.muteCommand.mode = .mute := by simp [LineController.muteCommand, mode]
  rw [ended]
  refine ⟨?_, ?_, ?_, ?_, ?_, ?_, ?_, ?_, ?_, ?_⟩
  · simp [lct, muted]
  · simp [withdrawn]
  · simp [reason]
  · simp [State.loadTaken]
  · simp
  · simp
  · simp [slicer, State.enterAcquiring]
  · simp [video]
  · simp
  · simp [cblk]

theorem exec_blockRead_invalid {s : State} {bytes : List Byte} (dt : Nat) (reading : s.cfl.load = .reading) (length : bytes.length = 128)
    (invalid : blockValid bytes = false) : exec (.blockRead dt bytes) s = .next ((s.elapse dt).loadEnd none).settled := by
  simp [exec, execBlockRead, done_eq, reading, invalid, length]

/-- The third failed try ends the load (R179). -/
theorem exec_tryFails_third {s : State} (dt : Nat) (step : AckStep) (linesFree : Bool) (reading : s.cfl.load = .reading)
    (third : s.cfl.tries = 3) :
    exec (.tryFails dt ⟨.missingAck step, linesFree⟩) s = .next (((s.elapse dt).loadEnd none).portFails linesFree).settled := by
  simp [exec, execTryFails, done_eq, reading, failureCounts, State.tryFails, third]

end Sys2Proof.Machine
end

section
open Sys2Proof.Machine

/-- Settles O7: both ways to LOAD END without a block, which withdraws by `State.loadEnd_withdrawn`. -/
theorem invalidLoadWithdrawsNode : Obligations.InvalidLoadWithdrawsNode := by
  intro s c dt bytes step linesFree reading startup fails
  obtain ⟨mode, role, reason, cfg, cfl, roster, ssl, video, dormant, cblk⟩ := (s.elapse dt).loadEnd_withdrawn startup
  obtain ⟨u, hu⟩ : ∃ u, (s.elapse dt).loadEnd none = u := ⟨_, rfl⟩
  obtain ⟨p, hp⟩ : ∃ p : Sys2Proof.Machine.Port, (if c = .blockRead dt bytes ∨ linesFree = false then .released else .stopping (s.now + dt)) = p :=
    ⟨_, rfl⟩
  have same : u.now = s.now + dt ∧ u.rank = s.rank ∧ u.pending = s.pending ∧ u.lamps = s.lamps := by simp [← hu]
  obtain ⟨now, rank, pending, lamps⟩ := same
  rw [hu] at mode role reason cfg cfl roster ssl video dormant cblk
  rw [hp]
  have executed : exec c s = .next ({ u with cfl := { u.cfl with port := p } } : State).settled := by
    rcases fails with ⟨rfl, length, invalid⟩ | ⟨rfl, third⟩
    · have released : p = u.cfl.port := by
        rw [← hp, if_pos (.inl rfl), cfl]
        rfl
      rw [exec_blockRead_invalid dt reading length invalid, hu, released]
    · have fromLines : p = if linesFree then .stopping u.now else .released := by
        rw [← hp, now]
        cases linesFree <;> simp
      rw [exec_tryFails_third dt step linesFree reading third, hu, fromLines]
      rfl
  have floating (k : Fin 24) : ({ u with cfl := { u.cfl with port := p } } : State).settled.edgeLevel k = .floating := by
    have unmapped : ({ u with cfl := { u.cfl with port := p } } : State).settled.mapTable = none := by
      simp [State.mapTable, State.quantities, cfg, defaultQuantities]
    simp only [State.edgeLevel, unmapped]
  refine ⟨_, executed, ?_, by simpa using cfg, by simpa using mode, by simpa using role, by simpa using reason, by simpa using dormant,
    by simpa using cblk, by simpa using ssl, by simpa using video, floating, by simpa using now, ?_⟩
  · simp [cfl, State.loadTaken]
  · simp [State.agreesOutside_iff, follows, reached, roster, rank, pending]

end

section
/-!
SUPPORT. A role handed on, block by block (R96): the two switches (R97), the coin unit (R138, R147) and the menu (R167); and what the
beginning and the failure of a handover at the holder make of them (R120, R121, R123, R134).
-/

namespace Sys2Proof.Machine

/-! ## The blocks that follow a role -/

@[simp] theorem State.closeVideo_video (s : State) : s.closeVideo.osw.video = .isClosed := by
  simp only [State.closeVideo]
  split <;> simp

@[simp] theorem State.openVideo_video (s : State) : s.openVideo.osw.video = .isOpen := by
  simp [State.openVideo]

/-- The switches stand as the role requires, however they stood (R97). -/
theorem State.switchesFollow_osw (s : State) (role : Role) :
    (s.switchesFollow role).osw.video = (if holdsScreen role then .isClosed else .isOpen) ∧
    (s.switchesFollow role).osw.audio = (if role = .holding ∨ role = .offering then .isClosed else .isOpen) ∧
    (s.switchesFollow role).osw.passBlack = decide (role = .passing) := by
  refine ⟨?_, by cases role <;> rfl, rfl⟩
  unfold State.switchesFollow
  cases holds : holdsScreen role <;> cases video : s.osw.video <;> simp [video]

section
variable {s : State} {role : Role} (change : s.spe.role ≠ role)
include change

theorem State.setRole_osw :
    (s.setRole role).osw.video = (if holdsScreen role then .isClosed else .isOpen) ∧
    (s.setRole role).osw.audio = (if role = .holding ∨ role = .offering then .isClosed else .isOpen) ∧
    (s.setRole role).osw.passBlack = decide (role = .passing) := by
  have handed (u : State) : (u.handRole role).osw = (u.switchesFollow role).osw := by simp [State.handRole]
  rw [State.setRole, if_neg change, handed]
  exact State.switchesFollow_osw _ role

/-- The coin unit takes the role's duty and decides CBLK again; counts and channels stay (R138, R147). -/
theorem State.setRole_cnu :
    (s.setRole role).cnu = { s.cnu with
      duty := dutyOf role, cblk := cblkAsserted s.cnu.dormant role s.spe.view s.bsv.board } := by
  rw [State.setRole, if_neg change]
  simp [State.handRole, State.coinRole, State.decideCblk]

/-- A role that does not hold the screen closes the menu (R167). -/
theorem State.setRole_mnu_of_free (free : holdsScreen role = false) : (s.setRole role).mnu.state = .closed := by
  rw [State.setRole, if_neg change]
  simp [State.handRole, State.menuRole, free, State.closeMenu_mnu]

end

/-! ## The menu told of a failure (R134, R171, R172) -/

/-- A menu in WAIT shows the reason for 3 s. -/
theorem State.menuHandoverFailed_mnu {s : State} (reason : Notice) (waits : s.mnu.state = .wait) :
    (s.menuHandoverFailed reason).mnu = { s.mnu with
      state := .notice, notice := some reason, noticeTimer := some (s.now + 144000000) } := by
  simp [State.menuHandoverFailed, waits, State.enterNotice, State.setMenu_mnu, noticeTime, ms, ticksPerMs]

/-! ## An offer that fails, and one that is accepted -/

@[simp] theorem State.offerFails_spe (s : State) (reason : Notice) : (s.offerFails reason).spe = (s.setRole .holding).spe := by
  simp [State.offerFails]

@[simp] theorem State.offerFails_osw (s : State) (reason : Notice) : (s.offerFails reason).osw = (s.setRole .holding).osw := by
  simp [State.offerFails]

@[simp] theorem State.offerFails_cnu (s : State) (reason : Notice) : (s.offerFails reason).cnu = (s.setRole .holding).cnu := by
  simp [State.offerFails]

theorem State.offerFails_mnu {s : State} (reason : Notice) (waits : s.mnu.state = .wait) :
    (s.offerFails reason).mnu = { s.mnu with
      state := .notice, notice := some reason, noticeTimer := some (s.now + 144000000) } := by
  have same : (s.setRole .holding).mnu = s.mnu := s.setRole_mnu_of_holdsScreen rfl
  rw [State.offerFails, State.menuHandoverFailed_mnu reason (by rw [same]; exact waits), same]
  simp

/-- The offer ends in HOLDING: target and answer timer cleared, duty OWN (R97, R120, R121, R138). -/
theorem State.offerFails_of_offering {s : State} (reason : Notice) (offering : s.spe.role = .offering) :
    (s.offerFails reason).spe.role = .holding ∧ (s.offerFails reason).spe.view = s.spe.view ∧
    (s.offerFails reason).spe.target = none ∧ (s.offerFails reason).spe.answerTimer = none ∧ (s.offerFails reason).cnu.duty = .own := by
  have change : s.spe.role ≠ .holding := by simp [offering]
  rw [State.offerFails_spe, State.offerFails_cnu, State.setRole_cnu change, State.setRole_spe, if_neg change]
  exact ⟨rfl, rfl, rfl, rfl, rfl⟩

/-- The engine in PASSING keeps the handover's target and number; the coin quiet timer runs for 150 ms, to 800 ms at most (R115, R123). -/
theorem State.enterPassing_spe {s : State} (offering : s.spe.role = .offering) :
    s.enterPassing.spe = { s.spe.enterRole .passing with
      coinQuiet := some (s.now + 7200000), quietCap := some (s.now + 38400000) } := by
  simp [State.enterPassing, State.setRole_spe, offering, quietTime, quietCapTime, ms, ticksPerMs]

/-- The blocks in PASSING: video closed and black, audio open, duty CARRYING, the menu as it was (R97, R138, R147). -/
theorem State.enterPassing_blocks {s : State} (offering : s.spe.role = .offering) :
    s.enterPassing.osw.video = .isClosed ∧ s.enterPassing.osw.audio = .isOpen ∧ s.enterPassing.osw.passBlack = true ∧
    s.enterPassing.cnu.duty = .carrying ∧ s.enterPassing.cnu.cblk = true ∧ s.enterPassing.mnu = s.mnu := by
  have change : s.spe.role ≠ .passing := by simp [offering]
  obtain ⟨video, audio, black⟩ := State.setRole_osw change
  have cnu := State.setRole_cnu change
  have blocks : s.enterPassing.osw = (s.setRole .passing).osw ∧ s.enterPassing.cnu = (s.setRole .passing).cnu ∧
      s.enterPassing.mnu = (s.setRole .passing).mnu := ⟨rfl, rfl, rfl⟩
  obtain ⟨osw, cnu', mnu⟩ := blocks
  rw [osw, cnu', mnu, cnu]
  exact ⟨video, audio, black, rfl, by simp [cblkAsserted], s.setRole_mnu_of_holdsScreen rfl⟩

end Sys2Proof.Machine
end

section
/-!
SUPPORT. ANSWER taken (R75, R87, R120).
-/

namespace Sys2Proof.Machine

theorem exec_answerTaken {s : State} {e : RxEntry} {n : HandoverNumber} {yes : Bool} {reason : AnswerReason} {board : BoardState}
    (head : s.lct.rxq.head? = some e) (unheld : e.held = false) (body : e.frame.body = .answer n yes reason board) :
    exec .answerTaken s = .next ((s.takeEntry e).answerHeard e.sender n yes reason).settled := by
  have kind : e.frame.kind = .answer := by rw [Frame.kind, body]; rfl
  have oldest := s.oldestEntry_of_head head unheld
  rw [kind] at oldest
  rw [exec, execAnswerTaken, done_eq, oldest]
  simp only [body]

/-- An ANSWER tells the roster what a BID does (R87). -/
theorem State.takeEntry_entry_of_answer {s : State} {e : RxEntry} {n : HandoverNumber} {yes : Bool} {reason : AnswerReason}
    {board : BoardState} (body : e.frame.body = .answer n yes reason board) (peer : e.sender ≠ s.rank) :
    (s.takeEntry e).roster[e.sender].presence = .present ∧ (s.takeEntry e).roster[e.sender].board = some board := by
  have taken : s.takeEntry e = ({ s with lct := { s.lct with rxq := s.lct.rxq.tail } } : State).rosterTake e.sender (.bid board) := by
    simp only [State.takeEntry, body]
    rfl
  rw [taken, State.rosterTake_of_bid _ board (by exact peer)]
  exact ⟨rfl, rfl⟩

/-- The decisive ANSWER begins the passing or ends the offer; any other has no effect at the engine (R120). -/
theorem State.answerHeard_eq (s : State) (r : Rank) (n : HandoverNumber) (yes : Bool) (reason : AnswerReason) :
    s.answerHeard r n yes reason =
      if s.spe.role = .offering ∧ s.spe.target = some r ∧ n = s.spe.number then
        if yes then s.enterPassing else s.offerFails (reasonNotice reason)
      else s := by
  cases role : s.spe.role <;> simp [State.answerHeard, role]

/-- The notice of each reason a NO gives (R134). -/
theorem reasonNotice_of_given {reason : AnswerReason} (given : reason ≠ .none) :
    reasonNotice reason = if reason = .notReady then .notReady else if reason = .busy then .busy else .lineFault := by
  cases reason with
  | none => exact absurd rfl given
  | notReady => rfl
  | busy => rfl
  | lineFault => rfl

end Sys2Proof.Machine
end

section
open Sys2Proof.Machine

/-- Settles O41: by `State.answerHeard_eq`, YES as `State.enterPassing` and NO as `State.offerFails`. -/
theorem answerDecidesOffer : Obligations.AnswerDecidesOffer := by
  intro s e head unheld n yes reason board body decisive
  refine ⟨_, exec_answerTaken head unheld body, ?_⟩
  obtain ⟨u, hu⟩ : ∃ u, s.takeEntry e = u := ⟨_, rfl⟩
  have same : u.spe = s.spe ∧ u.rank = s.rank ∧ u.now = s.now ∧ u.mnu = s.mnu ∧ u.lct = { s.lct with rxq := s.lct.rxq.tail } := by
    simp [← hu]
  obtain ⟨spe, rank, now, mnu, lct⟩ := same
  have answered := u.answerHeard_eq e.sender n yes reason
  rw [spe] at answered
  rw [hu]
  refine ⟨by simp [now], by simp [lct], fun peer => ?_, fun ⟨offering, target, number⟩ accepts => ?_,
    fun ⟨offering, target, number⟩ refuses => ?_, fun other => ?_, ?_⟩
  · rw [State.settled_entry, State.entry_of_peer (by simpa [rank] using peer)]
    simpa [← hu] using State.takeEntry_entry_of_answer (s := s) body peer
  · rw [if_pos ⟨offering, target, number⟩, if_pos accepts] at answered
    obtain ⟨video, audio, black, duty, cblk, menu⟩ := State.enterPassing_blocks (s := u) (by rw [spe]; exact offering)
    have engine := State.enterPassing_spe (s := u) (by rw [spe]; exact offering)
    rw [answered, State.settled_spe, engine]
    simp [Spe.enterRole, spe, now, target, number, video, audio, black, duty, cblk, menu, mnu]
  · rw [if_pos ⟨offering, target, number⟩, if_neg (by simp [refuses])] at answered
    obtain ⟨role, -, target', timer, duty⟩ := State.offerFails_of_offering (s := u) (reasonNotice reason) (by rw [spe]; exact offering)
    rw [answered, State.settled_spe]
    refine ⟨role, target', timer, by simpa using duty, fun waits given => ?_⟩
    have told := State.offerFails_mnu (s := u) (reasonNotice reason) (by rw [mnu]; exact waits)
    rw [reasonNotice_of_given given] at told ⊢
    simp [told, now]
  · rw [answered, if_neg other, ← hu]
    simp [State.agreesOutside_iff, follows]
  · simp [State.agreesOutside_iff, follows, reached, ← hu]

end

section
/-!
SUPPORT. The coins of a handover that fails (R140, R143): each channel's carried and late counts return to its pending one.
-/

namespace Sys2Proof.Machine

/-- The IDLE check moves no count (R145). -/
theorem State.idleCheck_counts (s : State) (ch k : Channel) :
    ((s.idleCheck ch).cnu.chan k).pending = (s.cnu.chan k).pending ∧ ((s.idleCheck ch).cnu.chan k).carried = (s.cnu.chan k).carried ∧
    ((s.idleCheck ch).cnu.chan k).late = (s.cnu.chan k).late := by
  rw [State.idleCheck_cnu]
  split
  · by_cases same : k = ch
    · subst same
      simp
    · simp [CoinUnit.chan_setChan_ne _ _ _ _ same]
  · exact ⟨rfl, rfl, rfl⟩

/-- Coins added to a channel's pending count leave its other counts, and those of the other channel (R140). -/
theorem State.addPending_counts (s : State) (ch k : Channel) (more : Nat) :
    ((s.addPending ch more).cnu.chan k).pending =
      (if k = ch then min 31 ((s.cnu.chan k).pending + more) else (s.cnu.chan k).pending) ∧
    ((s.addPending ch more).cnu.chan k).carried = (s.cnu.chan k).carried ∧
    ((s.addPending ch more).cnu.chan k).late = (s.cnu.chan k).late := by
  have chan (u : CoinUnit) (o : Bool) : ({ u with overflow := o } : CoinUnit).chan k = u.chan k := by cases k <;> rfl
  simp only [State.addPending, State.idleCheck_counts, chan]
  by_cases same : k = ch
  · subst same
    simp [addCoins, coinLimit]
  · simp [CoinUnit.chan_setChan_ne _ _ _ _ same, same]

/-- A channel takes its carried coins back, then its late ones (R143). -/
theorem State.returnCoins_counts (s : State) (ch k : Channel) :
    ((s.returnCoins ch).cnu.chan k).pending =
      (if k = ch then min 31 (min 31 ((s.cnu.chan k).pending + (s.cnu.chan k).carried) + (s.cnu.chan k).late)
        else (s.cnu.chan k).pending) ∧
    ((s.returnCoins ch).cnu.chan k).carried = (s.cnu.chan k).carried ∧
    ((s.returnCoins ch).cnu.chan k).late = (s.cnu.chan k).late := by
  simp only [State.returnCoins, State.addPending_counts]
  by_cases same : k = ch
  · subst same
    simp
  · simp [same]

theorem CoinUnit.clearTravelling_counts (u : CoinUnit) (k : Channel) :
    (u.clearTravelling.chan k).pending = (u.chan k).pending ∧ (u.clearTravelling.chan k).carried = 0 ∧
    (u.clearTravelling.chan k).late = 0 := by
  cases k <;> exact ⟨rfl, rfl, rfl⟩

/-- Both channels take their travelling coins back, and none travels on (R143). -/
theorem State.coinFailed_counts (s : State) (k : Channel) :
    (s.coinFailed.cnu.chan k).pending =
      min 31 (min 31 ((s.cnu.chan k).pending + (s.cnu.chan k).carried) + (s.cnu.chan k).late) ∧
    (s.coinFailed.cnu.chan k).carried = 0 ∧ (s.coinFailed.cnu.chan k).late = 0 := by
  refine ⟨?_, (CoinUnit.clearTravelling_counts _ k).2⟩
  simp only [State.coinFailed, CoinUnit.clearTravelling_counts, State.returnCoins_counts]
  cases k <;> simp

end Sys2Proof.Machine
end

section
/-!
SUPPORT. Both ends of a handover in PASSING (R126, R127, R142, R143), block by block.
-/

namespace Sys2Proof.Machine

variable {s : State}

/-! ## Completion (R126) -/

theorem State.menuHandoverComplete_of_closed (closed : s.mnu.state = .closed) : s.menuHandoverComplete = s := by
  simp [State.menuHandoverComplete, closed]

/-- The role handed on has closed the menu before HANDOVER COMPLETE reaches it (R126, R167). -/
theorem State.handoverCompletes_eq (target : Rank) (passing : s.spe.role = .passing) :
    s.handoverCompletes target = (({ s with spe := { s.spe with view := some target } } : State).setRole .standby).coinDelivered := by
  have closed := State.setRole_mnu_of_free (s := { s with spe := { s.spe with view := some target } }) (role := .standby)
    (by simp [passing]) rfl
  exact State.menuHandoverComplete_of_closed (by simpa using closed)

/-- The former holder stands by, naming the target, its handover forgotten (R115, R126). -/
theorem State.handoverCompletes_spe (target : Rank) (passing : s.spe.role = .passing) :
    (s.handoverCompletes target).spe.role = .standby ∧ (s.handoverCompletes target).spe.view = some target ∧
    (s.handoverCompletes target).spe.target = none ∧ (s.handoverCompletes target).spe.passIssued = false ∧
    (s.handoverCompletes target).spe.frozen = none := by
  simp [State.handoverCompletes_eq target passing, State.setRole_spe, passing, Spe.enterRole]

/-- Its switches are open and its menu is closed (R97, R134). -/
theorem State.handoverCompletes_blocks (target : Rank) (passing : s.spe.role = .passing) :
    (s.handoverCompletes target).osw.video = .isOpen ∧ (s.handoverCompletes target).osw.audio = .isOpen ∧
    (s.handoverCompletes target).osw.passBlack = false ∧ (s.handoverCompletes target).mnu.state = .closed := by
  have change : ({ s with spe := { s.spe with view := some target } } : State).spe.role ≠ .standby := by simp [passing]
  obtain ⟨video, audio, black⟩ := State.setRole_osw change
  have closed := State.setRole_mnu_of_free change rfl
  rw [State.handoverCompletes_eq target passing]
  simp only [State.coinDelivered_frame]
  exact ⟨video, audio, black, closed⟩

/-- Its travelling coins are gone with the PASS, late ones latched; pending ones stay (R138, R142). -/
theorem State.handoverCompletes_cnu (target : Rank) (passing : s.spe.role = .passing) :
    (s.handoverCompletes target).cnu.duty = .none ∧
    ((s.handoverCompletes target).cnu.lateCoins = true ↔ s.cnu.lateCoins = true ∨ 0 < s.cnu.one.late ∨ 0 < s.cnu.two.late) ∧
    ∀ k, ((s.handoverCompletes target).cnu.chan k).pending = (s.cnu.chan k).pending ∧
      ((s.handoverCompletes target).cnu.chan k).carried = 0 ∧ ((s.handoverCompletes target).cnu.chan k).late = 0 := by
  have change : ({ s with spe := { s.spe with view := some target } } : State).spe.role ≠ .standby := by simp [passing]
  rw [State.handoverCompletes_eq target passing, State.coinDelivered, State.setRole_cnu change]
  refine ⟨rfl, by simp [or_assoc], fun k => ?_⟩
  cases k <;> exact ⟨rfl, rfl, rfl⟩

/-! ## Failure (R127) -/

/-- The engine drops its handover before it returns to HOLDING (R127). -/
theorem State.handoverFails_spe (reason : Notice) (passing : s.spe.role = .passing) :
    (s.handoverFails reason).spe.role = .holding ∧ (s.handoverFails reason).spe.view = s.spe.view ∧
    (s.handoverFails reason).spe.target = none ∧ (s.handoverFails reason).spe.passIssued = false ∧
    (s.handoverFails reason).spe.frozen = none ∧ (s.handoverFails reason).spe.coinQuiet = none := by
  have change : s.passFails.spe.role ≠ .holding := by simp [State.passFails, passing]
  rw [State.handoverFails, State.offerFails_spe, State.setRole_spe, if_neg change]
  simp [Spe.enterRole, State.passFails]

/-- The holder shows its picture and hears its sound again (R97). -/
theorem State.handoverFails_osw (reason : Notice) (passing : s.spe.role = .passing) :
    (s.handoverFails reason).osw.video = .isClosed ∧ (s.handoverFails reason).osw.audio = .isClosed ∧
    (s.handoverFails reason).osw.passBlack = false := by
  have change : s.passFails.spe.role ≠ .holding := by simp [State.passFails, passing]
  rw [State.handoverFails, State.offerFails_osw]
  exact State.setRole_osw change

/-- Its coins are its own again, those that travelled among them (R138, R143). -/
theorem State.handoverFails_cnu (reason : Notice) (passing : s.spe.role = .passing) :
    (s.handoverFails reason).cnu.duty = .own ∧ ∀ k,
      ((s.handoverFails reason).cnu.chan k).pending =
        min 31 (min 31 ((s.cnu.chan k).pending + (s.cnu.chan k).carried) + (s.cnu.chan k).late) ∧
      ((s.handoverFails reason).cnu.chan k).carried = 0 ∧ ((s.handoverFails reason).cnu.chan k).late = 0 := by
  have change : s.passFails.spe.role ≠ .holding := by simp [State.passFails, passing]
  have chan (u : CoinUnit) (d : CoinDuty) (b : Bool) (k : Channel) : ({ u with duty := d, cblk := b } : CoinUnit).chan k = u.chan k := by
    cases k <;> rfl
  rw [State.handoverFails, State.offerFails_cnu, State.setRole_cnu change]
  refine ⟨rfl, fun k => ?_⟩
  rw [chan, State.passFails]
  exact State.coinFailed_counts _ k

/-- A menu in WAIT shows the reason (R134, R171). -/
theorem State.handoverFails_mnu (reason : Notice) (waits : s.mnu.state = .wait) :
    (s.handoverFails reason).mnu.state = .notice ∧ (s.handoverFails reason).mnu.notice = some reason := by
  rw [State.handoverFails, State.offerFails_mnu reason (by simpa using waits)]
  exact ⟨rfl, rfl⟩

end Sys2Proof.Machine
end

section
/-!
SUPPORT. Reports (R89): what they do to the roster and the cursor, and for each kind of frame the one case in which they do more.
-/

namespace Sys2Proof.Machine

/-! ## The roster (R89, R170) -/

theorem State.rosterSilent_roster (s : State) (r : Rank) :
    (s.rosterSilent r).roster = (s.setEntry r { s.roster[r] with presence := .silent }).roster := by
  simp only [State.rosterSilent]
  split <;> rfl

/-- A peer addressed by the frame takes the report's presence, and keeps the rest of its entry. -/
theorem State.rosterReport_get_of_addressed {s : State} {f : Frame} {k : Rank} (target : f.target = .rank k)
    (peer : k ≠ s.rank) :
    (s.rosterReport .delivered f).roster[k] = { s.roster[k] with presence := .present } ∧
    (s.rosterReport .undelivered f).roster[k] = { s.roster[k] with presence := .silent } := by
  simp only [State.rosterReport, target, State.rosterSilent_roster]
  exact ⟨State.rosterPresent_get peer, State.setEntry_entry _ peer⟩

theorem State.setEntry_get_of_other (s : State) {r k : Rank} (e : RosterEntry) (other : k ≠ r) :
    (s.setEntry r e).roster[k] = s.roster[k] := by
  unfold State.setEntry
  split
  · rfl
  · simp only [Fin.getElem_fin]
    rw [Vector.getElem_set_ne _ _ (fun same => other (Fin.ext same.symm))]

/-- No report reaches an entry its frame did not address, and UNHEARD none at all. -/
theorem State.rosterReport_get_of_other (s : State) {rep : Report} {f : Frame} {k : Rank}
    (other : f.target ≠ .rank k ∨ rep = .unheard) : (s.rosterReport rep f).roster[k] = s.roster[k] := by
  cases target : f.target with
  | all => simp only [State.rosterReport, target]
  | rank r =>
    have away (heard : rep ≠ .unheard) : k ≠ r := by
      rintro rfl
      exact (other.resolve_right heard) target
    cases rep with
    | delivered => simpa only [State.rosterReport, target, State.rosterPresent] using s.setEntry_get_of_other _ (away nofun)
    | undelivered => simpa only [State.rosterReport, target, State.rosterSilent_roster] using s.setEntry_get_of_other _ (away nofun)
    | unheard => simp only [State.rosterReport, target]

/-- The cursor leaves a peer that falls SILENT for the own entry (R170). -/
theorem State.rosterReport_mnu (s : State) (rep : Report) (k : Rank) (body : Body) :
    (s.rosterReport rep (Frame.mk (.rank k) body)).mnu = { s.mnu with
      cursor := if rep = .undelivered ∧ k ≠ s.rank ∧ s.mnu.cursor = k then s.rank else s.mnu.cursor } := by
  cases rep with
  | delivered => simp [State.rosterReport]
  | undelivered =>
    simp only [State.rosterReport, State.rosterSilent, State.setEntry_frame, true_and]
    split
    · rfl
    · simp
  | unheard => simp [State.rosterReport]

theorem State.rosterReport_mnu_state (s : State) (rep : Report) (f : Frame) : (s.rosterReport rep f).mnu.state = s.mnu.state := by
  obtain ⟨target, body⟩ := f
  cases target with
  | all => rfl
  | rank k => rw [State.rosterReport_mnu]

/-- The part of a report that every addressed frame has: roster and cursor alone. -/
theorem State.rosterReport_alone (s : State) (rep : Report) (k : Rank) (body : Body) :
    let t := s.rosterReport rep (Frame.mk (.rank k) body)
    t.spe = s.spe ∧ s.agreesOutside t [.roster, .mnu] ∧
      t.mnu = { s.mnu with cursor := if rep = .undelivered ∧ k ≠ s.rank ∧ s.mnu.cursor = k then s.rank else s.mnu.cursor } :=
  ⟨by simp, by simp [State.agreesOutside_iff], s.rosterReport_mnu rep k body⟩

/-! ## The engine, kind by kind -/

/-- Line recovering waits for a HELLO with a reply requested (R133). -/
theorem State.recoveryReport_of_other (s : State) {f : Frame} (other : f.kind ≠ .hello) : s.recoveryReport f = s := by
  unfold State.recoveryReport
  split
  · next body => exact absurd (by rw [Frame.kind, body]; rfl) other
  · rfl

theorem State.report_eq (s : State) (rep : Report) {f : Frame} (other : f.kind ≠ .hello) :
    s.report rep f = (s.rosterReport rep f).roleReport rep f := by
  rw [State.report, State.recoveryReport_of_other _ other]

/-- The own BID in BIDDING restarts the bid window (R105). -/
theorem State.roleReport_of_bid (s : State) (rep : Report) (target : Target) (board : BoardState) :
    s.roleReport rep (Frame.mk target (.bid board)) =
      if s.spe.role = .bidding then { s with spe := { s.spe with bidWindow := some (s.now + 2400000) } } else s := by
  cases role : s.spe.role <;> simp [State.roleReport, role, bidWindowTime, ms, ticksPerMs]

/-- The OFFER of this handover, not delivered, ends the offer (R121). -/
theorem State.roleReport_of_offer (s : State) (rep : Report) (k : Rank) (n : HandoverNumber) :
    s.roleReport rep (Frame.mk (.rank k) (.offer n)) =
      if rep = .undelivered ∧ s.spe.role = .offering ∧ s.spe.target = some k ∧ n = s.spe.number then s.offerFails .noAnswer else s := by
  have addressed : Target.rank k = (s.spe.target.map Target.rank).getD .all ↔ s.spe.target = some k := by
    cases s.spe.target <;> simp [eq_comm]
  cases role : s.spe.role <;> simp [State.roleReport, role, addressed, and_comm]

/-- The PASS of this handover completes it or fails it (R126, R127). -/
theorem State.roleReport_of_pass (s : State) (rep : Report) (k : Rank) (n : HandoverNumber) (c1 c2 : Nat) :
    s.roleReport rep (Frame.mk (.rank k) (.pass n c1 c2)) =
      if s.spe.role = .passing ∧ s.spe.target = some k ∧ n = s.spe.number then
        if rep = .delivered then s.handoverCompletes k else if rep = .undelivered then s.handoverFails .switchFailed else s
      else s := by
  cases role : s.spe.role
  case passing =>
    cases target : s.spe.target with
    | none => simp [State.roleReport, role, target]
    | some r =>
      simp only [State.roleReport, role, target, Target.rank.injEq, Option.some.injEq, true_and]
      by_cases addressed : k = r
      · subst addressed
        cases rep <;> simp
      · simp only [addressed, Ne.symm addressed, and_false, false_and, if_false]
  all_goals simp [State.roleReport, role]

/-- An ANSWER YES with the accepted number restarts the pass timer (R118). -/
theorem State.roleReport_of_answer (s : State) (rep : Report) (k : Rank) (n : HandoverNumber) (yes : Bool)
    (reason : AnswerReason) (board : BoardState) :
    s.roleReport rep (Frame.mk (.rank k) (.answer n yes reason board)) =
      if s.spe.role = .accepted ∧ yes = true ∧ s.spe.accepted.map (·.number) = some n then
        { s with spe := { s.spe with passTimer := some (s.now + 48000000) } }
      else s := by
  cases role : s.spe.role
  case accepted =>
    cases yes with
    | false => simp [State.roleReport, role]
    | true => cases accepted : s.spe.accepted <;> simp [State.roleReport, role, accepted, passTime, ms, ticksPerMs, eq_comm]
  all_goals simp [State.roleReport, role]

/-! ## The whole report, kind by kind -/

/-- The report of this handover's PASS, DELIVERED (R126, R142). -/
theorem State.report_of_passDelivered {s : State} {target : Rank} (mine : s.spe.target = some target) (passing : s.spe.role = .passing)
    (c1 c2 : Nat) :
    s.report .delivered (Frame.mk (.rank target) (.pass s.spe.number c1 c2)) =
      (s.rosterReport .delivered (Frame.mk (.rank target) (.pass s.spe.number c1 c2))).handoverCompletes target := by
  rw [State.report_eq _ _ (by exact FrameKind.noConfusion), State.roleReport_of_pass, if_pos (by simp [mine, passing]), if_pos rfl]

/-- The same, UNDELIVERED (R127, R143). -/
theorem State.report_of_passUndelivered {s : State} {target : Rank} (mine : s.spe.target = some target)
    (passing : s.spe.role = .passing) (c1 c2 : Nat) :
    s.report .undelivered (Frame.mk (.rank target) (.pass s.spe.number c1 c2)) =
      (s.rosterReport .undelivered (Frame.mk (.rank target) (.pass s.spe.number c1 c2))).handoverFails .switchFailed := by
  rw [State.report_eq _ _ (by exact FrameKind.noConfusion), State.roleReport_of_pass, if_pos (by simp [mine, passing]),
    if_neg Report.noConfusion, if_pos rfl]

/-- Any other report of a PASS acts on the roster alone (assumption log 14). -/
theorem State.report_of_passForeign {s : State} {rep : Report} {k : Rank} {n : HandoverNumber} (c1 c2 : Nat)
    (foreign : rep = .unheard ∨ s.spe.role ≠ .passing ∨ s.spe.target ≠ some k ∨ n ≠ s.spe.number) :
    s.report rep (Frame.mk (.rank k) (.pass n c1 c2)) = s.rosterReport rep (Frame.mk (.rank k) (.pass n c1 c2)) := by
  rw [State.report_eq _ _ (by exact FrameKind.noConfusion), State.roleReport_of_pass]
  rcases foreign with rfl | role | target | number
  · simp
  · rw [if_neg (by simp [role])]
  · rw [if_neg (by simp [target])]
  · rw [if_neg (by simp [number])]

/-- The report of a broadcast HELLO ends line recovering, if it is the HELLO that LINE CLEAR enqueued (R133; assumption log 33). -/
theorem State.report_of_helloFrame (s : State) (rep : Report) (holding reply : Bool) (board : BoardState) (l16 hl : Nat)
    (title : List Glyph) :
    s.report rep (Frame.mk .all (.hello holding reply board l16 hl title)) =
      if reply = true ∧ s.spe.recoveryHello = true then
        { s with spe := { s.spe with recovering := false, recoveryHello := false } }
      else s := by
  have reported : s.report rep (Frame.mk .all (.hello holding reply board l16 hl title)) =
      s.recoveryReport (Frame.mk .all (.hello holding reply board l16 hl title)) := State.roleReport_of_hello _ rep rfl
  rw [reported]
  cases reply <;> simp [State.recoveryReport]

end Sys2Proof.Machine
end

section
open Sys2Proof.Machine

/-- The report of this handover's PASS, DELIVERED (R126, R142). -/
theorem passDelivered_completes {s : State} {target : Sys2Proof.Rank} (mine : s.spe.target = some target) (passing : s.spe.role = .passing)
    (c1 c2 : Nat) :
    s.report .delivered (Frame.mk (.rank target) (.pass s.spe.number c1 c2)) =
      (s.rosterReport .delivered (Frame.mk (.rank target) (.pass s.spe.number c1 c2))).handoverCompletes target := by
  rw [State.report_eq _ _ (by exact FrameKind.noConfusion), State.roleReport_of_pass, if_pos (by simp [mine, passing])]
  rfl

/-- The same, UNDELIVERED (R127, R143). -/
theorem passUndelivered_fails {s : State} {target : Sys2Proof.Rank} (mine : s.spe.target = some target) (passing : s.spe.role = .passing)
    (c1 c2 : Nat) :
    s.report .undelivered (Frame.mk (.rank target) (.pass s.spe.number c1 c2)) =
      (s.rosterReport .undelivered (Frame.mk (.rank target) (.pass s.spe.number c1 c2))).handoverFails .switchFailed := by
  rw [State.report_eq _ _ (by exact FrameKind.noConfusion), State.roleReport_of_pass, if_pos (by simp [mine, passing])]
  rfl

/-- Settles O45: each kind of frame by its equation of `State.roleReport`, on the roster that `State.rosterReport` leaves. -/
theorem passReportEndsHandover : Obligations.PassReportEndsHandover := by
  refine ⟨fun s target mine passing c1 c2 => ⟨?_, ?_⟩, fun s rep f => ⟨fun k addressed peer => ?_, fun k other => ?_⟩,
    fun s rep k n c1 c2 => ?_, fun s rep => s.report_of_seated rep, fun s rep board => ?_, fun s rep k n => ?_,
    fun s rep k n yes reason board => ?_, fun s rep holding reply board l16 hl title => ?_⟩
  · have present (peer : target ≠ s.rank) := (State.report_entry_of_addressed (f := Frame.mk (.rank target) (.pass s.spe.number c1 c2))
      rfl peer).1
    have completes := State.report_of_passDelivered mine passing c1 c2
    obtain ⟨u, hu⟩ : ∃ u, s.rosterReport .delivered (Frame.mk (.rank target) (.pass s.spe.number c1 c2)) = u := ⟨_, rfl⟩
    have same : u.spe = s.spe ∧ u.cnu = s.cnu := by simp [← hu]
    obtain ⟨spe, cnu⟩ := same
    have passing' : u.spe.role = .passing := by rw [spe]; exact passing
    obtain ⟨video, audio, black, closed⟩ := State.handoverCompletes_blocks target passing'
    obtain ⟨role, view, target', issued, frozen⟩ := State.handoverCompletes_spe target passing'
    obtain ⟨duty, latched, counts⟩ := State.handoverCompletes_cnu target passing'
    obtain ⟨pending1, carried1, late1⟩ := counts .one
    obtain ⟨pending2, carried2, late2⟩ := counts .two
    rw [cnu] at latched pending1 pending2
    simp only [completes, hu] at present ⊢
    exact ⟨role, view, target', issued, frozen, video, audio, black, duty, carried1, late1, carried2, late2, pending1, pending2, latched,
      closed, present, by simp [State.agreesOutside_iff, follows, reached, ← hu]⟩
  · have silent (peer : target ≠ s.rank) := (State.report_entry_of_addressed (f := Frame.mk (.rank target) (.pass s.spe.number c1 c2))
      rfl peer).2
    have fails := State.report_of_passUndelivered mine passing c1 c2
    obtain ⟨u, hu⟩ : ∃ u, s.rosterReport .undelivered (Frame.mk (.rank target) (.pass s.spe.number c1 c2)) = u := ⟨_, rfl⟩
    have same : u.spe = s.spe ∧ u.cnu = s.cnu ∧ u.mnu.state = s.mnu.state := by simp [← hu, State.rosterReport_mnu_state]
    obtain ⟨spe, cnu, menu⟩ := same
    have passing' : u.spe.role = .passing := by rw [spe]; exact passing
    obtain ⟨role, view, target', issued, frozen, quiet⟩ := State.handoverFails_spe .switchFailed passing'
    obtain ⟨video, audio, black⟩ := State.handoverFails_osw .switchFailed passing'
    obtain ⟨duty, counts⟩ := State.handoverFails_cnu .switchFailed passing'
    obtain ⟨pending1, carried1, late1⟩ := counts .one
    obtain ⟨pending2, carried2, late2⟩ := counts .two
    rw [cnu] at pending1 pending2
    rw [spe] at view
    simp only [fails, hu] at silent ⊢
    exact ⟨role, view, target', issued, frozen, quiet, video, audio, black, duty, carried1, late1, carried2, late2, pending1, pending2,
      fun waits => State.handoverFails_mnu .switchFailed (menu.trans waits), silent,
      by simp [State.agreesOutside_iff, follows, reached, ← hu]⟩
  · obtain ⟨present, silent⟩ := State.rosterReport_get_of_addressed addressed peer
    rw [State.entry_of_peer (by simpa using peer), State.entry_of_peer peer, State.report_roster]
    constructor
    · rintro rfl
      exact present
    · rintro rfl
      exact silent
  · rw [State.report_roster]
    exact s.rosterReport_get_of_other other
  · intro t foreign
    have unmoved : t = s.rosterReport rep (Frame.mk (.rank k) (.pass n c1 c2)) := State.report_of_passForeign c1 c2 foreign
    rw [unmoved]
    exact s.rosterReport_alone rep k _
  · have reported : s.report rep (Frame.mk .all (.bid board)) = s.roleReport rep (Frame.mk .all (.bid board)) :=
      State.report_eq _ _ (by exact FrameKind.noConfusion)
    rw [reported, State.roleReport_of_bid]
    exact ⟨fun bidding => if_pos bidding, fun away => if_neg away⟩
  · have reported : s.report rep (Frame.mk (.rank k) (.offer n)) = _ := State.report_eq _ _ (by exact FrameKind.noConfusion)
    obtain ⟨alone, frame, cursor⟩ := s.rosterReport_alone rep k (.offer n)
    obtain ⟨u, hu⟩ : ∃ u, s.rosterReport rep (Frame.mk (.rank k) (.offer n)) = u := ⟨_, rfl⟩
    rw [State.roleReport_of_offer, hu] at reported
    rw [hu] at alone frame cursor
    rw [alone] at reported
    rw [reported]
    refine ⟨fun undelivered offering target number => ?_, fun foreign => ?_⟩
    · rw [if_pos ⟨undelivered, offering, target, number⟩]
      obtain ⟨role, view, target', timer, duty⟩ := State.offerFails_of_offering (s := u) .noAnswer (by rw [alone]; exact offering)
      refine ⟨role, by rw [view, alone], target', timer, duty, fun waits => ?_, by simp [State.agreesOutside_iff, follows, reached, ← hu]⟩
      have now : u.now = s.now := by simp [← hu]
      rw [State.offerFails_mnu .noAnswer (by rw [cursor]; exact waits), now]
      exact ⟨rfl, rfl, rfl⟩
    · rw [if_neg fun ⟨undelivered, offering, target, number⟩ => by simp [undelivered, offering, target, number] at foreign]
      exact ⟨alone, frame, cursor⟩
  · have reported : s.report rep (Frame.mk (.rank k) (.answer n yes reason board)) = _ :=
      State.report_eq _ _ (by exact FrameKind.noConfusion)
    obtain ⟨alone, frame, cursor⟩ := s.rosterReport_alone rep k (.answer n yes reason board)
    obtain ⟨u, hu⟩ : ∃ u, s.rosterReport rep (Frame.mk (.rank k) (.answer n yes reason board)) = u := ⟨_, rfl⟩
    have now : u.now = s.now := by simp [← hu]
    rw [State.roleReport_of_answer, hu] at reported
    rw [hu] at alone frame cursor
    rw [alone, now] at reported
    rw [reported]
    intro t mine
    simp only [t]
    split
    · next h => exact ⟨fun _ => rfl, fun other => absurd h other, cursor, by simp [State.agreesOutside_iff, ← hu]⟩
    · next h => exact ⟨fun other => absurd other h, fun _ => alone, cursor, by simp [State.agreesOutside_iff, ← hu]⟩
  · rw [State.report_of_helloFrame]
    refine ⟨fun asked marked => if_pos ⟨asked, marked⟩, fun unmarked => if_neg ?_⟩
    rintro ⟨asked, marked⟩
    rcases unmarked with silent | unmarked
    · exact absurd (silent.symm.trans asked) Bool.false_ne_true
    · exact absurd (unmarked.symm.trans marked) Bool.false_ne_true

end

section
/-!
SUPPORT. What follows the role (O56, O59): the laws of the blocks it is handed to, each in the form in which an operation gives it, and the
operations that leave all these blocks as they are. The mapper's law (R155, R156) is two: that it is decided, and that PARKED is clear.
-/

namespace Sys2Proof.Machine

/-! ## The laws -/

/-- The mapper is FOLLOWING exactly where it may (R155). -/
def State.MapperDecided (s : State) : Prop :=
  s.cmp.following = s.shouldFollow

/-- While PARKED nothing is pressed through and no flag is set (R156). -/
def Mapper.ParkedIsClear (m : Mapper) : Prop :=
  m.following = false → m.active = noLines ∧ m.seen = noLines

theorem State.edgesFollow_iff (s : State) : s.EdgesFollow ↔ s.MapperDecided ∧ s.cmp.ParkedIsClear := by
  have may : s.shouldFollow = true ↔ s.mapTable.isSome = true ∧ s.spe.role = .holding ∧ s.mnu.state = .closed ∧
      s.bsv.board ≠ .resetting ∧ s.bsv.board ≠ .vacant := by
    simp [State.shouldFollow, and_assoc]
  rw [State.EdgesFollow, State.MapperDecided, ← may, ← Bool.eq_iff_iff]
  exact Iff.rfl

/-- CBLK is driven as it would be decided now (R147). -/
def State.CblkDecided (s : State) : Prop :=
  s.cnu.cblk = cblkAsserted s.cnu.dormant s.spe.role s.spe.view s.bsv.board

theorem State.cblkFollows_iff (s : State) : s.CblkFollows ↔ s.CblkDecided := by
  have asserted : cblkAsserted s.cnu.dormant s.spe.role s.spe.view s.bsv.board = true ↔
      s.cnu.dormant = true ∨ s.spe.role = .startup ∨ s.spe.role = .bidding ∨ s.spe.role = .passing ∨ s.spe.role = .accepted ∨
      s.spe.role = .standby ∧ s.spe.view = none ∨ (s.spe.role = .holding ∨ s.spe.role = .offering) ∧ s.bsv.board ≠ .ready := by
    cases role : s.spe.role <;> simp [cblkAsserted]
  rw [State.CblkFollows, State.CblkDecided, ← asserted, ← Bool.eq_iff_iff]

theorem holdsScreen_iff (role : Role) : holdsScreen role = true ↔ role = .holding ∨ role = .offering ∨ role = .passing := by
  cases role <;> simp [holdsScreen]

/-- The views that a role has for the node of rank `own` (R96, R104, R108). -/
def viewAllowed (own : Rank) (role : Role) (view : Option Rank) : Prop :=
  (holdsScreen role = true → view = some own) ∧ (role = .bidding → view = none)

theorem State.viewFollowsRole_iff (s : State) : s.ViewFollowsRole ↔ viewAllowed s.rank s.spe.role s.spe.view := by
  rw [State.ViewFollowsRole, viewAllowed, holdsScreen_iff]

/-- A role that neither holds the screen nor bids has any view. -/
theorem viewAllowed_of_free {role : Role} (own : Rank) (view : Option Rank) (free : holdsScreen role = false := by rfl)
    (other : role ≠ .bidding := by decide) : viewAllowed own role view :=
  ⟨fun holds => absurd (free.symm.trans holds) Bool.false_ne_true, fun bids => absurd bids other⟩

/-! ## What the laws speak of -/

/-- The two states agree on all that the laws speak of. -/
def State.SameScreen (s t : State) : Prop :=
  (t.rank = s.rank ∧ t.mapTable = s.mapTable ∧ t.bsv.board = s.bsv.board) ∧
  (t.spe.role = s.spe.role ∧ t.spe.view = s.spe.view ∧ t.mnu.state = s.mnu.state) ∧
  (t.osw.video = s.osw.video ∧ t.osw.audio = s.osw.audio ∧ t.osw.passBlack = s.osw.passBlack) ∧
  (t.cmp.following = s.cmp.following ∧ t.cmp.active = s.cmp.active ∧ t.cmp.seen = s.cmp.seen) ∧
  (t.cnu.dormant = s.cnu.dormant ∧ t.cnu.duty = s.cnu.duty ∧ t.cnu.cblk = s.cnu.cblk)

/-- The configuration that the mapper reads is no block's to change (R153). -/
theorem State.mapTable_congr {s t : State} (h : t.cfg = s.cfg) : t.mapTable = s.mapTable := by
  simp only [State.mapTable, State.quantities, h]

/-! ## The coin unit: channels and counts leave dormancy, duty and CBLK (R140 to R146) -/

@[simp] theorem State.idleCheck_drive (s : State) (ch : Channel) : (s.idleCheck ch).cnu.dormant = s.cnu.dormant ∧
    (s.idleCheck ch).cnu.duty = s.cnu.duty ∧ (s.idleCheck ch).cnu.cblk = s.cnu.cblk := by
  rw [State.idleCheck_cnu]
  split <;> simp

@[simp] theorem State.cutPulse_drive (s : State) (ch : Channel) : (s.cutPulse ch).cnu.dormant = s.cnu.dormant ∧
    (s.cutPulse ch).cnu.duty = s.cnu.duty ∧ (s.cutPulse ch).cnu.cblk = s.cnu.cblk := by
  simp only [State.cutPulse]
  split <;> simp

@[simp] theorem State.addPending_drive (s : State) (ch : Channel) (more : Nat) : (s.addPending ch more).cnu.dormant = s.cnu.dormant ∧
    (s.addPending ch more).cnu.duty = s.cnu.duty ∧ (s.addPending ch more).cnu.cblk = s.cnu.cblk := by
  simp [State.addPending]

@[simp] theorem State.addCarried_drive (s : State) (ch : Channel) : (s.addCarried ch).cnu.dormant = s.cnu.dormant ∧
    (s.addCarried ch).cnu.duty = s.cnu.duty ∧ (s.addCarried ch).cnu.cblk = s.cnu.cblk := by
  simp [State.addCarried]

@[simp] theorem State.addLate_drive (s : State) (ch : Channel) : (s.addLate ch).cnu.dormant = s.cnu.dormant ∧
    (s.addLate ch).cnu.duty = s.cnu.duty ∧ (s.addLate ch).cnu.cblk = s.cnu.cblk := by
  simp [State.addLate]

@[simp] theorem CoinUnit.clearTravelling_drive (u : CoinUnit) : u.clearTravelling.dormant = u.dormant ∧
    u.clearTravelling.duty = u.duty ∧ u.clearTravelling.cblk = u.cblk := ⟨rfl, rfl, rfl⟩

@[simp] theorem State.coinDelivered_drive (s : State) : s.coinDelivered.cnu.dormant = s.cnu.dormant ∧
    s.coinDelivered.cnu.duty = s.cnu.duty ∧ s.coinDelivered.cnu.cblk = s.cnu.cblk := ⟨rfl, rfl, rfl⟩

@[simp] theorem State.coinFailed_drive (s : State) : s.coinFailed.cnu.dormant = s.cnu.dormant ∧
    s.coinFailed.cnu.duty = s.cnu.duty ∧ s.coinFailed.cnu.cblk = s.cnu.cblk := by
  simp [State.coinFailed, State.returnCoins]

@[simp] theorem State.coinSeated_drive (s : State) (c1 c2 : Nat) : (s.coinSeated c1 c2).cnu.dormant = s.cnu.dormant ∧
    (s.coinSeated c1 c2).cnu.duty = s.cnu.duty ∧ (s.coinSeated c1 c2).cnu.cblk = s.cnu.cblk := by
  simp [State.coinSeated]

/-- A board state handed to the coin unit moves its channels and decides CBLK (R145 to R147). -/
theorem State.coinBoard_drive (s : State) (board : BoardState) : (s.coinBoard board).cnu.dormant = s.cnu.dormant ∧
    (s.coinBoard board).cnu.duty = s.cnu.duty ∧ (s.coinBoard board).CblkDecided := by
  unfold State.coinBoard
  split <;> simp [State.decideCblk, State.CblkDecided]

/-! ## The output switch: edges, fill and return leave the two switches and the blanking of PASSING (R56 to R58, R110) -/

@[simp] theorem State.outputBoard_switches (s : State) (board : BoardState) (field : Option Moment) :
    (s.outputBoard board field).osw.video = s.osw.video ∧ (s.outputBoard board field).osw.audio = s.osw.audio ∧
    (s.outputBoard board field).osw.passBlack = s.osw.passBlack := by
  unfold State.outputBoard
  split
  · simp
  · unfold State.cutover
    split <;> simp
  · simp [State.armReturn]

@[simp] theorem State.outputField_switches (s : State) (lead : Moment) :
    (s.outputField lead).osw.video = s.osw.video ∧ (s.outputField lead).osw.audio = s.osw.audio ∧
    (s.outputField lead).osw.passBlack = s.osw.passBlack := by
  unfold State.outputField
  split
  · split <;> simp
  · simp

@[simp] theorem State.ownEdge_switches (s : State) (lead : Moment) :
    (s.ownEdge lead).osw.video = s.osw.video ∧ (s.ownEdge lead).osw.audio = s.osw.audio ∧
    (s.ownEdge lead).osw.passBlack = s.osw.passBlack := by
  unfold State.ownEdge
  split <;> simp

@[simp] theorem State.ownBoardEdge_switches (s : State) (lead : Moment) :
    (s.ownBoardEdge lead).osw.video = s.osw.video ∧ (s.ownBoardEdge lead).osw.audio = s.osw.audio ∧
    (s.ownBoardEdge lead).osw.passBlack = s.osw.passBlack := by
  unfold State.ownBoardEdge
  split <;> simp

@[simp] theorem State.busPulse_switches (s : State) (m : Moment) (high : Bool) :
    (s.busPulse m high).osw.video = s.osw.video ∧ (s.busPulse m high).osw.audio = s.osw.audio ∧
    (s.busPulse m high).osw.passBlack = s.osw.passBlack := by
  unfold State.busPulse
  split
  · simp
  · split <;> simp
  · simp

/-! ## The mapper (R155 to R158) -/

/-- A decision leaves the mapper FOLLOWING exactly where it may. -/
theorem State.mapperDecides_decided (s : State) : s.mapperDecides.MapperDecided := by
  have unmoved : s.mapperDecides.shouldFollow = s.shouldFollow := by
    simp [State.shouldFollow, State.mapTable, State.quantities]
  rw [State.MapperDecided, unmoved]
  simp only [State.mapperDecides, State.mirrorLamps, State.decideMapper]
  split
  · next may _ _ => exact may.symm
  · next may _ => exact may.symm
  · next parked entered =>
    cases may : s.shouldFollow <;> cases following : s.cmp.following
    · rfl
    · exact (parked may following).elim
    · have table : s.mapTable.isSome = true := by
        simp only [State.shouldFollow, Bool.and_eq_true, and_assoc] at may
        exact may.1
      obtain ⟨map, table⟩ := Option.isSome_iff_exists.mp table
      exact (entered map may following table).elim
    · rfl

/-- PARKED is entered clear, and left alone otherwise (R156). -/
theorem State.mapperDecides_parkedIsClear {s : State} (h : s.cmp.ParkedIsClear) : s.mapperDecides.cmp.ParkedIsClear := by
  simp only [State.mapperDecides, State.mirrorLamps, State.decideMapper]
  split
  · exact nofun
  · exact fun _ => ⟨rfl, rfl⟩
  · exact h

/-- A menu state entered decides the mapper again if it is a change (R155, R167). -/
theorem State.setMenu_mapper (s : State) (st : MenuState) : (s.MapperDecided → (s.setMenu st).MapperDecided) ∧
    (s.cmp.ParkedIsClear → (s.setMenu st).cmp.ParkedIsClear) := by
  unfold State.setMenu
  split
  · exact ⟨id, id⟩
  · exact ⟨fun _ => State.mapperDecides_decided _, fun parked => State.mapperDecides_parkedIsClear parked⟩

/-- A change of role decides the mapper again, in the menu state that the role leaves (R96, R155, R167). -/
theorem State.setRole_mapper {s : State} {role : Role} (change : s.spe.role ≠ role) : (s.setRole role).MapperDecided ∧
    (s.cmp.ParkedIsClear → (s.setRole role).cmp.ParkedIsClear) := by
  rw [State.setRole, if_neg change]
  obtain ⟨u, hu⟩ : ∃ u : State, ({ s with spe := s.spe.enterRole role }.switchesFollow role).coinRole role = u := ⟨_, rfl⟩
  have cmp : u.cmp = s.cmp := by simp [← hu]
  have parked : s.cmp.ParkedIsClear → u.mapperDecides.cmp.ParkedIsClear :=
    fun h => State.mapperDecides_parkedIsClear (by rwa [cmp])
  simp only [State.handRole, hu, State.menuRole]
  split
  · exact ⟨u.mapperDecides_decided, parked⟩
  · obtain ⟨decided, clear⟩ := State.setMenu_mapper
      { u.mapperDecides with mnu := { u.mapperDecides.mnu with notice := none, noticeTimer := none, browseTimer := none } } .closed
    exact ⟨decided u.mapperDecides_decided, clear ∘ parked⟩

/-- A change of role puts switches, menu, duty and CBLK where the role has them (R97, R138, R147, R167). -/
theorem State.setRole_laws {s : State} {role : Role} (change : s.spe.role ≠ role) : (s.setRole role).SwitchesFollowRole ∧
    (s.setRole role).MenuFollowsRole ∧ (s.setRole role).DutyFollowsRole ∧ (s.setRole role).CblkDecided := by
  obtain ⟨video, audio, black⟩ := State.setRole_osw change
  have cnu := State.setRole_cnu change
  refine ⟨?_, fun isOpen => ?_, fun own => ?_, ?_⟩
  · rw [State.SwitchesFollowRole, video, audio, black, State.setRole_role]
    cases role <;> simp [holdsScreen]
  · rw [← holdsScreen_iff, State.setRole_role]
    by_contra free
    exact isOpen (State.setRole_mnu_of_free change (by simpa using free))
  · rw [cnu] at own
    rw [State.setRole_role]
    cases role
    case holding => exact .inl rfl
    case offering => exact .inr rfl
    all_goals cases own
  · rw [State.CblkDecided, cnu]
    simp

/-- A press moves no line while PARKED (R158). -/
theorem State.pressLines_parked (s : State) (i : PanelInput) : (s.pressLines i).cmp.following = s.cmp.following ∧
    (s.cmp.ParkedIsClear → (s.pressLines i).cmp.ParkedIsClear) := by
  simp only [State.pressLines]
  split
  · next following _ => exact ⟨rfl, fun _ parked => absurd (following.symm.trans parked) (by decide)⟩
  · exact ⟨rfl, id⟩

/-- Nor does a release. -/
theorem State.releaseLines_parked (s : State) (i : PanelInput) : (s.releaseLines i).cmp.following = s.cmp.following ∧
    (s.cmp.ParkedIsClear → (s.releaseLines i).cmp.ParkedIsClear) := by
  simp only [State.releaseLines]
  split
  · next following _ => exact ⟨rfl, fun _ parked => absurd (following.symm.trans parked) (by decide)⟩
  · exact ⟨rfl, id⟩

end Sys2Proof.Machine
end

section
/-!
SUPPORT. What follows the role at every step (O56, O59). `ScreenKept p r s` says that `s`, reached from `r`, has each law of the blocks that
follow the role wherever `r` has it; the laws of view and CBLK only where `p`, which at a command says that silence and role timers hold.
`RoleKept` is the part of it that goes on while a board state or the load is handed from block to block, before mapper and CBLK are decided
again. The lemmas compose like those of `CountsKept`.
-/

namespace Sys2Proof.Machine

-- One after another: side by side the threads of these many lemmas take more memory than a check has.
set_option Elab.async false

/-- From `r` to `s` switches, menu, duty and the clear PARKED stand as they must, and where `p` the view. -/
def State.RoleKept (p : Prop) (r s : State) : Prop :=
  (r.SwitchesFollowRole → s.SwitchesFollowRole) ∧ (r.MenuFollowsRole → s.MenuFollowsRole) ∧ (r.DutyFollowsRole → s.DutyFollowsRole) ∧
  (r.cmp.ParkedIsClear → s.cmp.ParkedIsClear) ∧ (p → r.ViewFollowsRole → s.ViewFollowsRole)

/-- The same with the mapper decided, and where `p` CBLK. -/
def State.ScreenKept (p : Prop) (r s : State) : Prop :=
  State.RoleKept p r s ∧ (r.MapperDecided → s.MapperDecided) ∧ (p → r.CblkDecided → s.CblkDecided)

namespace State.RoleKept

variable {p : Prop} {r s t : State}

theorem trans (h : r.RoleKept p s) (h' : s.RoleKept p t) : r.RoleKept p t := by
  obtain ⟨switches, menu, duty, parked, view⟩ := h
  obtain ⟨switches', menu', duty', parked', view'⟩ := h'
  exact ⟨switches' ∘ switches, menu' ∘ menu, duty' ∘ duty, parked' ∘ parked, fun hp hr => view' hp (view hp hr)⟩

theorem view (h : r.RoleKept p s) (hp : p) (hr : r.ViewFollowsRole) : viewAllowed s.rank s.spe.role s.spe.view := by
  obtain ⟨-, -, -, -, view⟩ := h
  exact s.viewFollowsRole_iff.mp (view hp hr)

/-- The mapper decides again, whatever the blocks before it changed (R155). -/
theorem mapperDecides (h : r.RoleKept p s) (cblk : p → r.CblkDecided → s.CblkDecided) : r.ScreenKept p s.mapperDecides := by
  obtain ⟨switches, menu, duty, parked, view⟩ := h
  refine ⟨⟨fun hr => ?_, fun hr => ?_, fun hr => ?_, fun hr => State.mapperDecides_parkedIsClear (parked hr), fun hp hr => ?_⟩,
    fun _ => s.mapperDecides_decided, fun hp hr => ?_⟩
  · simpa [State.SwitchesFollowRole] using switches hr
  · simpa [State.MenuFollowsRole] using menu hr
  · simpa [State.DutyFollowsRole] using duty hr
  · simpa [State.ViewFollowsRole] using view hp hr
  · simpa [State.CblkDecided] using cblk hp hr

/-- A board state at the coin unit: CBLK is decided again (R147). -/
theorem coinBoard (h : r.RoleKept p s) (board : BoardState) : r.RoleKept p (s.coinBoard board) := by
  obtain ⟨switches, menu, duty, parked, view⟩ := h
  obtain ⟨-, own, -⟩ := s.coinBoard_drive board
  refine ⟨fun hr => ?_, fun hr => ?_, fun hr => ?_, fun hr => ?_, fun hp hr => ?_⟩
  · simpa [State.SwitchesFollowRole] using switches hr
  · simpa [State.MenuFollowsRole] using menu hr
  · simpa [State.DutyFollowsRole, own] using duty hr
  · simpa using parked hr
  · simpa [State.ViewFollowsRole] using view hp hr

end State.RoleKept

namespace State.ScreenKept

variable {p : Prop} {r s t : State}

theorem refl (s : State) : s.ScreenKept p s := ⟨⟨id, id, id, id, fun _ => id⟩, id, fun _ => id⟩

theorem trans (h : r.ScreenKept p s) (h' : s.ScreenKept p t) : r.ScreenKept p t := by
  obtain ⟨role, mapper, cblk⟩ := h
  obtain ⟨role', mapper', cblk'⟩ := h'
  exact ⟨role.trans role', mapper' ∘ mapper, fun hp hr => cblk' hp (cblk hp hr)⟩

theorem role (h : r.ScreenKept p s) : r.RoleKept p s := h.1

/-- What leaves all that the laws speak of. -/
theorem same (h : r.ScreenKept p s) (h' : s.SameScreen t) : r.ScreenKept p t := by
  obtain ⟨⟨rank, table, board⟩, ⟨role, view, menu⟩, ⟨video, audio, black⟩, ⟨following, active, seen⟩, dormant, duty, cblk⟩ := h'
  simpa only [State.ScreenKept, State.RoleKept, State.SwitchesFollowRole, State.MenuFollowsRole, State.DutyFollowsRole,
    Mapper.ParkedIsClear, State.ViewFollowsRole, State.MapperDecided, State.CblkDecided, State.shouldFollow,
    rank, table, board, role, view, menu, video, audio, black, following, active, seen, dormant, duty, cblk] using h

/-- What leaves the blocks whole in which the laws stand. -/
theorem frame (h : r.ScreenKept p s) (h' : t.rank = s.rank ∧ t.cfg = s.cfg ∧ t.bsv = s.bsv ∧ t.osw = s.osw ∧ t.spe = s.spe ∧
    t.cnu = s.cnu ∧ t.cmp = s.cmp ∧ t.mnu.state = s.mnu.state) : r.ScreenKept p t := by
  obtain ⟨rank, cfg, bsv, osw, spe, cnu, cmp, mnu⟩ := h'
  exact h.same ⟨⟨rank, State.mapTable_congr cfg, by rw [bsv]⟩, ⟨by rw [spe], by rw [spe], mnu⟩,
    ⟨by rw [osw], by rw [osw], by rw [osw]⟩, ⟨by rw [cmp], by rw [cmp], by rw [cmp]⟩, by rw [cnu], by rw [cnu], by rw [cnu]⟩

theorem elapse (h : r.ScreenKept p s) (n : Nat) : r.ScreenKept p (s.elapse n) := h
theorem advanceTo (h : r.ScreenKept p s) (m : Moment) : r.ScreenKept p (s.advanceTo m) := h
theorem withLine (h : r.ScreenKept p s) (l : LineController) : r.ScreenKept p (s.withLine l) := h

theorem withSpe (h : r.ScreenKept p s) (e : Spe) (role : e.role = s.spe.role := by rfl) (view : e.view = s.spe.view := by rfl) :
    r.ScreenKept p { s with spe := e } :=
  h.same ⟨⟨rfl, rfl, rfl⟩, ⟨role, view, rfl⟩, ⟨rfl, rfl, rfl⟩, ⟨rfl, rfl, rfl⟩, rfl, rfl, rfl⟩

theorem withMnu (h : r.ScreenKept p s) (m : Menu) (state : m.state = s.mnu.state := by rfl) : r.ScreenKept p { s with mnu := m } :=
  h.same ⟨⟨rfl, rfl, rfl⟩, ⟨rfl, rfl, state⟩, ⟨rfl, rfl, rfl⟩, ⟨rfl, rfl, rfl⟩, rfl, rfl, rfl⟩

theorem withCnu (h : r.ScreenKept p s) (u : CoinUnit)
    (drive : u.dormant = s.cnu.dormant ∧ u.duty = s.cnu.duty ∧ u.cblk = s.cnu.cblk := by exact ⟨rfl, rfl, rfl⟩) :
    r.ScreenKept p { s with cnu := u } :=
  h.same ⟨⟨rfl, rfl, rfl⟩, ⟨rfl, rfl, rfl⟩, ⟨rfl, rfl, rfl⟩, ⟨rfl, rfl, rfl⟩, drive⟩

theorem ite {q : Prop} [Decidable q] (ht : r.ScreenKept p t) (hs : r.ScreenKept p s) : r.ScreenKept p (if q then t else s) := by
  split
  · exact ht
  · exact hs

theorem onExpiry (h : r.ScreenKept p s) (timer : Timer) {act : State → State}
    (hact : ∀ due, timer = some due → r.ScreenKept p (act (s.advanceTo due))) : r.ScreenKept p (s.onExpiry timer act) := by
  cases timer with
  | none => exact h
  | some due => exact hact due rfl

/-! ## The menu (R167) -/

/-- A menu state entered: the menu opens only in a role that holds the screen. -/
theorem setMenu (h : r.ScreenKept p s) (st : MenuState)
    (opens : r.MenuFollowsRole → st ≠ .closed → holdsScreen s.spe.role = true) : r.ScreenKept p (s.setMenu st) := by
  unfold State.setMenu
  split
  · exact h
  · obtain ⟨⟨switches, -, duty, parked, view⟩, -, cblk⟩ := h
    refine RoleKept.mapperDecides ⟨switches, fun hr isOpen => ?_, duty, parked, view⟩ cblk
    exact (holdsScreen_iff _).mp (opens hr isOpen)

/-- An open menu is in a role that holds the screen. -/
theorem holds (h : r.ScreenKept p s) (isOpen : s.mnu.state ≠ .closed) (hr : r.MenuFollowsRole) : holdsScreen s.spe.role = true := by
  obtain ⟨⟨-, menu, -⟩, -⟩ := h
  exact (holdsScreen_iff _).mpr (menu hr isOpen)

theorem closeMenu (h : r.ScreenKept p s) : r.ScreenKept p s.closeMenu :=
  (h.withMnu { s.mnu with notice := none, noticeTimer := none, browseTimer := none }).setMenu .closed (fun _ away => absurd rfl away)

theorem enterBrowse (h : r.ScreenKept p s) (opens : r.MenuFollowsRole → holdsScreen s.spe.role = true) : r.ScreenKept p s.enterBrowse :=
  (h.withMnu { s.mnu with browseTimer := s.after browseTime }).setMenu .browse (fun hr _ => opens hr)

theorem openBrowse (h : r.ScreenKept p s) (opens : r.MenuFollowsRole → holdsScreen s.spe.role = true) : r.ScreenKept p s.openBrowse :=
  (h.withMnu { s.mnu with cursor := s.rank }).enterBrowse opens

theorem enterNotice (h : r.ScreenKept p s) (n : Notice) (isOpen : s.mnu.state ≠ .closed) : r.ScreenKept p (s.enterNotice n) :=
  (h.withMnu { s.mnu with notice := some n, noticeTimer := s.after noticeTime }).setMenu .notice (fun hr _ => h.holds isOpen hr)

theorem enterWait (h : r.ScreenKept p s) (isOpen : s.mnu.state ≠ .closed) : r.ScreenKept p s.enterWait :=
  (h.withMnu { s.mnu with notice := some .switching, noticeTimer := none, browseTimer := none }).setMenu .wait
    (fun hr _ => h.holds isOpen hr)

theorem enterService (h : r.ScreenKept p s) (isOpen : s.mnu.state ≠ .closed) : r.ScreenKept p s.enterService :=
  (h.withMnu { s.mnu with browseTimer := none }).setMenu .service (fun hr _ => h.holds isOpen hr)

theorem timedNotice (h : r.ScreenKept p s) (n : Notice) : r.ScreenKept p (s.timedNotice n) := h.withMnu _

theorem menuHandoverFailed (h : r.ScreenKept p s) (reason : Notice) : r.ScreenKept p (s.menuHandoverFailed reason) := by
  unfold State.menuHandoverFailed
  split
  · next waits => exact h.enterNotice reason (by simp [waits])
  · exact h

theorem menuHandoverComplete (h : r.ScreenKept p s) : r.ScreenKept p s.menuHandoverComplete := by
  unfold State.menuHandoverComplete
  split
  · exact h.closeMenu
  · exact h

/-- FAILED opens the menu of a node in HOLDING alone (R169). -/
theorem menuBoard (h : r.ScreenKept p s) (board : BoardState) : r.ScreenKept p (s.menuBoard board) := by
  unfold State.menuBoard
  split
  · unfold State.menuBoardFailed
    split
    · split
      · next holding => exact (h.openBrowse (fun _ => by simp [holding, holdsScreen])).timedNotice _
      · exact h
    · exact h.timedNotice _
    · exact h.timedNotice _
    · exact h
    · exact h
  · exact h

/-! ## Roles and views (R96) -/

/-- The engine enters a role, its view set before: every block follows. The view moves without a change of role nowhere that CBLK follows,
and is one that the role allows. -/
theorem changeRole (h : r.ScreenKept p s) {e : Spe} {role : Role} (same : e.role = s.spe.role := by rfl)
    (moved : p → s.spe.role = role → e.view = s.spe.view)
    (allowed : p → r.ViewFollowsRole → viewAllowed s.rank role e.view) : r.ScreenKept p ({ s with spe := e }.setRole role) := by
  have view (hp : p) (hr : r.ViewFollowsRole) : ({ s with spe := e }.setRole role).ViewFollowsRole := by
    rw [State.viewFollowsRole_iff]
    simpa using allowed hp hr
  obtain ⟨⟨switches, menu, duty, parked, -⟩, mapper, cblk⟩ := h
  by_cases unmoved : s.spe.role = role
  · have stays : { s with spe := e }.setRole role = { s with spe := e } := if_pos (same.trans unmoved)
    rw [stays] at view ⊢
    refine ⟨⟨?_, ?_, ?_, parked, view⟩, ?_, fun hp hr => ?_⟩
    · simpa only [State.SwitchesFollowRole, same] using switches
    · simpa only [State.MenuFollowsRole, same] using menu
    · simpa only [State.DutyFollowsRole, same] using duty
    · simpa only [State.MapperDecided, State.shouldFollow, State.mapTable, State.quantities, same] using mapper
    · simpa only [State.CblkDecided, same, moved hp unmoved] using cblk hp hr
  · have change : { s with spe := e }.spe.role ≠ role := fun now => unmoved (same.symm.trans now)
    obtain ⟨switches, menu, duty, cblk⟩ := State.setRole_laws change
    obtain ⟨decided, clear⟩ := State.setRole_mapper change
    exact ⟨⟨fun _ => switches, fun _ => menu, fun _ => duty, clear ∘ parked, view⟩, fun _ => decided, fun _ _ => cblk⟩

end State.ScreenKept

end Sys2Proof.Machine
end

section
/-!
SUPPORT. What follows the role at the screen protocol engine (O56, O59): each operation on role and view, in the order of the chapters.
-/

namespace Sys2Proof.Machine

set_option Elab.async false

namespace State.ScreenKept

variable {p : Prop} {r s t : State}

/-- A role with the view as it stands. -/
theorem setRole (h : r.ScreenKept p s) {role : Role} (allowed : p → r.ViewFollowsRole → viewAllowed s.rank role s.spe.view) :
    r.ScreenKept p (s.setRole role) :=
  h.changeRole (e := s.spe) rfl (fun _ _ => rfl) allowed

/-- STANDBY with any view, entered from another role or with the view as it stands. -/
theorem toStandby (h : r.ScreenKept p s) {e : Spe} (same : e.role = s.spe.role := by rfl)
    (moved : p → s.spe.role = .standby → e.view = s.spe.view) : r.ScreenKept p ({ s with spe := e }.setRole .standby) :=
  h.changeRole same moved (fun _ _ => viewAllowed_of_free ..)

/-- A view set: CBLK is decided again (R96). -/
theorem setView (h : r.ScreenKept p s) {view : Option Rank} (allowed : p → viewAllowed s.rank s.spe.role view) :
    r.ScreenKept p (s.setView view) := by
  obtain ⟨⟨switches, menu, duty, parked, -⟩, mapper, -⟩ := h
  exact ⟨⟨switches, menu, duty, parked, fun hp _ => (State.viewFollowsRole_iff _).mpr (allowed hp)⟩, mapper, fun _ _ => rfl⟩

/-! ## Reports (R89) -/

/-- A node that holds the screen returns to HOLDING, its own rank in view. -/
theorem offerFails (h : r.ScreenKept p s) (reason : Notice) (holder : p → holdsScreen s.spe.role = true) :
    r.ScreenKept p (s.offerFails reason) := by
  have seated : r.ScreenKept p (s.setRole .holding) := h.setRole fun hp hr => by
    obtain ⟨own, -⟩ := h.role.view hp hr
    exact ⟨fun _ => own (holder hp), nofun⟩
  exact seated.menuHandoverFailed reason

theorem passFails (h : r.ScreenKept p s) : r.ScreenKept p s.passFails :=
  (h.withSpe { s.spe with
    coinQuiet := none, quietCap := none, passIssued := false, frozen := none, target := none
    requests := s.spe.requests.filter (fun r => r.kind != FrameKind.pass) }).same
    (by simp [State.SameScreen, State.passFails, State.mapTable, State.quantities])

theorem handoverFails (h : r.ScreenKept p s) (reason : Notice) (holder : holdsScreen s.spe.role = true) :
    r.ScreenKept p (s.handoverFails reason) :=
  h.passFails.offerFails reason (fun _ => by simpa [State.passFails] using holder)

theorem handoverCompletes (h : r.ScreenKept p s) (k : Rank) (passing : s.spe.role = .passing) : r.ScreenKept p (s.handoverCompletes k) := by
  have standby : r.ScreenKept p ({ s with spe := { s.spe with view := some k } }.setRole .standby) :=
    h.toStandby rfl (fun _ other => absurd (passing.symm.trans other) (by decide))
  exact (standby.withCnu _ : r.ScreenKept p (State.coinDelivered _)).menuHandoverComplete

theorem recoveryReport (h : r.ScreenKept p s) (f : Frame) : r.ScreenKept p (s.recoveryReport f) := by
  unfold State.recoveryReport
  split
  · exact ite (h.withSpe _) h
  · exact h

theorem roleReport (h : r.ScreenKept p s) (rep : Report) (f : Frame) : r.ScreenKept p (s.roleReport rep f) := by
  unfold State.roleReport
  split
  · exact h.withSpe _
  · next offering _ => exact ite (h.offerFails _ (fun _ => by simp [offering, holdsScreen])) h
  · next passing _ =>
    split
    · split
      · split
        · exact h.handoverCompletes _ passing
        · exact h.handoverFails _ (by simp [passing, holdsScreen])
        · exact h
      · exact h
    · exact h
  · split
    · exact ite (h.withSpe _) h
    · exact h
  · exact h

theorem report (h : r.ScreenKept p s) (rep : Report) (f : Frame) : r.ScreenKept p (s.report rep f) :=
  roleReport (recoveryReport (h.frame (by simp [State.rosterReport_mnu_state])) f) rep f

/-! ## Sending (R76, R98) -/

theorem tryEnqueue (h : r.ScreenKept p s) (q : PendingRequest) : r.ScreenKept p (s.tryEnqueue q) := by
  simp only [State.tryEnqueue]
  split
  · exact h.report _ _
  · exact h.withLine _

theorem send (h : r.ScreenKept p s) (q : PendingRequest) : r.ScreenKept p (s.send q) := by
  unfold State.send
  split
  · exact h.withSpe _ (by simp) (by simp)
  · exact h.tryEnqueue q

theorem drainRequests (h : r.ScreenKept p s) (qs : List PendingRequest) : r.ScreenKept p (s.drainRequests qs) := by
  induction qs generalizing s with
  | nil => exact h
  | cons q rest ih =>
    unfold State.drainRequests
    split
    · split
      · exact h
      · exact ih ((h.withSpe (s.spe.clearRequest q)).tryEnqueue q)
    · exact ih h

theorem space (h : r.ScreenKept p s) : r.ScreenKept p s.space := h.drainRequests _

theorem reportHead (h : r.ScreenKept p s) (rep : Report) : r.ScreenKept p (s.reportHead rep) := by
  simp only [State.reportHead]
  split
  · exact h
  · next f _ _ =>
    have reported := (h.withLine s.lct.dropHead).report rep f
    exact ite reported.space reported

theorem reportAll (h : r.ScreenKept p s) (q : List Frame) : r.ScreenKept p (s.reportAll q) := by
  induction q generalizing s with
  | nil => exact h
  | cons f rest ih => exact ih (h.report _ f)

/-! ## Bidding, claims and withdrawal (R101 to R109) -/

theorem beginBid (h : r.ScreenKept p s) (joined : Option Rank) (away : s.spe.role ≠ .bidding) : r.ScreenKept p (s.beginBid joined) := by
  have bidding : r.ScreenKept p ({ s with spe := { s.spe with view := none } }.setRole .bidding) :=
    h.changeRole rfl (fun _ other => absurd other away) (fun _ _ => ⟨nofun, fun _ => rfl⟩)
  have entered : r.ScreenKept p (s.bidEntered joined) := bidding.withSpe _
  rw [State.beginBid_eq]
  exact (entered.send bidRequest).withSpe _

theorem bidCheck (h : r.ScreenKept p s) : r.ScreenKept p s.bidCheck := by
  unfold State.bidCheck
  split
  · next passes =>
    refine h.beginBid none fun bidding => ?_
    simp [State.bidCheckPasses, bidding] at passes
  · exact h

theorem claim (h : r.ScreenKept p s) (k : Rank) : r.ScreenKept p (s.claim k) := by
  unfold State.claim State.yieldTo
  split
  · next role => exact h.setView (fun _ => by rw [role]; exact viewAllowed_of_free ..)
  · next role =>
    exact (h.withSpe { s.spe with seatWait := none }).setView (fun _ => by rw [role]; exact viewAllowed_of_free ..)
  · next role => exact h.toStandby rfl (fun _ other => absurd (role.symm.trans other) (by decide))
  · next role => exact ite (h.toStandby rfl (fun _ other => absurd (role.symm.trans other) (by decide))) (h.send _)
  · next role => exact ite (h.toStandby rfl (fun _ other => absurd (role.symm.trans other) (by decide))) (h.send _)
  all_goals exact h

theorem release (h : r.ScreenKept p s) (k : Rank) : r.ScreenKept p (s.release k) := by
  unfold State.release
  split
  · split
    · next role => exact h.setView (fun _ => by rw [role]; exact viewAllowed_of_free ..)
    · next role => exact (h.setView (fun _ => by rw [role]; exact viewAllowed_of_free ..)).bidCheck
    · exact h
  · exact h

theorem bidHeard (h : r.ScreenKept p s) (k : Rank) : r.ScreenKept p (s.bidHeard k) := by
  unfold State.bidHeard
  split
  · next standby => exact ite (h.beginBid _ (by simp [standby])) h
  · exact h.withSpe _
  · exact h.send _
  · exact h.send _
  all_goals exact h

theorem speBusSilent (h : r.ScreenKept p s) : r.ScreenKept p s.speBusSilent := by
  unfold State.speBusSilent
  split
  · next role => exact h.setView (fun _ => by rw [role]; exact viewAllowed_of_free ..)
  · next role => exact (h.setView (fun _ => by rw [role]; exact viewAllowed_of_free ..)).bidCheck
  · exact h

theorem contention (h : r.ScreenKept p s) : r.ScreenKept p s.contention := by
  unfold State.contention
  split
  · exact h.send _
  · exact h.send _
  · exact h

theorem withdraw (h : r.ScreenKept p s) (reason : WithdrawalReason) : r.ScreenKept p (s.withdraw reason) := by
  unfold State.withdraw
  split
  · exact h
  · exact (h.withLine s.lct.muteCommand).changeRole rfl (fun _ _ => rfl) (fun _ _ => viewAllowed_of_free ..)

theorem speRankClash (h : r.ScreenKept p s) : r.ScreenKept p s.speRankClash := by
  unfold State.speRankClash
  split
  · exact h.passFails.withdraw _
  · exact h.withdraw _

theorem sendHello (h : r.ScreenKept p s) (reply : Bool) : r.ScreenKept p (s.sendHello reply) :=
  (h.withSpe { s.spe with firstHello := true }).send _

theorem speRunning (h : r.ScreenKept p s) : r.ScreenKept p s.speRunning := (h.sendHello true).withSpe _

theorem speBoard (h : r.ScreenKept p s) (board : BoardState) : r.ScreenKept p (s.speBoard board) := by
  have announced : r.ScreenKept p (if s.spe.firstHello ∧ s.spe.role ≠ .withdrawn then s.sendHello false else s) :=
    ite (h.sendHello false) h
  simp only [State.speBoard]
  split
  · exact announced.bidCheck
  · exact announced

/-! ## The handover (R116 to R133) -/

theorem pick (h : r.ScreenKept p s) (k : Rank) : r.ScreenKept p (s.pick k) := by
  unfold State.pick
  split
  · next holding =>
    have offering : r.ScreenKept p
        ({ s with spe := { s.spe with number := s.spe.number + 1, target := some k } }.setRole .offering) := by
      refine h.changeRole rfl (fun _ _ => rfl) fun hp hr => ?_
      obtain ⟨own, -⟩ := h.role.view hp hr
      exact ⟨fun _ => own (by simp [holding, holdsScreen]), nofun⟩
    exact ite (h.menuHandoverFailed _) ((offering.send (offerRequest k)).withSpe _)
  · exact h

theorem answerOffer (h : r.ScreenKept p s) (k : Rank) (n : HandoverNumber) (yes : Bool) (reason : AnswerReason) :
    r.ScreenKept p (s.answerOffer k n yes reason) :=
  (h.withSpe { s.spe with answers := s.spe.answers.set k (some { number := n, yes := yes, reason := reason }) }).send _

theorem enterAccepted (h : r.ScreenKept p s) (k : Rank) (n : HandoverNumber) (away : s.spe.role ≠ .accepted) :
    r.ScreenKept p (s.enterAccepted k n) := by
  have accepted : r.ScreenKept p ({ s with spe := { s.spe with view := some k, seatWait := none } }.setRole .accepted) :=
    h.changeRole rfl (fun _ other => absurd other away) (fun _ _ => viewAllowed_of_free ..)
  exact accepted.withSpe _

theorem offerHeard (h : r.ScreenKept p s) (k : Rank) (n : HandoverNumber) : r.ScreenKept p (s.offerHeard k n) := by
  unfold State.offerHeard
  split
  · exact h
  · exact ite ((h.withSpe { s.spe with passTimer := s.after passTime }).answerOffer _ _ _ _) (h.answerOffer _ _ _ _)
  · next standby =>
    exact ite (h.answerOffer _ _ _ _) (ite (h.answerOffer _ _ _ _) (ite (h.answerOffer _ _ _ _)
      ((h.enterAccepted k n (by simp [standby])).answerOffer _ _ _ _)))
  all_goals exact h.answerOffer _ _ _ _

theorem enterPassing (h : r.ScreenKept p s) (holder : holdsScreen s.spe.role = true) : r.ScreenKept p s.enterPassing := by
  have passing : r.ScreenKept p (s.setRole .passing) := h.setRole fun hp hr => by
    obtain ⟨own, -⟩ := h.role.view hp hr
    exact ⟨fun _ => own holder, nofun⟩
  exact passing.withSpe _

theorem answerHeard (h : r.ScreenKept p s) (k : Rank) (n : HandoverNumber) (yes : Bool) (reason : AnswerReason) :
    r.ScreenKept p (s.answerHeard k n yes reason) := by
  unfold State.answerHeard
  split
  · next offering =>
    have holder : holdsScreen s.spe.role = true := by simp [offering, holdsScreen]
    exact ite (ite (h.enterPassing holder) (h.offerFails _ fun _ => holder)) h
  · exact h

theorem coinSeated (h : r.ScreenKept p s) (c1 c2 : Nat) : r.ScreenKept p (s.coinSeated c1 c2) :=
  h.same (by simp [State.SameScreen, State.mapTable, State.quantities])

theorem passHeard (h : r.ScreenKept p s) (k : Rank) (n : HandoverNumber) (c1 c2 : Nat) : r.ScreenKept p (s.passHeard k n c1 c2) := by
  unfold State.passHeard
  split
  · next accepted =>
    refine ite ?_ h
    have seated : r.ScreenKept p ({ s with spe := { s.spe with
        view := some s.rank, lastPass := some { sender := k, number := n }, accepted := none } }.setRole .holding) :=
      h.changeRole rfl (fun _ other => absurd (accepted.symm.trans other) (by decide)) (fun _ _ => ⟨fun _ => rfl, nofun⟩)
    exact (seated.coinSeated c1 c2).send _
  · exact h

theorem coinHeard (h : r.ScreenKept p s) : r.ScreenKept p s.coinHeard := by
  unfold State.coinHeard
  split
  · exact ite h (h.withSpe _)
  · exact h

/-- The coins are frozen: duty LATE is no duty OWN (R141). -/
theorem coinFreeze (h : r.ScreenKept p s) : r.ScreenKept p s.coinFreeze := by
  obtain ⟨⟨switches, menu, -, kept⟩, decided⟩ := h
  exact ⟨⟨switches, menu, fun _ => nofun, kept⟩, decided⟩

theorem issuePass (h : r.ScreenKept p s) : r.ScreenKept p s.issuePass := by
  have frozen := h.coinFreeze.withSpe { s.spe with coinQuiet := none, frozen := some s.cnu.carriedCounts, passIssued := true }
  simp only [State.issuePass]
  split
  · exact frozen.send _
  · exact frozen

theorem leaveAccepted (h : r.ScreenKept p s) (away : p → s.spe.role ≠ .standby) : r.ScreenKept p s.leaveAccepted :=
  h.toStandby rfl (fun hp other => absurd other (away hp))

/-! ## A stuck line (R112, R113, R133) -/

theorem speLineStuck (h : r.ScreenKept p s) : r.ScreenKept p s.speLineStuck := by
  have recovering := h.withSpe { s.spe with recovering := true, recoveryHello := false }
  simp only [State.speLineStuck]
  split
  · exact h
  · split
    · next bidding => exact recovering.toStandby rfl (fun _ other => absurd (bidding.symm.trans other) (by decide))
    · next offering => exact recovering.offerFails _ (fun _ => by simp [offering, holdsScreen])
    · next passing => exact recovering.handoverFails _ (by simp [passing, holdsScreen])
    · next accepted => exact recovering.leaveAccepted (fun _ => by simp [accepted])
    · exact recovering

theorem speLineClear (h : r.ScreenKept p s) : r.ScreenKept p s.speLineClear := by
  unfold State.speLineClear
  split
  · exact h
  · exact ((h.withSpe { s.spe with recoveryHello := true }).sendHello true).bidCheck

/-! ## The engine's timers (R100, R106, R107) -/

theorem joinExpires (h : r.ScreenKept p s) : r.ScreenKept p s.joinExpires := (h.setRole (fun _ _ => viewAllowed_of_free ..)).bidCheck

theorem bidExpires (h : r.ScreenKept p s) (bidding : p → s.spe.role = .bidding) : r.ScreenKept p s.bidExpires := by
  have seated : r.ScreenKept p ({ s with spe := { s.spe with view := some s.rank } }.setRole .holding) :=
    h.changeRole rfl (fun hp other => absurd ((bidding hp).symm.trans other) (by decide)) (fun _ _ => ⟨fun _ => rfl, nofun⟩)
  have lost : r.ScreenKept p ({ s with spe := { s.spe with view := none } }.setRole .standby) :=
    h.toStandby rfl (fun hp other => absurd ((bidding hp).symm.trans other) (by decide))
  exact ite (seated.send _) (lost.withSpe _)

theorem seatWaitExpires (h : r.ScreenKept p s) : r.ScreenKept p s.seatWaitExpires := (h.withSpe { s.spe with seatWait := none }).bidCheck

end State.ScreenKept

end Sys2Proof.Machine
end

section
/-!
SUPPORT. What follows the role at the other blocks (O56, O59): board supervisor, board sync, cabinet line, coins and panel.
-/

namespace Sys2Proof.Machine

set_option Elab.async false

/-- A board state handed on decides CBLK and the mapper again, whatever they were decided for before (R40, R147, R155). -/
theorem State.RoleKept.handBoard {p : Prop} {r s : State} (h : r.RoleKept p s) (board : BoardState) (field : Option Moment) :
    r.ScreenKept p (s.handBoard board field) := by
  have spoken : r.RoleKept p (s.speBoard board) := h.trans ((State.ScreenKept.refl s).speBoard board).role
  obtain ⟨-, -, cblk⟩ := (s.speBoard board).coinBoard_drive board
  have decided := (spoken.coinBoard board).mapperDecides (fun _ _ => cblk)
  exact (decided.same (by simp [State.SameScreen, State.mapTable, State.quantities]) :
    r.ScreenKept p (State.outputBoard _ board field)).menuBoard board

namespace State.ScreenKept

variable {p : Prop} {r s t : State}

/-! ## The board supervisor (R40 to R54) -/

theorem enterBoard (h : r.ScreenKept p s) (board : BoardState) (field : Option Moment) : r.ScreenKept p (s.enterBoard board field) :=
  State.RoleKept.handBoard (s := { s with bsv := s.bsv.enter s.now s.quantities board }) h.role board field

theorem enterBoardCleared (h : r.ScreenKept p s) (board : BoardState) : r.ScreenKept p (s.enterBoardCleared board) :=
  enterBoard (h.frame (by simp)) board none

/-- The supervisor's timers, latches and counts. -/
theorem withBsv (h : r.ScreenKept p s) (b : Supervisor) (board : b.board = s.bsv.board := by rfl) : r.ScreenKept p { s with bsv := b } :=
  h.same ⟨⟨rfl, rfl, board⟩, ⟨rfl, rfl, rfl⟩, ⟨rfl, rfl, rfl⟩, ⟨rfl, rfl, rfl⟩, rfl, rfl, rfl⟩

theorem setAttempts (h : r.ScreenKept p s) (n : Nat) : r.ScreenKept p (s.setAttempts n) := h.withBsv _

theorem enterVacant (h : r.ScreenKept p s) : r.ScreenKept p s.enterVacant := (h.setAttempts 0).enterBoardCleared .vacant

theorem endLoadPeriod (h : r.ScreenKept p s) : r.ScreenKept p s.endLoadPeriod := by
  have ended := h.withBsv { s.bsv with loadPeriod := false }
  exact ite (ite (ended.withBsv _) ended.enterVacant) h

theorem boardPresent (h : r.ScreenKept p s) : r.ScreenKept p s.boardPresent := by
  have seen := h.withBsv { s.bsv with present := true, decided := true }
  simp only [State.boardPresent]
  refine ite seen.endLoadPeriod ?_
  split
  · exact seen.enterBoardCleared _
  · exact seen

theorem boardAbsent (h : r.ScreenKept p s) : r.ScreenKept p s.boardAbsent := by
  have seen := h.withBsv { s.bsv with present := false }
  simp only [State.boardAbsent]
  refine ite seen ?_
  split
  · exact seen
  · exact seen.enterVacant

theorem firstDecision (h : r.ScreenKept p s) : r.ScreenKept p s.firstDecision := (h.withBsv { s.bsv with decided := true }).endLoadPeriod

theorem latchOffWindow (h : r.ScreenKept p s) : r.ScreenKept p s.latchOffWindow := h.withBsv _

theorem boardSignature (h : r.ScreenKept p s) (verdict : Verdict) (field : Moment) : r.ScreenKept p (s.boardSignature verdict field) :=
  ite ((h.setAttempts 0).enterBoard _ _) (ite (h.latchOffWindow.enterBoard _ _) (ite h.latchOffWindow h))

theorem boardDrift (h : r.ScreenKept p s) (field : Moment) : r.ScreenKept p (s.boardDrift field) := by
  unfold State.boardDrift
  split
  · exact h.enterBoard _ _
  · exact h

theorem boardStall (h : r.ScreenKept p s) : r.ScreenKept p s.boardStall := by
  unfold State.boardStall
  split
  · exact h.enterBoard _ _
  · exact h.enterBoard _ _
  · exact h.enterBoard _ _
  · exact h

theorem boardResume (h : r.ScreenKept p s) : r.ScreenKept p s.boardResume := by
  unfold State.boardResume
  split
  · exact h.enterBoard _ _
  · exact h

theorem graceExpires (h : r.ScreenKept p s) : r.ScreenKept p s.graceExpires :=
  ite ((h.setAttempts _).enterBoardCleared _) ((h.withBsv { s.bsv with boardFailed := true }).enterBoard _ _)

theorem resetBoard (h : r.ScreenKept p s) : r.ScreenKept p s.resetBoard := by
  unfold State.resetBoard
  split
  · exact h
  · split
    · exact h.withBsv _
    · exact h.setAttempts 0
  · exact (h.setAttempts 0).enterBoardCleared _

theorem boardTmuEvent (h : r.ScreenKept p s) (e : Option TmuEvent) (field : Moment) : r.ScreenKept p (s.boardTmuEvent e field) := by
  unfold State.boardTmuEvent
  split
  · exact h.boardSignature _ field
  · exact h.boardDrift field
  · exact h

/-! ## Board sync (R11 to R15) -/

theorem fieldStart (h : r.ScreenKept p s) (lead : Moment) : r.ScreenKept p (s.fieldStart lead) := by
  rw [State.fieldStart_eq]
  have taken : r.ScreenKept p (s.fieldTaken lead) := h
  exact (taken.boardTmuEvent (s.fieldRaises lead) lead).same (by simp [State.SameScreen, State.mapTable, State.quantities])

theorem broad (h : r.ScreenKept p s) (lead : Moment) : r.ScreenKept p (s.broad lead) := ite (h.fieldStart lead) h

theorem leadingEdge (h : r.ScreenKept p s) (m : Moment) : r.ScreenKept p (s.leadingEdge m) := by
  simp only [State.leadingEdge]
  split
  · have resumed : r.ScreenKept p (State.resume { s with ssl := { s.ssl with logicSync := .syncActive, pair := none } }) := boardResume h
    exact resumed.frame (by simp [State.resumePulse])
  · exact h.frame (by simp)

theorem ownBoardEdge (h : r.ScreenKept p s) (lead : Moment) : r.ScreenKept p (s.ownBoardEdge lead) :=
  h.same (by simp [State.SameScreen, State.mapTable, State.quantities])

theorem linePulse (h : r.ScreenKept p s) (q : Pulse) (m : Moment) : r.ScreenKept p (s.linePulse q m) := by
  unfold State.linePulse
  refine ownBoardEdge ?_ _
  exact h

theorem classify (h : r.ScreenKept p s) (q : Pulse) (m : Moment) : r.ScreenKept p (s.classify q m) :=
  ite h (ite h (ite (h.linePulse q m) (ite h (h.broad q.lead))))

theorem trailingEdge (h : r.ScreenKept p s) (m : Moment) : r.ScreenKept p (s.trailingEdge m) := by
  simp only [State.trailingEdge]
  split
  · exact h
  · exact h
  · refine classify ?_ _ m
    exact h

theorem decideBroad (h : r.ScreenKept p s) : r.ScreenKept p s.decideBroad := by
  unfold State.decideBroad
  split
  · refine broad ?_ _
    exact h
  · exact h

theorem stallExpires (h : r.ScreenKept p s) : r.ScreenKept p s.stallExpires := by
  have quiet : r.ScreenKept p s.stalled := boardStall h
  simp only [State.stallExpires]
  split
  · exact quiet
  · exact quiet

/-! ## The bus and fill (R17, R18, R59, R110) -/

theorem busEdge (h : r.ScreenKept p s) (m : Moment) (high : Bool) : r.ScreenKept p (s.busEdge m high) :=
  h.same (by simp [State.SameScreen, State.busEdge, State.mapTable, State.quantities])

theorem busFallsSilent (h : r.ScreenKept p s) : r.ScreenKept p s.busFallsSilent := speBusSilent h

theorem judgeOldest (h : r.ScreenKept p s) : r.ScreenKept p s.judgeOldest := by
  unfold State.judgeOldest State.judgeBusLine State.busMismatch
  split
  · refine ite h ?_
    split
    · exact ite h (ite h (contention h))
    · exact h
  · exact h

theorem fillLine (h : r.ScreenKept p s) (n : Nat) (start : Moment) : r.ScreenKept p (s.fillLine n start) := by
  have begun : r.ScreenKept p ({ s with fsg := { s.fsg with line := n, sync := fillSyncAt n } }.overlayLineStart start) :=
    h.frame (by simp)
  exact ite (begun.same (by simp [State.SameScreen, State.mapTable, State.quantities])) begun

/-! ## The cabinet line (R62 to R81) -/

theorem attemptFails (h : r.ScreenKept p s) : r.ScreenKept p s.attemptFails := by
  unfold State.attemptFails
  split
  · exact ite (h.withLine _) (h.reportHead _)
  · exact h

theorem bitClashes (h : r.ScreenKept p s) (start : Moment) (k i : Nat) (read : Level) : r.ScreenKept p (s.bitClashes start k i read) :=
  (h.withLine { s.lct.stopSending start s.headChars k i read with clash := countError s.lct.clash }).attemptFails

theorem judgeAt (h : r.ScreenKept p s) (window : Moment) (read : List Bool) (chars : List Byte) (gap : Bool) :
    r.ScreenKept p (s.judgeAt window read chars gap) := by
  unfold State.judgeAt
  cases s.lct.judge s.rank read chars gap with
  | rankClash =>
    have latched : r.ScreenKept p (s.withLine { s.lct with phase := .window window false, rankClash := true }) := h.withLine _
    exact latched.speRankClash.withLine _
  | _ => exact h

theorem judgeAck (h : r.ScreenKept p s) (middles : BitVec 9) : r.ScreenKept p (s.judgeAck middles) := by
  unfold State.judgeAck
  split
  · exact ite (h.reportHead _) (ite h.attemptFails (h.reportHead _))
  · exact h

theorem windowCloses (h : r.ScreenKept p s) (middles : BitVec 9) : r.ScreenKept p (s.windowCloses middles) := by
  have ended := h.withLine (s.lct.frameEnd s.now)
  simp only [State.windowCloses]
  split
  · exact ended.judgeAck middles
  · exact ended

theorem flush (h : r.ScreenKept p s) : r.ScreenKept p s.flush := by
  have emptied := (h.reportAll s.lct.txq).withLine { (s.reportAll s.lct.txq).lct with txq := [], attempts := 0 }
  exact ite emptied.space emptied

theorem lineSticks (h : r.ScreenKept p s) : r.ScreenKept p s.lineSticks := (h.withLine (s.lct.stick s.now)).speLineStuck.flush

theorem lineClears (h : r.ScreenKept p s) : r.ScreenKept p s.lineClears :=
  (h.withLine { s.lct with stuck := false, phase := .idle }).speLineClear

theorem takeEntry (h : r.ScreenKept p s) (e : RxEntry) : r.ScreenKept p (s.takeEntry e) :=
  (h.withLine { s.lct with rxq := s.lct.rxq.tail }).frame (by simp [State.takeEntry])

theorem helloHeard (h : r.ScreenKept p s) (k : Rank) (holding reply : Bool) : r.ScreenKept p (s.helloHeard k holding reply) := by
  have replied : r.ScreenKept p (if reply ∧ s.spe.role ≠ .withdrawn then s.sendHello false else s) := ite (h.sendHello false) h
  exact ite (replied.claim k) (replied.release k)

/-! ## Coins -/

theorem withChan (h : r.ScreenKept p s) (ch : Channel) (c : CoinChannel) : r.ScreenKept p (s.withChan ch c) := h.withCnu _ (by simp)

theorem idleCheck (h : r.ScreenKept p s) (ch : Channel) : r.ScreenKept p (s.idleCheck ch) :=
  h.same (by simp [State.SameScreen, State.mapTable, State.quantities])

theorem countCoin (h : r.ScreenKept p s) (ch : Channel) : r.ScreenKept p (s.countCoin ch) := by
  unfold State.countCoin
  split
  · exact h.same (by simp [State.SameScreen, State.mapTable, State.quantities])
  · exact coinHeard (h.same (by simp [State.SameScreen, State.mapTable, State.quantities]))
  · exact h.same (by simp [State.SameScreen, State.mapTable, State.quantities])
  · exact h

theorem closureJudged (h : r.ScreenKept p s) (ch : Channel) (start stop : Moment) : r.ScreenKept p (s.closureJudged ch start stop) := by
  have ended : r.ScreenKept p (s.closureEnds ch) := h.withChan ch _
  exact ite (ended.countCoin ch) (ended.withChan ch _)

/-! ## The panel (R151, R168 to R176) -/

/-- The mapper goes on in its state, and clear while PARKED. -/
theorem withCmp (h : r.ScreenKept p s) {m : Mapper} (following : m.following = s.cmp.following)
    (clear : s.cmp.ParkedIsClear → m.ParkedIsClear) : r.ScreenKept p { s with cmp := m } := by
  obtain ⟨⟨switches, menu, duty, parked, view⟩, mapper, cblk⟩ := h
  exact ⟨⟨switches, menu, duty, clear ∘ parked, view⟩, fun hr => following.trans (mapper hr), cblk⟩

theorem setLatch (h : r.ScreenKept p s) (i : PanelInput) (v : Bool) : r.ScreenKept p (s.setLatch i v) := h.withCmp rfl id

/-- The lamps are mirrored in either state of the mapper (R161). -/
theorem setLit (h : r.ScreenKept p s) (lamp : LampInput) (v : Bool) :
    r.ScreenKept p { s with cmp := s.cmp.setLit lamp v }.mirrorLamps := by
  have read : r.ScreenKept p { s with cmp := s.cmp.setLit lamp v } := by
    cases lamp with
    | bl1 => exact h.withCmp rfl id
    | bl2 => exact h.withCmp rfl id
  exact read.withCmp (m := (State.mirrorLamps _).cmp) rfl id

theorem pickEntry (h : r.ScreenKept p s) (isOpen : s.mnu.state ≠ .closed) : r.ScreenKept p s.pickEntry :=
  ite h.closeMenu (ite ((h.enterWait isOpen).pick _) (h.enterNotice _ isOpen))

theorem clearFaults (h : r.ScreenKept p s) : r.ScreenKept p s.clearFaults := h

theorem menuKey (h : r.ScreenKept p s) (k : Key) : r.ScreenKept p (s.menuKey k) := by
  unfold State.menuKey
  split
  · exact h
  · next browse =>
    have isOpen : s.mnu.state ≠ .closed := by simp [browse]
    unfold State.browseKey
    split
    · exact h.withMnu _
    · exact h.withMnu _
    · exact h.pickEntry isOpen
    · exact h.closeMenu
    · exact h.enterService isOpen
    · exact h
    · exact h
  · exact h
  · exact h
  · next service =>
    unfold State.serviceKey
    split
    · exact h.resetBoard
    · exact h.clearFaults.openBrowse (h.holds (by simp [service]))
    all_goals exact h

theorem pressed (h : r.ScreenKept p s) (i : PanelInput) : r.ScreenKept p (s.pressed i) := by
  obtain ⟨following, clear⟩ := s.pressLines_parked i
  have lines : r.ScreenKept p (s.pressLines i) := (h.withCmp following clear).frame (by simp)
  have latched := lines.setLatch i true
  have touched : r.ScreenKept p (((s.pressLines i).setLatch i true).touched i) := latched
  unfold State.pressed
  rw [State.menuPress_eq]
  exact touched.menuKey _

theorem released (h : r.ScreenKept p s) (i : PanelInput) : r.ScreenKept p (s.released i) := by
  obtain ⟨following, clear⟩ := s.releaseLines_parked i
  have lines : r.ScreenKept p (s.releaseLines i) := (h.withCmp following clear).frame (by simp)
  unfold State.released State.menuRelease
  split
  · exact (lines.setLatch _ false).withMnu _
  · exact lines.setLatch i false

theorem selectExpires (h : r.ScreenKept p s) : r.ScreenKept p s.selectExpires := by
  have stopped := h.withMnu { s.mnu with selectTimer := none }
  simp only [State.selectExpires]
  split
  · next opens =>
    obtain ⟨-, -, holding⟩ := opens
    exact (stopped.setLatch .select false).openBrowse (fun _ => (holdsScreen_iff _).mpr (.inl holding))
  · exact stopped

theorem noticeExpires (h : r.ScreenKept p s) : r.ScreenKept p s.noticeExpires := by
  have cleared := h.withMnu { s.mnu with notice := none, noticeTimer := none }
  simp only [State.noticeExpires]
  split
  · next notice => exact cleared.enterBrowse (cleared.holds (by simp [notice]))
  · exact cleared

end State.ScreenKept

end Sys2Proof.Machine
end

section
/-!
SUPPORT. What follows the role at LOAD END and node reset, and with that at every command and every step (O56, O59).
-/

namespace Sys2Proof.Machine

set_option Elab.async false


/-! ## LOAD END (R135, R147, R150, R181) -/

/-- The coin unit wakes: its duty stays, and CBLK is decided (R147). -/
theorem State.coinLoadEnd_drive (s : State) : s.coinLoadEnd.cnu.duty = s.cnu.duty ∧ s.coinLoadEnd.CblkDecided := by
  simp [State.coinLoadEnd, State.decideCblk, State.CblkDecided]

/-- CBLK and the mapper are decided again, whatever they were decided for before. -/
theorem State.RoleKept.loadEnds {p : Prop} {r s : State} (h : r.RoleKept p s) : r.ScreenKept p s.coinLoadEnd.mapperLoadEnd := by
  obtain ⟨switches, menu, duty, parked, view⟩ := h
  obtain ⟨own, cblk⟩ := s.coinLoadEnd_drive
  have woken : r.RoleKept p s.coinLoadEnd := by
    refine ⟨fun hr => ?_, fun hr => ?_, fun hr => ?_, fun hr => ?_, fun hp hr => ?_⟩
    · simpa [State.SwitchesFollowRole] using switches hr
    · simpa [State.MenuFollowsRole] using menu hr
    · simpa [State.DutyFollowsRole, own] using duty hr
    · simpa using parked hr
    · simpa [State.ViewFollowsRole] using view hp hr
  exact State.RoleKept.mapperDecides (s := { s.coinLoadEnd with cmp := { s.coinLoadEnd.cmp with dormant := false } }) woken
    (fun _ _ => cblk)

/-- The quantities are taken first, and with them the map table; the mapper is decided for it at the end (R181). -/
theorem State.loadEnd_screenKept (p : Prop) (s : State) (copy : Option (List Byte)) : s.ScreenKept p (s.loadEnd copy) := by
  have taken : s.RoleKept p (s.loadTaken copy) := (State.ScreenKept.refl s).role
  have started : (s.loadTaken copy).ScreenKept p (s.loadStarted copy) :=
    (((State.ScreenKept.refl (s.loadTaken copy)).frame (by simp)).endLoadPeriod).withLine _
  rw [State.loadEnd_eq]
  split
  · exact (taken.trans started.speRunning.role).loadEnds
  · exact (taken.trans (started.withdraw .noConfig).role).loadEnds

/-! ## Every command -/

/-- What node reset leaves meets the laws (R97, R138, R147, R155, R167). -/
theorem State.resetBy_screenKept (p : Prop) (s : State) (cause : ResetCause) : s.ScreenKept p (s.resetBy cause) := by
  obtain ⟨switches, menu, edges, duty⟩ := State.reset_roleFollowed
  obtain ⟨view, cblk⟩ := State.reset_view
  obtain ⟨mapper, parked⟩ := State.reset.edgesFollow_iff.mp edges
  exact ⟨⟨fun _ => switches, fun _ => menu, fun _ => duty, fun _ => parked, fun _ _ => view⟩, fun _ => mapper,
    fun _ _ => State.reset.cblkFollows_iff.mp cblk⟩

/-- A try that fails moves the loader alone, or ends the load (R179). -/
theorem State.ScreenKept.tryFails {p : Prop} {r s : State} (h : r.ScreenKept p s) (linesFree : Bool) :
    r.ScreenKept p (s.tryFails linesFree) :=
  .ite h (h.trans (s.loadEnd_screenKept p none))

/-- The rank is sampled while the line is OFF: in STARTUP, where no view is the own rank's (R178). -/
theorem State.ScreenKept.causesEnd {p : Prop} {r s : State} (h : r.ScreenKept p s) (release : ResetRelease)
    (startup : p → s.spe.role = .startup) : r.ScreenKept p (s.causesEnd release) := by
  obtain ⟨⟨switches, menu, duty, parked, -⟩, decided⟩ := id h
  simp only [State.causesEnd]
  split
  · exact h
  · refine ⟨⟨switches, menu, duty, parked, fun hp _ => ?_⟩, decided⟩
    rw [State.viewFollowsRole_iff]
    exact (startup hp).symm ▸ viewAllowed_of_free ..

/-- While node reset is in force the engine is in STARTUP (R70, R99). -/
theorem State.WithdrawnIsSilent.startup_of_held {s : State} (h : s.WithdrawnIsSilent) (held : s.cfl.load = .held) :
    s.spe.role = .startup := by
  obtain ⟨-, -, off, loader, -⟩ := h
  obtain ⟨-, -, startup, -⟩ := off (loader.mpr (.inl held))
  exact startup

/-- Every command keeps what follows the role. -/
theorem exec_screenKept (c : Instr) (s : State) :
    ∃ u, exec c s = done u ∧ s.ScreenKept (s.WithdrawnIsSilent ∧ s.RoleTimers) u := by
  have h : s.ScreenKept (s.WithdrawnIsSilent ∧ s.RoleTimers) s := .refl s
  cases c with
  | nodeReset dt cause => exact ⟨_, rfl, .ite (s.resetBy_screenKept _ cause) (h.elapse dt)⟩
  | nodeResetEnd dt release =>
    refine ⟨_, rfl, ?_⟩
    split
    · next held => exact (h.elapse dt).causesEnd release fun ⟨silent, _⟩ => silent.startup_of_held held
    · exact h.elapse dt
  | tryFails dt failed =>
    refine ⟨_, rfl, ?_⟩
    split
    · exact (h.elapse dt).tryFails failed.linesFree
    · exact h.elapse dt
  | pausedExpiry => exact ⟨_, rfl, h.onExpiry _ fun _ _ => h⟩
  | blockRead dt bytes =>
    refine ⟨_, rfl, ?_⟩
    split
    · exact (h.elapse dt).trans ((s.elapse dt).loadEnd_screenKept _ _)
    · exact h.elapse dt
  | acquisitionWindowEnd runs level =>
    refine ⟨_, rfl, ?_⟩
    split
    · exact h.onExpiry _ fun due _ => (h.advanceTo due).frame (by simp)
    · exact h
  | leadingEdge dt held level => exact ⟨_, rfl, .ite ((h.elapse dt).leadingEdge _) (h.elapse dt)⟩
  | trailingEdge dt held level => exact ⟨_, rfl, .ite ((h.elapse dt).trailingEdge _) (h.elapse dt)⟩
  | broadDecided => exact ⟨_, rfl, h.onExpiry _ fun due _ => (h.advanceTo due).decideBroad⟩
  | tipSample code => exact ⟨_, rfl, h.onExpiry _ fun due _ => (h.advanceTo due).frame (by simp)⟩
  | restSample code => exact ⟨_, rfl, h.onExpiry _ fun due _ => (h.advanceTo due).frame (by simp)⟩
  | stall => exact ⟨_, rfl, h.onExpiry _ fun due _ => (h.advanceTo due).stallExpires⟩
  | lockExpiry => exact ⟨_, rfl, h.onExpiry _ fun due _ => (h.advanceTo due).frame (by simp)⟩
  | busEdge dt held level => exact ⟨_, rfl, .ite ((h.elapse dt).busEdge _ _) (h.elapse dt)⟩
  | busSilent => exact ⟨_, rfl, h.onExpiry _ fun due _ => (h.advanceTo due).busFallsSilent⟩
  | busLineJudged => exact ⟨_, rfl, h.onExpiry _ fun due _ => (h.advanceTo due).judgeOldest⟩
  | present dt held => exact ⟨_, rfl, .ite (h.elapse dt).boardPresent (h.elapse dt)⟩
  | absent dt held => exact ⟨_, rfl, .ite (h.elapse dt).boardAbsent (h.elapse dt)⟩
  | resetHoldExpiry => exact ⟨_, rfl, h.onExpiry _ fun due _ => (h.advanceTo due).enterBoardCleared .settling⟩
  | bootLimitExpiry => exact ⟨_, rfl, h.onExpiry _ fun due _ => (h.advanceTo due).enterBoard .stalled none⟩
  | stallGraceExpiry => exact ⟨_, rfl, h.onExpiry _ fun due _ => (h.advanceTo due).graceExpires⟩
  | fillFieldStart =>
    refine ⟨_, rfl, ?_⟩
    split
    · next due _ => exact (h.advanceTo due).frame (by simp)
    · exact h
  | fillLineStart =>
    refine ⟨_, rfl, ?_⟩
    split
    · next due _ => exact (h.advanceTo due).fillLine _ _
    · exact h
  | fillPulseEnd => exact ⟨_, rfl, h.onExpiry _ fun _ _ => h⟩
  | lineIdle dt => exact ⟨_, rfl, .ite ((h.elapse dt).frame (by simp)) (h.elapse dt)⟩
  | lostArbitration bit =>
    refine ⟨_, rfl, ?_⟩
    split
    · exact .ite ((h.advanceTo _).withLine _) h
    · exact h
  | bitClash char bit read =>
    refine ⟨_, rfl, ?_⟩
    split
    · exact .ite ((h.advanceTo _).bitClashes _ _ _ _) h
    · exact h
  | framingError dt kind => exact ⟨_, rfl, (h.elapse dt).frame (by simp)⟩
  | frameJudged contents check gapDominant =>
    refine ⟨_, rfl, ?_⟩
    split
    · exact (h.advanceTo _).judgeAt _ _ _ _
    · exact h
  | ackWindowEnd middles =>
    refine ⟨_, rfl, ?_⟩
    split
    · exact (h.advanceTo _).windowCloses middles
    · exact h
  | lineStuck dt =>
    refine ⟨_, rfl, ?_⟩
    split
    · exact ((h.elapse dt).advanceTo _).lineSticks
    · exact h.elapse dt
  | lineClear dt =>
    refine ⟨_, rfl, ?_⟩
    split
    · exact ((h.elapse dt).advanceTo _).lineClears
    · exact h.elapse dt
  | helloTaken =>
    refine ⟨_, rfl, ?_⟩
    split
    · split
      · exact (h.takeEntry _).helloHeard _ _ _
      · exact h
    · exact h
  | seatedTaken =>
    refine ⟨_, rfl, ?_⟩
    split
    · exact (h.takeEntry _).claim _
    · exact h
  | bidTaken =>
    refine ⟨_, rfl, ?_⟩
    split
    · exact (h.takeEntry _).bidHeard _
    · exact h
  | offerTaken =>
    refine ⟨_, rfl, ?_⟩
    split
    · split
      · exact (h.takeEntry _).offerHeard _ _
      · exact h
    · exact h
  | answerTaken =>
    refine ⟨_, rfl, ?_⟩
    split
    · split
      · exact (h.takeEntry _).answerHeard _ _ _ _
      · exact h
    · exact h
  | passTaken =>
    refine ⟨_, rfl, ?_⟩
    split
    · split
      · exact (h.takeEntry _).passHeard _ _ _ _
      · exact h
    · exact h
  | joinWindowExpiry => exact ⟨_, rfl, h.onExpiry _ fun due _ => (h.advanceTo due).joinExpires⟩
  | bidWindowExpiry =>
    exact ⟨_, rfl, h.onExpiry _ fun due runs => (h.advanceTo due).bidExpires
      fun ⟨_, _, bidding, _⟩ => bidding (by simp [runs])⟩
  | seatWaitExpiry => exact ⟨_, rfl, h.onExpiry _ fun due _ => (h.advanceTo due).seatWaitExpires⟩
  | answerTimerExpiry =>
    refine ⟨_, rfl, h.onExpiry _ fun due runs => (h.advanceTo due).offerFails .noAnswer fun ⟨_, _, _, _, offering, _⟩ => ?_⟩
    exact (holdsScreen_iff _).mpr (.inr (.inl (offering (by simp [runs]))))
  | coinQuietExpiry => exact ⟨_, rfl, h.onExpiry _ fun due _ => (h.advanceTo due).issuePass⟩
  | passTimerExpiry =>
    refine ⟨_, rfl, h.onExpiry _ fun due runs => ((h.advanceTo due).leaveAccepted fun ⟨_, _, _, _, _, _, accepted⟩ => ?_).bidCheck⟩
    have role : s.spe.role = .accepted := accepted (by simp [runs])
    simp [role]
  | closure dt held ch => exact ⟨_, rfl, .ite ((h.elapse dt).withChan _ _) (h.elapse dt)⟩
  | detectedCoin dt held ch =>
    refine ⟨_, rfl, ?_⟩
    split
    · exact .ite (h.elapse dt) ((h.elapse dt).closureJudged ch _ _)
    · exact h.elapse dt
  | coinJam ch => exact ⟨_, rfl, h.onExpiry _ fun due _ => (h.advanceTo due).withChan _ _⟩
  | pulseTimerExpiry ch => exact ⟨_, rfl, h.onExpiry _ fun due _ => (h.advanceTo due).withChan _ _⟩
  | gapTimerExpiry ch => exact ⟨_, rfl, h.onExpiry _ fun due _ => ((h.advanceTo due).withChan _ _).idleCheck ch⟩
  | press dt held input => exact ⟨_, rfl, .ite ((h.elapse dt).pressed input) (h.elapse dt)⟩
  | release dt held input => exact ⟨_, rfl, .ite ((h.elapse dt).released input) (h.elapse dt)⟩
  | lampLevelChange dt held lamp lit => exact ⟨_, rfl, .ite ((h.elapse dt).setLit lamp lit) (h.elapse dt)⟩
  | selectHoldExpiry => exact ⟨_, rfl, h.onExpiry _ fun due _ => (h.advanceTo due).selectExpires⟩
  | browseTimerExpiry => exact ⟨_, rfl, h.onExpiry _ fun due _ => (h.advanceTo due).closeMenu⟩
  | noticeTimerExpiry => exact ⟨_, rfl, h.onExpiry _ fun due _ => (h.advanceTo due).noticeExpires⟩
  | statusLampBlink lamp =>
    refine ⟨_, rfl, ?_⟩
    split
    · exact h
    · exact h
  | lineFall dt fall =>
    refine ⟨_, rfl, ?_⟩
    split
    · exact h.elapse dt
    · exact (h.elapse dt).withLine _
  | jammedClosureEnd dt held ch =>
    refine ⟨_, rfl, ?_⟩
    split
    · exact .ite ((h.elapse dt).withChan _ _) (h.elapse dt)
    · exact h.elapse dt
  | presenceFirstDecision dt held => exact ⟨_, rfl, .ite (h.elapse dt).firstDecision (h.elapse dt)⟩

/-- Every step keeps what follows the role: queue and clock are in no law. -/
theorem step_screenKept {s t : State} (h : step s = .next t) : s.ScreenKept (s.WithdrawnIsSilent ∧ s.RoleTimers) t := by
  have kept (c : Instr) (u : State) (hu : exec c u = .next t) : u.ScreenKept (u.WithdrawnIsSilent ∧ u.RoleTimers) t := by
    obtain ⟨v, hv, kept⟩ := exec_screenKept c u
    rw [hv] at hu
    rw [next_of_done hu]
    exact kept.frame (by simp)
  unfold step at h
  split at h
  · next rest _ => exact kept _ (s.withPending rest) h
  · split at h
    · exact kept _ s h
    · cases h
      exact (State.ScreenKept.refl s).elapse 1

end Sys2Proof.Machine
end

section
open Sys2Proof.Machine

/-- Settles O56: every step keeps the laws of the blocks that follow the role (`step_screenKept`). -/
theorem everyStepKeepsRoleFollowed : Obligations.EveryStepKeepsRoleFollowed := by
  refine ⟨fun s t hs ht => ?_, fun s t hs ht => ?_, fun s t hs ht => ?_, fun s t hs ht => ?_⟩
  all_goals obtain ⟨⟨switches, menu, duty, parked, -⟩, mapper, -⟩ := step_screenKept ht
  · exact switches hs
  · exact menu hs
  · obtain ⟨decided, clear⟩ := s.edgesFollow_iff.mp hs
    exact t.edgesFollow_iff.mpr ⟨mapper decided, parked clear⟩
  · exact duty hs

/-- Settles O59: silence and role timers are kept (O58), and under them the view of the role and CBLK (`step_screenKept`). -/
theorem everyStepKeepsViewAndCblk : Obligations.EveryStepKeepsViewAndCblk := by
  obtain ⟨keepsSilent, -⟩ := everyStepKeepsWithdrawnSilent
  refine ⟨fun s t hs ht => ?_, fun s t hs ht => ?_⟩
  all_goals
    obtain ⟨silent, timers, follows⟩ := hs
    obtain ⟨silent', timers'⟩ := keepsSilent s t ⟨silent, timers⟩ ht
    obtain ⟨⟨-, -, -, -, view⟩, -, cblk⟩ := step_screenKept ht
    refine ⟨silent', timers', ?_⟩
  · exact view ⟨silent, timers⟩ follows
  · exact t.cblkFollows_iff.mpr (cblk ⟨silent, timers⟩ (s.cblkFollows_iff.mp follows))
end

section
/-!
SUPPORT. The contention check at one bus line (R110, R111).
-/

namespace Sys2Proof.Machine

theorem busLineMatched_iff (own : List Moment) (b : Moment) :
    busLineMatched own b = true ↔ ∃ e ∈ own, ticksBetween e b ≤ 24 ∨ ticksBetween b e ≤ 24 := by
  simp [busLineMatched]

theorem sameLine_iff (l16 : Nat) (counted : Option Moment) (b : Moment) :
    sameLine l16 counted b = true ↔ ∃ c, counted = some c ∧ ticksBetween b c < l16 / 32 := by
  cases counted <;> simp [sameLine]

/-- The oldest bus line is taken, and own line edges older than 512 ticks are forgotten. -/
def State.oldestTaken (s : State) : State :=
  { s with osw := { s.osw with awaiting := s.osw.awaiting.tail, ownEdges := keptEdges s.now s.osw.ownEdges } }

/-- The oldest bus line is judged 420 ticks after its leading edge. -/
theorem exec_busLineJudged {s : State} {b : Moment} (head : s.osw.awaiting.head? = some b) :
    exec .busLineJudged s = .next ((s.advanceTo (b + 420)).oldestTaken.judgeBusLine b).settled := by
  obtain ⟨rest, awaiting⟩ := List.head?_eq_some_iff.mp head
  simp [exec, execBusLineJudged, done_eq, State.busJudgeDue, judgeDelay, State.judgeOldest, State.oldestTaken, awaiting]

section
variable {s : State} {b : Moment}

theorem State.judgeBusLine_of_matched (h : busLineMatched s.osw.ownEdges b = true) :
    s.judgeBusLine b = { s with osw := { s.osw with mismatches := 0, counted := none } } := by
  rw [State.judgeBusLine, if_pos h]

theorem State.judgeBusLine_of_unreferenced (h : busLineMatched s.osw.ownEdges b = false) (absent : s.tmu.reference = none) :
    s.judgeBusLine b = s := by
  simp [State.judgeBusLine, h, absent]

theorem State.judgeBusLine_of_mismatch (h : busLineMatched s.osw.ownEdges b = false) {r : Signature} (reference : s.tmu.reference = some r) :
    s.judgeBusLine b = s.busMismatch r.l16 b := by
  simp [State.judgeBusLine, h, reference]

end

section
variable {s : State} {l16 : Nat} {b : Moment}

/-- A mismatch on the line of the counted one is not counted (R110). -/
theorem State.busMismatch_of_same (same : sameLine l16 s.osw.counted b = true) : s.busMismatch l16 b = s := if_pos same

theorem State.busMismatch_of_few (fresh : sameLine l16 s.osw.counted b = false) (few : s.osw.mismatches < 7) :
    s.busMismatch l16 b = { s with osw := { s.osw with mismatches := s.osw.mismatches + 1, counted := some b } } := by
  simp [State.busMismatch, fresh, few]

/-- The eighth hands CONTENTION (R110, R111). -/
theorem State.busMismatch_of_eighth (fresh : sameLine l16 s.osw.counted b = false) (eighth : 7 ≤ s.osw.mismatches) :
    s.busMismatch l16 b = { s with osw := { s.osw with mismatches := 0, counted := none } }.contention := by
  simp [State.busMismatch, fresh, Nat.not_lt.mpr eighth]

end

/-- CONTENTION moves the line controller's queue side and the requests alone (R111). -/
theorem State.contention_eq (s : State) : ∃ l q, s.contention = { s with lct := l, spe := { s.spe with requests := q } } := by
  obtain ⟨l, q, sent, -⟩ := s.send_seated
  unfold State.contention
  split
  · exact ⟨l, q, sent⟩
  · exact ⟨l, q, sent⟩
  · exact ⟨s.lct, s.spe.requests, rfl⟩

theorem State.contention_of_holder {s : State} (role : s.spe.role = .holding ∨ s.spe.role = .offering) :
    s.contention = s.send seatedRequest := by
  rcases role with role | role <;> simp [State.contention, role]

theorem State.contention_of_other {s : State} (holding : s.spe.role ≠ .holding) (offering : s.spe.role ≠ .offering) :
    s.contention = s := by
  unfold State.contention
  split
  · next role => exact absurd role holding
  · next role => exact absurd role offering
  · rfl

/-- A frame sent on a working line with room, and no waiting frame of its kind, joins the queue, and nothing else moves (R76). -/
theorem State.send_of_room {s : State} (r : PendingRequest) (mode : s.lct.mode = .running) (unstuck : s.lct.stuck = false)
    (busy : s.lct.phase ≠ .idle) (room : s.lct.txq.length < 4) (fresh : ∀ f ∈ s.lct.txq.tail, f.kind ≠ r.kind) :
    s.send r = { s with lct := { s.lct with
      txq := s.lct.txq ++ [s.buildFrame r], attempts := if s.lct.txq.isEmpty then 0 else s.lct.attempts } } := by
  refine s.send_joins r mode unstuck busy room ?_
  rw [Bool.eq_false_iff, ne_eq, State.waitingMatch_iff]
  rintro ⟨g, mem, kind, -⟩
  exact fresh g mem kind

/-- A holder's SEATED joins the queue, and nothing else moves (R76, R111). -/
theorem State.contention_of_room {s : State} (role : s.spe.role = .holding ∨ s.spe.role = .offering) (mode : s.lct.mode = .running)
    (unstuck : s.lct.stuck = false) (busy : s.lct.phase ≠ .idle) (room : s.lct.txq.length < 4)
    (fresh : ∀ f ∈ s.lct.txq.tail, f.kind ≠ .seated) :
    s.contention = { s with lct := { s.lct with
      txq := s.lct.txq ++ [Frame.mk .all .seated], attempts := if s.lct.txq.isEmpty then 0 else s.lct.attempts } } := by
  rw [State.contention_of_holder role, State.send_of_room seatedRequest mode unstuck busy room fresh]
  rfl

end Sys2Proof.Machine
end

section
open Sys2Proof.Machine

/-- Settles O21, by the outcome of the judgement: matched, without a reference, on the counted line, counted, and the eighth, which is
`State.contention`. -/
theorem busLineIsJudged : Obligations.BusLineIsJudged := by
  intro s b head rest now own matched
  obtain ⟨u, hu⟩ : ∃ u, (s.advanceTo (b + 420)).oldestTaken = u := ⟨_, rfl⟩
  have osw : u.osw = { s.osw with awaiting := rest, ownEdges := own } := by rw [← hu]; rfl
  have same : u.now = now ∧ u.tmu = s.tmu ∧ u.spe = s.spe ∧ u.lct = s.lct := by simp [← hu, State.oldestTaken, now]
  obtain ⟨now', tmu, spe, lct⟩ := same
  have outside (o : OutputSwitch) : s.agreesOutside { u with osw := o }.settled (.now :: .osw :: follows) := by
    simp [State.agreesOutside_iff, follows, ← hu, State.oldestTaken]
  have matched_iff : busLineMatched u.osw.ownEdges b = true ↔ matched := by
    rw [osw]
    exact busLineMatched_iff own b
  have mismatched (h : ¬matched) : busLineMatched u.osw.ownEdges b = false := by
    rw [← matched_iff] at h
    simpa using h
  refine ⟨_, exec_busLineJudged head, ?_, fun h => ?_, fun h absent => ?_, fun h r reference => ?_⟩
  all_goals rw [hu]
  · simp [now']
  · rw [u.judgeBusLine_of_matched (matched_iff.mpr h)]
    exact ⟨by simp [osw], outside _⟩
  · rw [u.judgeBusLine_of_unreferenced (mismatched h) (by rw [tmu]; exact absent)]
    exact ⟨by simp [osw], outside u.osw⟩
  · rw [u.judgeBusLine_of_mismatch (mismatched h) (by rw [tmu]; exact reference)]
    have counted : u.osw.counted = s.osw.counted ∧ u.osw.mismatches = s.osw.mismatches := by simp [osw]
    obtain ⟨counted, mismatches⟩ := counted
    refine ⟨fun c hc near => ?_, fun far => ?_⟩
    · rw [u.busMismatch_of_same ((sameLine_iff ..).mpr ⟨c, counted.trans hc, near⟩)]
      exact ⟨by simp [osw], outside u.osw⟩
    · have fresh : sameLine r.l16 u.osw.counted b = false := by
        rw [Bool.eq_false_iff, ne_eq, sameLine_iff]
        rintro ⟨c, hc, near⟩
        exact absurd (far c (counted.symm.trans hc)) (Nat.not_le.mpr near)
      refine ⟨fun few => ?_, fun eighth => ?_⟩
      · rw [u.busMismatch_of_few fresh (by rw [mismatches]; exact few)]
        exact ⟨by simp [osw], outside _⟩
      · rw [u.busMismatch_of_eighth fresh (by rw [mismatches]; exact eighth)]
        obtain ⟨v, hv⟩ : ∃ v : State, { u with osw := { u.osw with mismatches := 0, counted := none } } = v := ⟨_, rfl⟩
        obtain ⟨l, q, moved⟩ := v.contention_eq
        have forgotten : v.osw = { s.osw with awaiting := rest, ownEdges := own, mismatches := 0, counted := none } := by
          simp [← hv, osw]
        have role : v.spe.role = s.spe.role := by simp [← hv, spe]
        have line : v.lct = s.lct := by simp [← hv, lct]
        rw [hv]
        refine ⟨by simp [moved, forgotten], fun holding offering => ?_, fun holder mode unstuck busy room waiting => ?_⟩
        · rw [State.contention_of_other (by rwa [role]) (by rwa [role]), ← hv]
          exact outside _
        · rw [State.contention_of_room (by rwa [role]) (by rwa [line]) (by rwa [line]) (by rwa [line]) (by rwa [line]) (by rwa [line])]
          refine ⟨by simp [line], ?_⟩
          simp [State.agreesOutside_iff, follows, ← hv, ← hu, State.oldestTaken]
end

section
/-!
SUPPORT. The engine's timers (R100, R102, R104, R106, R107): what the bid check makes of a node in STANDBY, and a round won or lost.
-/

namespace Sys2Proof.Machine

section
variable {s : State} {due : Moment}

theorem exec_joinWindowExpiry (runs : s.spe.joinWindow = some due) :
    exec .joinWindowExpiry s = .next (s.advanceTo due).joinExpires.settled := by
  simp [exec, execJoinWindowExpiry, done_eq, runs]

theorem exec_seatWaitExpiry (runs : s.spe.seatWait = some due) :
    exec .seatWaitExpiry s = .next (s.advanceTo due).seatWaitExpires.settled := by
  simp [exec, execSeatWaitExpiry, done_eq, runs]

theorem exec_bidWindowExpiry (runs : s.spe.bidWindow = some due) :
    exec .bidWindowExpiry s = .next (s.advanceTo due).bidExpires.settled := by
  simp [exec, execBidWindowExpiry, done_eq, runs]

end

/-! ## The bid check (R102, R104) -/

/-- A view, a board that is not READY or a stuck line: no bid (R102). -/
theorem State.bidCheck_of_unfit {s : State} (unfit : ¬(s.spe.view = none ∧ s.bsv.board = .ready ∧ s.lct.stuck = false)) :
    s.bidCheck = s := by
  rw [State.bidCheck_eq, if_neg]
  rintro ⟨-, view, board, stuck, -⟩
  exact unfit ⟨view, board, stuck⟩

/-- A node in STANDBY that may bid does so alone (R102, R104). -/
theorem State.bidCheck_bids {s : State} (standby : s.spe.role = .standby) (wait : s.spe.seatWait = none)
    (fit : s.spe.view = none ∧ s.bsv.board = .ready ∧ s.lct.stuck = false) :
    s.bidCheck.spe.role = .bidding ∧ s.bidCheck.spe.view = none ∧ s.bidCheck.spe.bidSet = [s.rank] ∧
    s.bidCheck.spe.bidWindow = some (s.now + 2400000) := by
  obtain ⟨view, board, stuck⟩ := fit
  rw [State.bidCheck_eq, if_pos ⟨standby, view, board, stuck, wait⟩]
  exact s.beginBid_spe stuck

/-- What is stopped or cleared before the bid check is so after it: BIDDING keeps none of it (R104). -/
theorem State.bidCheck_stopped (s : State) :
    (s.spe.joinWindow = none → s.bidCheck.spe.joinWindow = none) ∧ (s.spe.seatWait = none → s.bidCheck.spe.seatWait = none) ∧
    (s.spe.passTimer = none → s.bidCheck.spe.passTimer = none) ∧ (s.spe.accepted = none → s.bidCheck.spe.accepted = none) := by
  rw [State.bidCheck_eq]
  split
  · next bids =>
    obtain ⟨standby, -, -, stuck, -⟩ := bids
    rw [State.beginBid_spe_of_unstuck none stuck (by simp [standby])]
    exact ⟨fun _ => rfl, fun _ => rfl, fun _ => rfl, fun _ => rfl⟩
  · exact ⟨id, id, id, id⟩

/-! ## The bid window (R106) -/

theorem State.winsRound_iff (s : State) : s.winsRound = true ↔ (∀ r ∈ s.spe.bidSet, s.rank ≤ r) ∧ s.bsv.board = .ready := by
  simp [State.winsRound]

/-- A round won: HOLDING with its own rank in view, then SEATED, by a node that is the lowest of its bid set. -/
theorem State.bidExpires_of_won {s : State} (won : (∀ r ∈ s.spe.bidSet, s.rank ≤ r) ∧ s.bsv.board = .ready) :
    s.bidExpires = ({ s with spe := { s.spe with view := some s.rank } }.setRole .holding).send seatedRequest := by
  rw [State.bidExpires, if_pos (s.winsRound_iff.mpr won)]
  rfl

/-- A round lost: the engine in STANDBY waits 200 ms for the winner's claim, and the line is left. -/
theorem State.bidExpires_of_lost {s : State} (bidding : s.spe.role = .bidding)
    (lost : (∃ r ∈ s.spe.bidSet, r < s.rank) ∨ s.bsv.board ≠ .ready) :
    s.bidExpires.spe = { { s.spe with view := none }.enterRole .standby with seatWait := some (s.now + 9600000) } ∧
    s.bidExpires.lct = s.lct := by
  have loses : ¬s.winsRound = true := by
    rw [State.winsRound_iff]
    rintro ⟨lowest, ready⟩
    rcases lost with ⟨r, mem, lower⟩ | unready
    · exact absurd lower (Nat.not_lt.mpr (lowest r mem))
    · exact unready ready
  rw [State.bidExpires, if_neg loses]
  simp [State.loseRound, State.setRole_spe, bidding, seatWaitTime, State.after, ms, ticksPerMs]

/-- Won or lost, the round is over. -/
theorem State.bidExpires_ends {s : State} (bidding : s.spe.role = .bidding) :
    s.bidExpires.spe.bidWindow = none ∧ s.bidExpires.spe.bidSet = [] := by
  unfold State.bidExpires State.seatByBid
  split
  · obtain ⟨v, hv⟩ : ∃ v, { s with spe := { s.spe with view := some s.rank } }.setRole .holding = v := ⟨_, rfl⟩
    obtain ⟨l, q, sent, -⟩ := v.send_seated
    rw [hv, sent]
    simp [← hv, State.setRole_spe, bidding, Spe.enterRole]
  · simp [State.loseRound, State.setRole_spe, bidding, Spe.enterRole]

/-- The end of a round tells the roster nothing. -/
@[simp] theorem State.bidExpires_roster (s : State) : s.bidExpires.roster = s.roster := by
  unfold State.bidExpires State.seatByBid State.loseRound
  split
  · rw [State.send_roster_of_all _ _ rfl]
    simp
  · simp

end Sys2Proof.Machine
end

section
open Sys2Proof.Machine

/-- Settles O43: join window and seat wait by what the bid check makes of STANDBY (`State.bidCheck_bids`, `State.bidCheck_of_unfit`), the
bid window by `State.bidExpires_of_won` and `State.bidExpires_of_lost`. -/
theorem joinAndBidTimersEnd : Obligations.JoinAndBidTimersEnd := by
  intro s due now bids
  obtain ⟨u, hu⟩ : ∃ u, s.advanceTo due = u := ⟨_, rfl⟩
  have same : u.now = now ∧ u.spe = s.spe ∧ u.lct = s.lct ∧ u.bsv = s.bsv ∧ u.rank = s.rank := by simp [← hu, now]
  obtain ⟨now', spe, lct, bsv, rank⟩ := same
  refine ⟨fun runs startup wait => ?_, fun runs standby => ?_, fun runs bidding => ?_⟩
  · refine ⟨_, exec_joinWindowExpiry runs, ?_⟩
    rw [hu, State.joinExpires]
    obtain ⟨v, hv⟩ : ∃ v, u.setRole .standby = v := ⟨_, rfl⟩
    have engine : v.spe = s.spe.enterRole .standby := by simp [← hv, State.setRole_spe, spe, startup]
    have fit : v.spe.view = none ∧ v.bsv.board = .ready ∧ v.lct.stuck = false ↔ bids := by
      simp [← hv, spe, bsv, lct, bids]
    obtain ⟨join, -⟩ := v.bidCheck_stopped
    rw [hv]
    refine ⟨?_, ?_, fun h => ?_, fun h => ?_, ?_⟩
    · simp [← hv, now']
    · simpa using join (by rw [engine]; rfl)
    · rw [State.bidCheck_of_unfit (by rwa [fit])]
      refine ⟨by simp [engine], by simp [engine], ?_⟩
      simp [State.agreesOutside_iff, follows, reached, ← hv, ← hu]
    · have begun := State.bidCheck_bids (s := v) (by simp [engine]) (by simp [engine, Spe.enterRole, wait]) (fit.mpr h)
      simpa [← hv, rank, now'] using begun
    · simp [State.agreesOutside_iff, follows, reached, ← hv, ← hu]
  · refine ⟨_, exec_seatWaitExpiry runs, ?_⟩
    rw [hu, State.seatWaitExpires]
    obtain ⟨v, hv⟩ : ∃ v : State, { u with spe := { u.spe with seatWait := none } } = v := ⟨_, rfl⟩
    have engine : v.spe = { s.spe with seatWait := none } := by simp [← hv, spe]
    have fit : v.spe.view = none ∧ v.bsv.board = .ready ∧ v.lct.stuck = false ↔ bids := by
      simp [← hv, spe, bsv, lct, bids]
    obtain ⟨-, stopped, -⟩ := v.bidCheck_stopped
    rw [hv]
    refine ⟨?_, ?_, fun h => ?_, fun h => ?_, ?_⟩
    · simp [← hv, now']
    · simpa using stopped (by rw [engine])
    · rw [State.bidCheck_of_unfit (by rwa [fit])]
      refine ⟨by simp [engine], ?_⟩
      simp [State.agreesOutside_iff, follows, ← hv, ← hu]
    · have begun := State.bidCheck_bids (s := v) (by simp [engine, standby]) (by simp [engine]) (fit.mpr h)
      simpa [← hv, rank, now'] using begun
    · simp [State.agreesOutside_iff, follows, reached, ← hv, ← hu]
  · refine ⟨_, exec_bidWindowExpiry runs, ?_⟩
    rw [hu]
    obtain ⟨window, bidSet⟩ := State.bidExpires_ends (s := u) (by rw [spe]; exact bidding)
    refine ⟨?_, ?_, ?_, fun won => ?_, fun lost => ?_, ?_⟩
    · simp [now']
    · simpa using window
    · simpa using bidSet
    · rw [State.bidExpires_of_won (by rwa [spe, rank, bsv])]
      obtain ⟨v, hv⟩ : ∃ v, { u with spe := { u.spe with view := some u.rank } }.setRole .holding = v := ⟨_, rfl⟩
      have change : ({ u with spe := { u.spe with view := some u.rank } } : State).spe.role ≠ .holding := by simp [spe, bidding]
      obtain ⟨video, audio, -⟩ := State.setRole_osw change
      have cnu := State.setRole_cnu change
      have line : v.lct = s.lct := by simp [← hv, lct]
      have engine : v.spe.role = .holding ∧ v.spe.view = some s.rank := by simp [← hv, rank]
      obtain ⟨holding, view⟩ := engine
      obtain ⟨l, q, sent, -⟩ := v.send_seated
      rw [hv] at video audio cnu ⊢
      refine ⟨by simp [sent, holding], by simp [sent, view], by simp [sent, cnu, dutyOf], by simp [sent, video, holdsScreen],
        by simp [sent, audio], fun mode unstuck busy room fresh => ?_⟩
      rw [State.send_of_room seatedRequest (by rwa [line]) (by rwa [line]) (by rwa [line]) (by rwa [line]) (by rwa [line])]
      simp [line, State.buildFrame, State.buildBody, seatedRequest]
    · obtain ⟨engine, line⟩ := State.bidExpires_of_lost (s := u) (by rw [spe]; exact bidding) (by rwa [spe, rank, bsv])
      simp [engine, line, now', lct, Spe.enterRole]
    · simp [State.agreesOutside_iff, follows, reached, ← hu]
end

section
/-!
SUPPORT. The timers of a handover (R121, R124, R132, R141).
-/

namespace Sys2Proof.Machine

section
variable {s : State} {due : Moment}

theorem exec_answerTimerExpiry (runs : s.spe.answerTimer = some due) :
    exec .answerTimerExpiry s = .next ((s.advanceTo due).offerFails .noAnswer).settled := by
  simp [exec, execAnswerTimerExpiry, done_eq, runs]

theorem exec_coinQuietExpiry (runs : s.spe.coinQuiet = some due) :
    exec .coinQuietExpiry s = .next (s.advanceTo due).issuePass.settled := by
  simp [exec, execCoinQuietExpiry, done_eq, runs]

theorem exec_passTimerExpiry (runs : s.spe.passTimer = some due) :
    exec .passTimerExpiry s = .next (s.advanceTo due).leaveAccepted.bidCheck.settled := by
  simp [exec, execPassTimerExpiry, done_eq, runs]

end

/-- A menu that does not wait is not told of the failure (R134). -/
theorem State.offerFails_mnu_of_calm {s : State} (reason : Notice) (calm : s.mnu.state ≠ .wait) : (s.offerFails reason).mnu = s.mnu := by
  have same : (s.setRole .holding).mnu = s.mnu := s.setRole_mnu_of_holdsScreen rfl
  rw [State.offerFails, State.menuHandoverFailed, same]
  split
  · next waits => exact absurd waits calm
  · exact same

/-- The requests that HOLDING keeps (R98). -/
theorem State.offerFails_requests {s : State} (reason : Notice) (offering : s.spe.role = .offering) :
    (s.offerFails reason).spe.requests = s.spe.requests.filter (fun r => r.serves .holding) := by
  simp [State.setRole_spe, offering, Spe.enterRole]

/-- The engine and the coin unit with the carried counts frozen, before PASS is sent (R124, R141). -/
def State.passFrozen (s : State) : State :=
  { s.coinFreeze with spe := { s.spe with coinQuiet := none, frozen := some (s.cnu.one.carried, s.cnu.two.carried), passIssued := true } }

theorem State.issuePass_of_target {s : State} {target : Rank} (handover : s.spe.target = some target) :
    s.issuePass = s.passFrozen.send (passRequest target) := by
  simp only [State.issuePass, State.passFrozen, CoinUnit.carriedCounts, handover]

/-- A target that leaves ACCEPTED is in STANDBY, without pass timer and accepted number; the line is left (R132). -/
theorem State.leaveAccepted_spe {s : State} (accepted : s.spe.role = .accepted) :
    s.leaveAccepted.spe = { s.spe with view := s.viewFromBus }.enterRole .standby := by
  simp [State.leaveAccepted, State.setRole_spe, accepted]

end Sys2Proof.Machine
end

section
open Sys2Proof.Machine

/-- Settles O44: the answer timer by `State.offerFails`, the coin quiet timer by `State.passFrozen`, the pass timer by
`State.leaveAccepted_spe` and the bid check. -/
theorem handoverTimersEnd : Obligations.HandoverTimersEnd := by
  intro s due now
  obtain ⟨u, hu⟩ : ∃ u, s.advanceTo due = u := ⟨_, rfl⟩
  have same : u.now = now ∧ u.spe = s.spe ∧ u.lct = s.lct ∧ u.bsv = s.bsv ∧ u.rank = s.rank ∧ u.mnu = s.mnu ∧ u.cnu = s.cnu ∧
      u.bus = s.bus := by simp [← hu, now]
  obtain ⟨now', spe, lct, bsv, rank, mnu, cnu, bus⟩ := same
  refine ⟨fun runs offering => ?_, fun runs unstuck target handover => ?_, fun runs accepted => ?_⟩
  · refine ⟨_, exec_answerTimerExpiry runs, ?_⟩
    have role : u.spe.role = .offering := by rw [spe]; exact offering
    obtain ⟨-, -, target, timer, -⟩ := State.offerFails_of_offering .noAnswer role
    have requests := State.offerFails_requests .noAnswer role
    rw [hu]
    refine ⟨by simp [now'], by simp, by simpa using target, by simpa using timer, ?_, fun waits => ?_, fun calm => ?_, ?_⟩
    · rw [State.settled_spe, requests, spe]
    · have told := State.offerFails_mnu (s := u) .noAnswer (by rw [mnu]; exact waits)
      simp [told, now']
    · simp [State.offerFails_mnu_of_calm (s := u) .noAnswer (by rw [mnu]; exact calm), mnu]
    · simp [State.agreesOutside_iff, follows, reached, ← hu]
  · refine ⟨_, exec_coinQuietExpiry runs, ?_⟩
    rw [hu, State.issuePass_of_target (by rw [spe]; exact handover)]
    obtain ⟨v, hv⟩ : ∃ v, u.passFrozen = v := ⟨_, rfl⟩
    have line : v.lct = s.lct := by rw [← hv, ← lct]; rfl
    have engine : v.spe = { s.spe with
        coinQuiet := none, frozen := some (s.cnu.one.carried, s.cnu.two.carried), passIssued := true } := by
      rw [← hv, ← spe, ← cnu]
      rfl
    have coins : v.cnu = { s.cnu with duty := .late } := by rw [← hv, ← cnu]; rfl
    have time : v.now = now := by rw [← hv, ← now']; rfl
    obtain ⟨l, q, sent⟩ := v.send_of_unstuck (passRequest target) (by rwa [line])
    rw [hv]
    refine ⟨by simp [sent, time], by simp [sent, engine], by simp [sent, engine], by simp [sent, engine], by simp [sent, coins],
      by simp [sent, engine], fun mode busy room fresh => ?_⟩
    rw [State.send_of_room (passRequest target) (by rwa [line]) (by rwa [line]) (by rwa [line]) (by rwa [line]) (by rwa [line])]
    refine ⟨by simp [line, engine, State.buildFrame, State.buildBody, passRequest], ?_⟩
    simp [State.agreesOutside_iff, follows, ← hv, ← hu, State.passFrozen, State.coinFreeze]
  · refine ⟨_, exec_passTimerExpiry runs, ?_⟩
    have left := State.leaveAccepted_spe (s := u) (by rw [spe]; exact accepted)
    obtain ⟨v, hv⟩ : ∃ v, u.leaveAccepted = v := ⟨_, rfl⟩
    have same : v.lct = s.lct ∧ v.bsv = s.bsv ∧ v.rank = s.rank ∧ v.now = now := by simp [← hv, lct, bsv, rank, now']
    obtain ⟨line, board, own, time⟩ := same
    obtain ⟨-, -, timer, key⟩ := v.bidCheck_stopped
    have live (h : s.bus.silence = .live) : u.viewFromBus = s.spe.view := by simp [State.viewFromBus, bus, h, spe]
    have silent (h : s.bus.silence = .silent) : u.viewFromBus = none := by simp [State.viewFromBus, bus, h]
    rw [hu, hv]
    rw [hv] at left
    refine ⟨?_, ?_, ?_, fun isLive viewed => ?_, fun isSilent unfit => ?_, fun isSilent ready unstuck wait => ?_, ?_⟩
    · simp [time]
    · simpa using timer (by rw [left]; rfl)
    · simpa using key (by rw [left]; rfl)
    · rw [State.bidCheck_of_unfit (by simp [left, live isLive, viewed])]
      simp [left, live isLive, line]
    · rw [State.bidCheck_of_unfit (by rw [board, line]; rintro ⟨-, ready, unstuck⟩; simp [ready, unstuck] at unfit)]
      simp [left, silent isSilent, line]
    · have begun := State.bidCheck_bids (s := v) (by simp [left]) (by simp [left, Spe.enterRole, spe, wait])
        ⟨by simp [left, silent isSilent], by rw [board]; exact ready, by rw [line]; exact unstuck⟩
      simp [begun, own]
    · simp [State.agreesOutside_iff, follows, reached, ← hv, ← hu]
end

section
/-!
SUPPORT. PASS taken (R128, R129, R144).
-/

namespace Sys2Proof.Machine

/-! ## OFFER and PASS at the roster (R85) -/

/-- Either tells the roster that its sender is there, and nothing else. -/
theorem State.takeEntry_entry_of_handover {s : State} {e : RxEntry}
    (body : (∃ n, e.frame.body = .offer n) ∨ ∃ n c1 c2, e.frame.body = .pass n c1 c2) (peer : e.sender ≠ s.rank) :
    (s.takeEntry e).roster[e.sender].presence = .present := by
  have taken : s.takeEntry e = ({ s with lct := { s.lct with rxq := s.lct.rxq.tail } } : State).rosterPresent e.sender := by
    rcases body with ⟨n, body⟩ | ⟨n, c1, c2, body⟩ <;> simp only [State.takeEntry, State.rosterTake, body]
  rw [taken, State.rosterPresent_get (by exact peer)]

theorem exec_passTaken {s : State} {e : RxEntry} {n : HandoverNumber} {c1 c2 : Nat} (head : s.lct.rxq.head? = some e)
    (unheld : e.held = false) (body : e.frame.body = .pass n c1 c2) :
    exec .passTaken s = .next ((s.takeEntry e).passHeard e.sender n c1 c2).settled := by
  have kind : e.frame.kind = .pass := by rw [Frame.kind, body]; rfl
  have oldest := s.oldestEntry_of_head head unheld
  rw [kind] at oldest
  rw [exec, execPassTaken, done_eq, oldest]
  simp only [body]

/-! ## The coins that join (R140, R144) -/

/-- COIN OVERFLOW is latched where a pending count would exceed 31; the IDLE check leaves the latch (R140, R145). -/
theorem State.addPending_overflow (s : State) (ch : Channel) (more : Nat) :
    (s.addPending ch more).cnu.overflow = true ↔ s.cnu.overflow = true ∨ 31 < (s.cnu.chan ch).pending + more := by
  have checked (u : State) : (u.idleCheck ch).cnu.overflow = u.cnu.overflow := by
    rw [State.idleCheck_cnu]
    split
    · exact CoinUnit.setChan_overflow ..
    · rfl
  have exceeds (count : Nat) : coinsOverflow count more = true ↔ 31 < count + more := decide_eq_true_iff
  simp only [State.addPending, checked, Bool.or_eq_true, exceeds]

/-- Each channel takes the coins carried for it. -/
theorem State.coinSeated_counts (s : State) (c1 c2 : Nat) :
    (s.coinSeated c1 c2).cnu.one.pending = min 31 (s.cnu.one.pending + c1) ∧
    (s.coinSeated c1 c2).cnu.two.pending = min 31 (s.cnu.two.pending + c2) ∧
    ((s.coinSeated c1 c2).cnu.overflow = true ↔
      s.cnu.overflow = true ∨ 31 < s.cnu.one.pending + c1 ∨ 31 < s.cnu.two.pending + c2) := by
  obtain ⟨one, -⟩ := s.addPending_counts .one .one c1
  obtain ⟨two, -⟩ := s.addPending_counts .one .two c1
  obtain ⟨one', -⟩ := (s.addPending .one c1).addPending_counts .two .one c2
  obtain ⟨two', -⟩ := (s.addPending .one c1).addPending_counts .two .two c2
  rw [if_pos rfl] at one two'
  rw [if_neg Channel.noConfusion] at two one'
  refine ⟨one'.trans one, two'.trans (by rw [two]; rfl), ?_⟩
  rw [State.coinSeated, State.addPending_overflow, State.addPending_overflow, two, or_assoc]
  rfl

/-! ## Seating (R128, R144) -/

/-- The view and the marks of the target before it seats (R128). -/
def State.passRemembered (s : State) (h : Rank) (n : HandoverNumber) : State :=
  { s with spe := { s.spe with view := some s.rank, lastPass := some { sender := h, number := n }, accepted := none } }

/-- The target in HOLDING with the coins of the PASS, before it sends SEATED (R128, R144). -/
def State.passSeated (s : State) (h : Rank) (n : HandoverNumber) (c1 c2 : Nat) : State :=
  ((s.passRemembered h n).setRole .holding).coinSeated c1 c2

theorem State.passHeard_eq (s : State) (h : Rank) (n : HandoverNumber) (c1 c2 : Nat) :
    s.passHeard h n c1 c2 =
      if s.spe.role = .accepted ∧ s.spe.accepted = some { sender := h, number := n } then
        (s.passSeated h n c1 c2).send seatedRequest
      else s := by
  cases role : s.spe.role <;> simp [State.passHeard, role, State.seatByPass, State.passSeated, State.passRemembered]

section
variable {s : State} (h : Rank) (n : HandoverNumber) (c1 c2 : Nat)

@[simp] theorem State.passSeated_frame :
    (s.passSeated h n c1 c2).now = s.now ∧ (s.passSeated h n c1 c2).rank = s.rank ∧ (s.passSeated h n c1 c2).cfg = s.cfg ∧
    (s.passSeated h n c1 c2).cfl = s.cfl ∧ (s.passSeated h n c1 c2).ssl = s.ssl ∧ (s.passSeated h n c1 c2).pcl = s.pcl ∧
    (s.passSeated h n c1 c2).tmu = s.tmu ∧ (s.passSeated h n c1 c2).bsv = s.bsv ∧ (s.passSeated h n c1 c2).lct = s.lct ∧
    (s.passSeated h n c1 c2).roster = s.roster ∧ (s.passSeated h n c1 c2).lamps = s.lamps ∧
    (s.passSeated h n c1 c2).pending = s.pending := by
  simp [State.passSeated, State.passRemembered]

variable (accepted : s.spe.role = .accepted)
include accepted

theorem State.passSeated_spe :
    (s.passSeated h n c1 c2).spe = (s.passRemembered h n).spe.enterRole .holding := by
  simp [State.passSeated, State.setRole_spe, State.passRemembered, accepted]

/-- The seat shows its picture and hears its sound (R97). -/
theorem State.passSeated_osw :
    (s.passSeated h n c1 c2).osw.video = .isClosed ∧ (s.passSeated h n c1 c2).osw.audio = .isClosed ∧
    (s.passSeated h n c1 c2).osw.passBlack = false := by
  have change : (s.passRemembered h n).spe.role ≠ .holding := by simp [State.passRemembered, accepted]
  simpa [State.passSeated, holdsScreen] using State.setRole_osw change

/-- Its coins are its own, the carried ones joined to the pending ones (R138, R140, R144). -/
theorem State.passSeated_cnu :
    (s.passSeated h n c1 c2).cnu.duty = .own ∧
    (s.passSeated h n c1 c2).cnu.one.pending = min 31 (s.cnu.one.pending + c1) ∧
    (s.passSeated h n c1 c2).cnu.two.pending = min 31 (s.cnu.two.pending + c2) ∧
    ((s.passSeated h n c1 c2).cnu.overflow = true ↔
      s.cnu.overflow = true ∨ 31 < s.cnu.one.pending + c1 ∨ 31 < s.cnu.two.pending + c2) := by
  have change : (s.passRemembered h n).spe.role ≠ .holding := by simp [State.passRemembered, accepted]
  have cnu := State.setRole_cnu change
  unfold State.passSeated
  obtain ⟨-, duty, -⟩ := State.coinSeated_drive ((s.passRemembered h n).setRole .holding) c1 c2
  obtain ⟨one, two, latched⟩ := State.coinSeated_counts ((s.passRemembered h n).setRole .holding) c1 c2
  rw [cnu] at duty one two latched
  exact ⟨duty, one, two, latched⟩

end

end Sys2Proof.Machine
end

section
open Sys2Proof.Machine

/-- Settles O42: by `State.passHeard_eq`, the seat as `State.passSeated` leaves it, and SEATED sent. -/
theorem passSeatsTarget : Obligations.PassSeatsTarget := by
  intro s e head unheld n c1 c2 body key seats
  refine ⟨_, exec_passTaken head unheld body, ?_⟩
  obtain ⟨u, hu⟩ : ∃ u, s.takeEntry e = u := ⟨_, rfl⟩
  have same : u.spe = s.spe ∧ u.rank = s.rank ∧ u.now = s.now ∧ u.cnu = s.cnu ∧ u.lct = { s.lct with rxq := s.lct.rxq.tail } := by
    simp [← hu]
  obtain ⟨spe, rank, now, cnu, lct⟩ := same
  have heard := u.passHeard_eq e.sender n c1 c2
  obtain ⟨l, q, sent, rxq, -⟩ := (u.passSeated e.sender n c1 c2).send_seated
  have kept : (u.passHeard e.sender n c1 c2).roster = u.roster ∧ (u.passHeard e.sender n c1 c2).lct.rxq = u.lct.rxq := by
    rw [heard]
    split
    · simp [sent, rxq]
    · exact ⟨rfl, rfl⟩
  obtain ⟨roster, rxq'⟩ := kept
  rw [spe] at heard
  rw [hu]
  refine ⟨by simp [now], by simp [rxq', lct], fun peer => ?_, fun ⟨accepted, offer⟩ => ?_, fun other => ?_, ?_⟩
  · rw [State.settled_entry, State.entry_of_peer (by simpa [rank] using peer), roster, ← hu]
    exact State.takeEntry_entry_of_handover (.inr ⟨n, c1, c2, body⟩) peer
  · have accepted' : u.spe.role = .accepted := by rw [spe]; exact accepted
    rw [if_pos ⟨accepted, offer⟩] at heard
    have engine := State.passSeated_spe e.sender n c1 c2 accepted'
    obtain ⟨video, audio, black⟩ := State.passSeated_osw e.sender n c1 c2 accepted'
    obtain ⟨duty, one, two, latched⟩ := State.passSeated_cnu e.sender n c1 c2 accepted'
    rw [cnu] at one two latched
    obtain ⟨v, hv⟩ : ∃ v, u.passSeated e.sender n c1 c2 = v := ⟨_, rfl⟩
    have line : v.lct = { s.lct with rxq := s.lct.rxq.tail } := by simp [← hv, lct]
    rw [hv] at heard engine video audio black duty one two latched sent
    simp only [heard, State.settled_frame]
    refine ⟨by simp [sent, engine], by simp [sent, engine, State.passRemembered, rank],
      by simp [sent, engine, key, Spe.enterRole, State.passRemembered], by simp [sent, engine, Spe.enterRole, State.passRemembered],
      by simp [sent, engine, Spe.enterRole], by simp [sent, duty], by simp [sent, one],
      by simp [sent, two], by simp [sent, latched], by simp [sent, video], by simp [sent, audio], by simp [sent, black],
      fun mode unstuck busy room fresh => ?_⟩
    rw [State.send_txq seatedRequest (by rwa [line]) (by rwa [line]) (by rwa [line]) (by rwa [line]) (by rwa [line]), line]
    rfl
  · rw [heard, if_neg other, ← hu]
    simp [State.agreesOutside_iff, follows]
  · simp [State.agreesOutside_iff, follows, reached, ← hu]
end

section
/-!
SUPPORT. OFFER taken (R115, R117, R118).
-/

namespace Sys2Proof.Machine

theorem exec_offerTaken {s : State} {e : RxEntry} {n : HandoverNumber} (head : s.lct.rxq.head? = some e) (unheld : e.held = false)
    (body : e.frame.body = .offer n) : exec .offerTaken s = .next ((s.takeEntry e).offerHeard e.sender n).settled := by
  have kind : e.frame.kind = .offer := by rw [Frame.kind, body]; rfl
  have oldest := s.oldestEntry_of_head head unheld
  rw [kind] at oldest
  rw [exec, execOfferTaken, done_eq, oldest]
  simp only [body]

/-! ## ANSWER sent (R98, R117) -/

/-- An ANSWER reported moves roster and cursor, and the pass timer of an accepted YES (R89, R118). -/
theorem State.report_of_answer (s : State) (rep : Report) (k : Rank) (n : HandoverNumber) (yes : Bool) (reason : AnswerReason)
    (board : BoardState) :
    ∃ p o m, s.report rep (Frame.mk (.rank k) (.answer n yes reason board)) =
        { s with roster := o, mnu := m, spe := { s.spe with passTimer := p } } ∧
      (p = s.spe.passTimer ∨ yes = true ∧ p = some (s.now + 48000000)) := by
  have noted : ∃ o m, s.rosterReport rep (Frame.mk (.rank k) (.answer n yes reason board)) = { s with roster := o, mnu := m } := by
    have entered (x : RosterEntry) : ∃ o, s.setEntry k x = { s with roster := o } := by
      unfold State.setEntry
      split
      · exact ⟨s.roster, rfl⟩
      · exact ⟨_, rfl⟩
    cases rep with
    | delivered =>
      obtain ⟨o, present⟩ := entered { s.roster[k] with presence := .present }
      exact ⟨o, s.mnu, present⟩
    | undelivered =>
      obtain ⟨o, silent⟩ := entered { s.roster[k] with presence := .silent }
      simp only [State.rosterReport, State.rosterSilent, silent]
      split
      · exact ⟨o, _, rfl⟩
      · exact ⟨o, s.mnu, rfl⟩
    | unheard => exact ⟨s.roster, s.mnu, rfl⟩
  obtain ⟨o, m, noted⟩ := noted
  rw [State.report_eq _ _ (by exact FrameKind.noConfusion), noted, State.roleReport_of_answer]
  split
  · next restarts =>
    obtain ⟨-, accepts, -⟩ := restarts
    exact ⟨_, o, m, rfl, .inr ⟨accepts, rfl⟩⟩
  · exact ⟨s.spe.passTimer, o, m, rfl, .inl rfl⟩

/-- The state with the record of an answer, before ANSWER is sent (R117). -/
def State.recorded (s : State) (h : Rank) (a : AnswerRecord) : State :=
  { s with spe := { s.spe with answers := s.spe.answers.set h (some a) } }

/-- The ANSWER of a node that has just recorded it (R117, R119). -/
theorem State.recorded_frame (s : State) (h : Rank) (a : AnswerRecord) :
    (s.recorded h a).buildFrame (answerRequest h) = Frame.mk (.rank h) (.answer a.number a.yes a.reason s.bsv.board) := by
  simp [State.buildFrame, State.buildBody, answerRequest, State.recorded]

/-- An answer moves the line, its record and the requests; reported at once, on a stuck line, also roster, cursor and the pass timer
of a YES (R80, R117, R118). -/
theorem State.answerOffer_eq (s : State) (h : Rank) (n : HandoverNumber) (yes : Bool) (reason : AnswerReason) :
    ∃ l q p o m, s.answerOffer h n yes reason = { s with
        lct := l, roster := o, mnu := m, spe := { s.spe with
          answers := s.spe.answers.set h (some { number := n, yes := yes, reason := reason }), requests := q, passTimer := p } } ∧
      l.rxq = s.lct.rxq ∧ (s.lct.stuck = false → o = s.roster) ∧
      (p = s.spe.passTimer ∨ yes = true ∧ p = some (s.now + 48000000)) := by
  have sent : s.answerOffer h n yes reason = (s.recorded h ⟨n, yes, reason⟩).send (answerRequest h) := rfl
  rw [sent]
  unfold State.send
  split
  · rw [Spe.recordRequest_eq]
    exact ⟨s.lct, _, s.spe.passTimer, s.roster, s.mnu, rfl, rfl, fun _ => rfl, .inl rfl⟩
  · unfold State.tryEnqueue
    split
    · next reported =>
      have stuck : s.lct.stuck ≠ false := fun unstuck => s.lct.answerTo_ne_reported _ unstuck reported
      rw [State.recorded_frame]
      obtain ⟨p, o, m, moved, timer⟩ := (s.recorded h ⟨n, yes, reason⟩).report_of_answer
        (failedReport (Frame.mk (.rank h) (.answer n yes reason s.bsv.board))) h n yes reason s.bsv.board
      exact ⟨s.lct, s.spe.requests, p, o, m, moved, rfl, fun unstuck => absurd unstuck stuck, timer⟩
    · obtain ⟨-, -, -, rxq⟩ := s.lct.enqueue_flags s.now ((s.recorded h ⟨n, yes, reason⟩).buildFrame (answerRequest h))
      exact ⟨_, s.spe.requests, s.spe.passTimer, s.roster, s.mnu, rfl, rxq, fun _ => rfl, .inl rfl⟩

theorem State.answerOffer_record (s : State) (h : Rank) (n : HandoverNumber) (yes : Bool) (reason : AnswerReason) :
    (s.answerOffer h n yes reason).spe.answers[h] = some { number := n, yes := yes, reason := reason } := by
  obtain ⟨l, q, p, o, m, sent, -⟩ := s.answerOffer_eq h n yes reason
  simp [sent]

/-- On a working line with room the ANSWER joins the queue (R76, R117). -/
theorem State.answerOffer_txq {s : State} (h : Rank) (n : HandoverNumber) (yes : Bool) (reason : AnswerReason)
    (mode : s.lct.mode = .running) (unstuck : s.lct.stuck = false) (busy : s.lct.phase ≠ .idle) (room : s.lct.txq.length < 4)
    (fresh : ∀ f ∈ s.lct.txq.tail, f.kind ≠ .answer) :
    (s.answerOffer h n yes reason).lct.txq = s.lct.txq ++ [Frame.mk (.rank h) (.answer n yes reason s.bsv.board)] := by
  have sent := State.send_txq (s := s.recorded h ⟨n, yes, reason⟩) (answerRequest h) mode unstuck busy room fresh
  rw [State.recorded_frame] at sent
  exact congrArg LineController.txq sent

/-! ## The rows of the table (R117) -/

/-- The rows that say YES: the accepted offer again, and a new one that a READY node in STANDBY is free to take (R117). -/
abbrev Spe.Accepts (e : Spe) (board : BoardState) (key : OfferKey) : Prop :=
  e.role = .accepted ∧ e.accepted = some key ∨
    e.role = .standby ∧ board = .ready ∧ e.recovering = false ∧ e.lastPass ≠ some key

/-- The reason of the first row that applies (R117). -/
def Spe.offerReason (e : Spe) (board : BoardState) (key : OfferKey) : AnswerReason :=
  if e.Accepts board key then .none
  else if e.role = .standby ∧ board ≠ .ready then .notReady
  else if e.role = .standby ∧ e.recovering = true then .lineFault
  else .busy

/-- The node that says YES: in ACCEPTED it runs its pass timer anew, in STANDBY it enters ACCEPTED (R117, R118). -/
def State.offerTaken (s : State) (key : OfferKey) : State :=
  if s.spe.role = .accepted then { s with spe := { s.spe with passTimer := s.after passTime } }
  else s.enterAccepted key.sender key.number

/-- A node that is not withdrawn answers, by the first row that applies (R117). -/
theorem State.offerHeard_eq {s : State} (h : Rank) (n : HandoverNumber) (working : s.spe.role ≠ .withdrawn) :
    s.offerHeard h n =
      (if s.spe.Accepts s.bsv.board ⟨h, n⟩ then s.offerTaken ⟨h, n⟩ else s).answerOffer h n
        (decide (s.spe.Accepts s.bsv.board ⟨h, n⟩)) (s.spe.offerReason s.bsv.board ⟨h, n⟩) := by
  obtain ⟨r, role⟩ : ∃ r, s.spe.role = r := ⟨_, rfl⟩
  cases r
  case withdrawn => exact absurd role working
  case accepted =>
    by_cases again : s.spe.accepted = some ⟨h, n⟩ <;>
      simp [State.offerHeard, Spe.Accepts, Spe.offerReason, State.offerTaken, role, again]
  case standby =>
    by_cases ready : s.bsv.board = .ready
    · by_cases recovering : s.spe.recovering = true
      · simp [State.offerHeard, Spe.Accepts, Spe.offerReason, role, ready, recovering]
      · by_cases passed : s.spe.lastPass = some ⟨h, n⟩ <;>
          simp [State.offerHeard, Spe.Accepts, Spe.offerReason, State.offerTaken, role, ready, recovering, passed]
    · simp [State.offerHeard, Spe.Accepts, Spe.offerReason, role, ready]
  all_goals simp [State.offerHeard, Spe.Accepts, Spe.offerReason, role]

/-- A withdrawn node takes notice in the roster alone (R101). -/
theorem State.offerHeard_of_withdrawn {s : State} (h : Rank) (n : HandoverNumber) (withdrawn : s.spe.role = .withdrawn) :
    s.offerHeard h n = s := by
  simp [State.offerHeard, withdrawn]

/-- What YES makes of the engine: ACCEPTED with the pass timer of 1 s, from STANDBY with the offerer in view (R118). -/
theorem State.offerTaken_spe {s : State} {key : OfferKey} (yes : s.spe.Accepts s.bsv.board key) :
    (s.offerTaken key).spe.role = .accepted ∧ (s.offerTaken key).spe.accepted = some key ∧
    (s.offerTaken key).spe.passTimer = some (s.now + 48000000) ∧
    (s.spe.role = .standby → (s.offerTaken key).spe.view = some key.sender ∧ (s.offerTaken key).spe.seatWait = none) := by
  rcases yes with ⟨accepted, again⟩ | ⟨standby, -⟩
  · simp [State.offerTaken, accepted, again, passTime, ms, ticksPerMs]
  · simp [State.offerTaken, standby, State.enterAccepted, State.setRole_spe, Spe.enterRole, passTime, ms, ticksPerMs]

@[simp] theorem State.offerTaken_frame (s : State) (key : OfferKey) :
    (s.offerTaken key).now = s.now ∧ (s.offerTaken key).rank = s.rank ∧ (s.offerTaken key).bsv = s.bsv ∧
    (s.offerTaken key).lct = s.lct ∧ (s.offerTaken key).roster = s.roster := by
  unfold State.offerTaken
  split <;> simp

/-! ## An OFFER heard (R117, R118) -/

section
variable {s : State} (h : Rank) (n : HandoverNumber)

/-- An answer leaves the receive queue, and on a line that is not stuck the roster (R75, R76). -/
theorem State.offerHeard_kept :
    (s.offerHeard h n).lct.rxq = s.lct.rxq ∧ (s.lct.stuck = false → (s.offerHeard h n).roster = s.roster) := by
  by_cases working : s.spe.role = .withdrawn
  · rw [State.offerHeard_of_withdrawn h n working]
    exact ⟨rfl, fun _ => rfl⟩
  · obtain ⟨w, hw⟩ : ∃ w, (if s.spe.Accepts s.bsv.board ⟨h, n⟩ then s.offerTaken ⟨h, n⟩ else s) = w := ⟨_, rfl⟩
    have same : w.lct = s.lct ∧ w.roster = s.roster := by
      rw [← hw]
      split <;> simp
    obtain ⟨line, roster⟩ := same
    obtain ⟨l, q, p, o, m, sent, rxq, unreported, -⟩ := w.answerOffer_eq h n (decide (s.spe.Accepts s.bsv.board ⟨h, n⟩))
      (s.spe.offerReason s.bsv.board ⟨h, n⟩)
    rw [State.offerHeard_eq h n working, hw, sent, ← line, ← roster]
    exact ⟨rxq, unreported⟩

/-- The node records the answer it gives (R115, R117). -/
theorem State.offerHeard_answers (working : s.spe.role ≠ .withdrawn) :
    (s.offerHeard h n).spe.answers[h] = some {
      number := n, yes := decide (s.spe.Accepts s.bsv.board ⟨h, n⟩), reason := s.spe.offerReason s.bsv.board ⟨h, n⟩ } := by
  rw [State.offerHeard_eq h n working]
  exact State.answerOffer_record _ h n _ _

/-- The ANSWER joins the queue of a working line with room (R76). -/
theorem State.offerHeard_txq (working : s.spe.role ≠ .withdrawn) (mode : s.lct.mode = .running) (unstuck : s.lct.stuck = false)
    (busy : s.lct.phase ≠ .idle) (room : s.lct.txq.length < 4) (fresh : ∀ f ∈ s.lct.txq.tail, f.kind ≠ .answer) :
    (s.offerHeard h n).lct.txq = s.lct.txq ++ [Frame.mk (.rank h) (.answer n (decide (s.spe.Accepts s.bsv.board ⟨h, n⟩))
      (s.spe.offerReason s.bsv.board ⟨h, n⟩) s.bsv.board)] := by
  obtain ⟨w, hw⟩ : ∃ w, (if s.spe.Accepts s.bsv.board ⟨h, n⟩ then s.offerTaken ⟨h, n⟩ else s) = w := ⟨_, rfl⟩
  have same : w.lct = s.lct ∧ w.bsv = s.bsv := by
    rw [← hw]
    split <;> simp
  obtain ⟨line, board⟩ := same
  rw [State.offerHeard_eq h n working, hw, State.answerOffer_txq h n _ _ (by rwa [line]) (by rwa [line]) (by rwa [line])
    (by rwa [line]) (by rwa [line]), line, board]

/-- YES leaves the node in ACCEPTED with the offer, whatever became of the ANSWER (R118). -/
theorem State.offerHeard_of_yes (yes : s.spe.Accepts s.bsv.board ⟨h, n⟩) :
    (s.offerHeard h n).spe.role = .accepted ∧ (s.offerHeard h n).spe.accepted = some ⟨h, n⟩ ∧
    (s.offerHeard h n).spe.passTimer = some (s.now + 48000000) ∧
    (s.spe.role = .standby → (s.offerHeard h n).spe.view = some h ∧ (s.offerHeard h n).spe.seatWait = none) := by
  have working : s.spe.role ≠ .withdrawn := by
    intro withdrawn
    simp [Spe.Accepts, withdrawn] at yes
  obtain ⟨role, key, runs, view⟩ := State.offerTaken_spe yes
  obtain ⟨l, q, p, o, m, sent, -, -, timer⟩ := (s.offerTaken ⟨h, n⟩).answerOffer_eq h n
    (decide (s.spe.Accepts s.bsv.board ⟨h, n⟩)) (s.spe.offerReason s.bsv.board ⟨h, n⟩)
  have restarted : p = some (s.now + 48000000) := by
    rcases timer with kept | ⟨-, anew⟩
    · exact kept.trans runs
    · simpa using anew
  rw [State.offerHeard_eq h n working, if_pos yes, sent]
  exact ⟨role, key, restarted, view⟩

/-- NO leaves role, view, accepted offer and pass timer (R117). -/
theorem State.offerHeard_of_no (no : ¬s.spe.Accepts s.bsv.board ⟨h, n⟩) :
    (s.offerHeard h n).spe.role = s.spe.role ∧ (s.offerHeard h n).spe.view = s.spe.view ∧
    (s.offerHeard h n).spe.accepted = s.spe.accepted ∧ (s.offerHeard h n).spe.passTimer = s.spe.passTimer := by
  by_cases working : s.spe.role = .withdrawn
  · rw [State.offerHeard_of_withdrawn h n working]
    exact ⟨rfl, rfl, rfl, rfl⟩
  · obtain ⟨l, q, p, o, m, sent, -, -, timer⟩ := s.answerOffer_eq h n
      (decide (s.spe.Accepts s.bsv.board ⟨h, n⟩)) (s.spe.offerReason s.bsv.board ⟨h, n⟩)
    have kept : p = s.spe.passTimer := timer.resolve_right fun ⟨yes, _⟩ => no (of_decide_eq_true yes)
    rw [State.offerHeard_eq h n working, if_neg no, sent]
    exact ⟨rfl, rfl, rfl, kept⟩

end

end Sys2Proof.Machine
end

section
open Sys2Proof.Machine

/-- Settles O40: the rows of the table as `Spe.Accepts` and `Spe.offerReason`, and what `State.offerHeard` does by row. -/
theorem offerIsAnswered : Obligations.OfferIsAnswered := by
  intro s e head unheld n body h yes reason
  refine ⟨_, exec_offerTaken head unheld body, ?_⟩
  obtain ⟨u, hu⟩ : ∃ u, s.takeEntry e = u := ⟨_, rfl⟩
  have same : u.spe = s.spe ∧ u.rank = s.rank ∧ u.now = s.now ∧ u.bsv = s.bsv ∧ u.lct = { s.lct with rxq := s.lct.rxq.tail } := by
    simp [← hu]
  obtain ⟨spe, rank, now, bsv, lct⟩ := same
  have verdict : u.spe.Accepts u.bsv.board ⟨h, n⟩ ↔ yes := by rw [spe, bsv]
  have cause : u.spe.offerReason u.bsv.board ⟨h, n⟩ = reason := by
    rw [spe, bsv]
    rfl
  obtain ⟨rxq, roster⟩ := u.offerHeard_kept h n
  rw [hu]
  simp only [State.settled_frame]
  refine ⟨by simp [now], by rw [rxq, lct], fun peer unstuck => ?_, fun working => ?_, fun accepts => ?_, fun refuses => ?_,
    fun withdrawn => ?_, ?_⟩
  · rw [State.settled_entry, State.entry_of_peer (by simpa [rank] using peer), roster (by rw [lct]; exact unstuck), ← hu]
    exact State.takeEntry_entry_of_handover (.inl ⟨n, body⟩) peer
  · have working' : u.spe.role ≠ .withdrawn := by rwa [spe]
    have answer := State.offerHeard_answers h n working'
    simp only [verdict, cause] at answer
    refine ⟨answer, fun mode unstuck busy room fresh => ?_⟩
    have joins := State.offerHeard_txq h n working' (by rwa [lct]) (by rwa [lct]) (by rwa [lct]) (by rwa [lct]) (by rwa [lct])
    simp only [verdict, cause] at joins
    rw [joins, lct, bsv]
  · have accepted := State.offerHeard_of_yes h n (verdict.mpr accepts)
    rwa [now, spe] at accepted
  · have unmoved := State.offerHeard_of_no h n (mt verdict.mp refuses)
    rwa [spe] at unmoved
  · have unmoved : u.offerHeard h n = u := State.offerHeard_of_withdrawn h n (by rwa [spe])
    rw [unmoved, lct, ← hu]
    exact ⟨rfl, by simp [State.agreesOutside_iff, follows]⟩
  · simp [State.agreesOutside_iff, follows, reached, ← hu]
end

section
/-!
SUPPORT. The coin channels: closures and detected coins (R136, R137, R139), delivery (R145) and a board state handed (R146). Each command
as the operation it runs, and what that operation makes of its channel.
-/

namespace Sys2Proof.Machine

/-! ## The channel replaced -/

@[simp] theorem CoinUnit.setChan_setChan (u : CoinUnit) (ch : Channel) (c d : CoinChannel) :
    (u.setChan ch c).setChan ch d = u.setChan ch d := by
  cases ch <;> rfl

/-! ## Commands on a sampled line (R135 to R137) -/

section
variable {s : State} {held : Nat} {r : Moment} (dt : Nat) (ch : Channel)

/-- The coin filter, at work since the load ended, has seen a level that has held for its time (R135, R136). -/
theorem State.coinSeen_iff (hr : s.cfl.loadEnded = some r) : (s.elapse dt).coinSeen held = true ↔
    s.cnu.dormant = false ∧ s.quantities.coinFilterMs * 48000 ≤ min held (s.now + dt - r) := by
  simp [State.coinSeen, State.coinFilter, State.coinSteady, State.steadyFor, ms, ticksPerMs, hr]

/-- The filtered level changed one filter time after the level began to be sampled (R136). -/
theorem State.coinFilteredAt_eq (hr : s.cfl.loadEnded = some r) : (s.elapse dt).coinFilteredAt held =
    s.now + dt - (min held (s.now + dt - r) - s.quantities.coinFilterMs * 48000) := by
  simp [State.coinFilteredAt, State.coinFilter, State.coinSteady, State.steadyFor, ms, ticksPerMs, hr]

theorem exec_closure (seen : (s.elapse dt).coinSeen held = true) (opened : (s.cnu.chan ch).closed = false) :
    exec (.closure dt held ch) s = .next ((s.elapse dt).closureBegins ch ((s.elapse dt).coinFilteredAt held)).settled := by
  simp [exec, execClosure, done_eq, seen, opened]

/-- A closed line that the filter has not seen is no closure: only time passes (R136). -/
theorem exec_closure_unseen (unseen : (s.elapse dt).coinSeen held = false) :
    exec (.closure dt held ch) s = .next (s.elapse dt).settled := by
  simp [exec, execClosure, done_eq, unseen]

section
variable {k : Closure} (seen : (s.elapse dt).coinSeen held = true) (going : (s.cnu.chan ch).closure = some k)
include seen going

theorem exec_jammedClosureEnd (jammed : k.jammed = true) :
    exec (.jammedClosureEnd dt held ch) s = .next ((s.elapse dt).closureEnds ch).settled := by
  simp [exec, execJammedClosureEnd, done_eq, seen, going, jammed]

theorem exec_detectedCoin (unjammed : k.jammed = false) : exec (.detectedCoin dt held ch) s =
    .next ((s.elapse dt).closureJudged ch k.start ((s.elapse dt).coinFilteredAt held)).settled := by
  simp [exec, execDetectedCoin, done_eq, seen, going, unjammed]

end

end

/-! ## Commands of a channel's timers (R137, R145) -/

section
variable {s : State} {ch : Channel}

/-- The jam limit has passed one tick after 250 ms (R137; assumption log 24). -/
theorem exec_coinJam {k : Closure} (going : (s.cnu.chan ch).closure = some k) (unjammed : k.jammed = false) :
    exec (.coinJam ch) s = .next ((s.advanceTo (k.start + 12000001)).closureJams ch).settled := by
  have due : (s.cnu.chan ch).jamDue = some (k.start + 12000001) := by
    simp [CoinChannel.jamDue, going, unjammed, jamLimit, ms, ticksPerMs]
  rw [exec, execCoinJam, done_eq, due, State.onExpiry_some]

section
variable {due : Moment} (runs : (s.cnu.chan ch).timer = some due)
include runs

theorem exec_pulseTimerExpiry (pulse : (s.cnu.chan ch).delivery = .pulse) :
    exec (.pulseTimerExpiry ch) s = .next ((s.advanceTo due).pulseEnds ch).settled := by
  have ends : (s.cnu.chan ch).pulseDue = some due := by rw [CoinChannel.pulseDue, pulse, runs]
  rw [exec, execPulseTimerExpiry, done_eq, ends, State.onExpiry_some]

theorem exec_gapTimerExpiry (gap : (s.cnu.chan ch).delivery = .gap) :
    exec (.gapTimerExpiry ch) s = .next ((s.advanceTo due).gapEnds ch).settled := by
  have ends : (s.cnu.chan ch).gapDue = some due := by rw [CoinChannel.gapDue, gap, runs]
  rw [exec, execGapTimerExpiry, done_eq, ends, State.onExpiry_some]

end

end

/-! ## What becomes of the channel (R136, R137, R145) -/

section
variable (s : State) (ch : Channel)

@[simp] theorem State.closureBegins_cnu (start : Moment) : (s.closureBegins ch start).cnu = s.cnu.setChan ch
    { s.cnu.chan ch with closed := true, closure := some { start := start, jammed := false } } := rfl

@[simp] theorem State.closureEnds_cnu : (s.closureEnds ch).cnu = s.cnu.setChan ch
    { s.cnu.chan ch with closed := false, closure := none } := rfl

@[simp] theorem State.closureJams_cnu : (s.closureJams ch).cnu = s.cnu.setChan ch { s.cnu.chan ch with
    jam := true, closure := (s.cnu.chan ch).closure.map (fun k => { k with jammed := true }) } := rfl

@[simp] theorem State.pulseEnds_cnu : (s.pulseEnds ch).cnu = s.cnu.setChan ch { s.cnu.chan ch with
    pending := (s.cnu.chan ch).pending - 1, delivery := .gap, timer := some (s.now + s.quantities.coinGapMs * 48000) } := rfl

/-- A gap over, the IDLE check begins the next pulse or leaves the channel IDLE (R145). -/
theorem State.gapEnds_cnu : (s.gapEnds ch).cnu = s.cnu.setChan ch
    (if 0 < (s.cnu.chan ch).pending ∧ s.bsv.board = .ready ∧ s.cnu.dormant = false then
      { s.cnu.chan ch with delivery := .pulse, timer := some (s.now + s.quantities.coinPulseMs * 48000) }
    else { s.cnu.chan ch with delivery := .idle, timer := none }) := by
  rw [State.gapEnds, State.idleCheck_cnu, apply_ite (s.cnu.setChan ch)]
  refine if_congr ?_ ?_ ?_
  · simp only [State.withChan_cnu, CoinUnit.chan_setChan, CoinUnit.setChan_dormant, State.withChan_frame]
    tauto
  · simp [ms, ticksPerMs, State.quantities]
  · simp

/-! ## A board state handed (R145, R146) -/

/-- READY begins a pulse in an IDLE channel that owes a coin, outside dormancy. -/
theorem State.idleCheck_chan : (s.idleCheck ch).cnu.chan ch =
    if s.cnu.dormant = false ∧ (s.cnu.chan ch).delivery = .idle ∧ 0 < (s.cnu.chan ch).pending ∧ s.bsv.board = .ready then
      { s.cnu.chan ch with delivery := .pulse, timer := some (s.now + s.quantities.coinPulseMs * 48000) }
    else s.cnu.chan ch := by
  rw [State.idleCheck_cnu]
  split
  · exact CoinUnit.chan_setChan ..
  · rfl

/-- A pulse is cut short to its gap; a channel without one stays (R146). -/
theorem State.cutPulse_chan : (s.cutPulse ch).cnu.chan ch =
    if (s.cnu.chan ch).delivery = .pulse then
      { s.cnu.chan ch with delivery := .gap, timer := some (s.now + s.quantities.coinGapMs * 48000) }
    else s.cnu.chan ch := by
  simp only [State.cutPulse]
  split
  · next pulse => rw [if_pos pulse]; exact CoinUnit.chan_setChan ..
  · next none => rw [if_neg none]

variable {s ch}

theorem State.idleCheck_chan_ne {k : Channel} (other : k ≠ ch) : (s.idleCheck ch).cnu.chan k = s.cnu.chan k := by
  rw [State.idleCheck_cnu]
  split
  · exact CoinUnit.chan_setChan_ne _ _ _ _ other
  · rfl

theorem State.cutPulse_chan_ne {k : Channel} (other : k ≠ ch) : (s.cutPulse ch).cnu.chan k = s.cnu.chan k := by
  simp only [State.cutPulse]
  split
  · exact CoinUnit.chan_setChan_ne _ _ _ _ other
  · rfl

variable (s ch)

@[simp] theorem State.decideCblk_chan : s.decideCblk.cnu.chan ch = s.cnu.chan ch := by
  cases ch <;> rfl

@[simp] theorem State.idleCheck_quantities : (s.idleCheck ch).quantities = s.quantities := by
  simp only [State.quantities, State.idleCheck_frame]

@[simp] theorem State.cutPulse_quantities : (s.cutPulse ch).quantities = s.quantities := by
  simp only [State.quantities, State.cutPulse_frame]

/-- READY handed: each channel's own IDLE check decides for it (R145). -/
theorem State.coinBoard_chan_of_ready : (s.coinBoard .ready).cnu.chan ch = (s.idleCheck ch).cnu.chan ch := by
  rw [State.coinBoard, State.decideCblk_chan]
  cases ch
  case one => exact State.idleCheck_chan_ne (by decide)
  case two =>
    have kept : (s.idleCheck .one).cnu.chan .two = s.cnu.chan .two := State.idleCheck_chan_ne (by decide)
    simp [State.idleCheck_chan, kept]

/-- Another state handed: each channel's own pulse is cut (R146). -/
theorem State.coinBoard_chan_of_unready {board : BoardState} (unready : board ≠ .ready) :
    (s.coinBoard board).cnu.chan ch = (s.cutPulse ch).cnu.chan ch := by
  have cut : s.coinBoard board = ((s.cutPulse .one).cutPulse .two).decideCblk := by
    cases board
    case ready => exact absurd rfl unready
    all_goals rfl
  rw [cut, State.decideCblk_chan]
  cases ch
  case one => exact State.cutPulse_chan_ne (by decide)
  case two =>
    have kept : (s.cutPulse .one).cnu.chan .two = s.cnu.chan .two := State.cutPulse_chan_ne (by decide)
    simp [State.cutPulse_chan, kept]

end

end Sys2Proof.Machine
end

section
open Sys2Proof.Machine

/-- Settles O46: each command by the operation it runs and that operation's equation at the channel, a board state handed by the channel's
own IDLE check or cut. -/
theorem coinChannelEvents : Obligations.CoinChannelEvents := by
  constructor
  · intro s dt held ch r hr c filter steady
    have seen_iff := State.coinSeen_iff (s := s) (held := held) dt hr
    refine ⟨fun awake long opened => ?_, fun unseen => ?_, fun k going unjammed => ?_, fun k going jammed awake long => ?_,
      fun due runs pulse => ?_, fun due runs gap => ?_⟩
    · refine ⟨_, exec_closure dt ch (seen_iff.mpr ⟨awake, long⟩) opened, by simp, ?_, by simp [State.agreesOutside_iff, follows]⟩
      simp [State.coinFilteredAt_eq dt hr, c, steady, filter]
    · have ignored : (s.elapse dt).coinSeen held = false := by
        rw [Bool.eq_false_iff, Ne, seen_iff]
        rintro ⟨awake, long⟩
        rcases unseen with dormant | short
        · simp [awake] at dormant
        · exact absurd long (Nat.not_le.mpr short)
      exact ⟨_, exec_closure_unseen dt ch ignored, by simp, by simp [State.agreesOutside_iff, follows]⟩
    · exact ⟨_, exec_coinJam going unjammed, by simp, by simp [c, going], by simp [State.agreesOutside_iff, follows]⟩
    · exact ⟨_, exec_jammedClosureEnd dt ch (seen_iff.mpr ⟨awake, long⟩) going jammed, by simp, by simp [c],
        by simp [State.agreesOutside_iff, follows]⟩
    · exact ⟨_, exec_pulseTimerExpiry runs pulse, by simp, by simp [c], by simp [State.agreesOutside_iff, follows]⟩
    · exact ⟨_, exec_gapTimerExpiry runs gap, by simp, by simp [State.gapEnds_cnu, c],
        by simp [State.agreesOutside_iff, follows]⟩
  · intro s board ch hboard c t
    refine ⟨fun ready awake idle owed => ?_, fun ready resting => ?_, fun unready pulse => ?_, fun unready other => ?_,
      by simp [State.agreesOutside_iff, t]⟩
    · subst ready
      rw [State.coinBoard_chan_of_ready, State.idleCheck_chan, if_pos ⟨awake, idle, owed, hboard⟩]
    · subst ready
      rw [State.coinBoard_chan_of_ready, State.idleCheck_chan, if_neg]
      rintro ⟨awake, idle, owed, -⟩
      rcases resting with busy | paid | dormant
      · exact busy idle
      · exact owed.ne' paid
      · simp [awake] at dormant
    · rw [State.coinBoard_chan_of_unready s ch unready, State.cutPulse_chan, if_pos pulse]
    · rw [State.coinBoard_chan_of_unready s ch unready, State.cutPulse_chan, if_neg other]
end

section
/-!
SUPPORT. A detected coin (R137, R139, R140): the count its duty chooses, and the coin quiet timer that a carried coin restarts (R123).
-/

namespace Sys2Proof.Machine

/-! ## The closure judged (R137) -/

/-- A closure of at most 250 ms is a coin. -/
theorem State.closureJudged_of_coin {s : State} {ch : Channel} {start stop : Moment} (short : stop - start ≤ 12000000) :
    s.closureJudged ch start stop = (s.closureEnds ch).countCoin ch := by
  have limit : stop - start ≤ jamLimit := short
  rw [State.closureJudged, if_pos limit]

/-! ## The count of each duty (R138 to R140) -/

section
variable (s : State) (ch : Channel)

/-- The own coin joins pending, and the IDLE check of an awake channel of a READY board begins its pulse (R139, R145). -/
theorem State.addPending_chan : (s.addPending ch 1).cnu.chan ch =
    if s.cnu.dormant = false ∧ (s.cnu.chan ch).delivery = .idle ∧ s.bsv.board = .ready then
      { s.cnu.chan ch with
        pending := min 31 ((s.cnu.chan ch).pending + 1), delivery := .pulse
        timer := some (s.now + s.quantities.coinPulseMs * 48000) }
    else { s.cnu.chan ch with pending := min 31 ((s.cnu.chan ch).pending + 1) } := by
  obtain ⟨v, checked, chan, dormant, now, board, quantities⟩ : ∃ v : State, s.addPending ch 1 = v.idleCheck ch ∧
      v.cnu.chan ch = { s.cnu.chan ch with pending := min 31 ((s.cnu.chan ch).pending + 1) } ∧
      v.cnu.dormant = s.cnu.dormant ∧ v.now = s.now ∧ v.bsv.board = s.bsv.board ∧ v.quantities = s.quantities :=
    ⟨_, rfl, by cases ch <;> rfl, by cases ch <;> rfl, rfl, rfl, rfl⟩
  have owed : 0 < min 31 ((s.cnu.chan ch).pending + 1) := by omega
  rw [checked, State.idleCheck_chan, chan, dormant, now, board, quantities]
  simp only [owed, true_and]

@[simp] theorem State.addCarried_cnu : (s.addCarried ch).cnu =
    { s.cnu.setChan ch { s.cnu.chan ch with carried := min 31 ((s.cnu.chan ch).carried + 1) } with
      overflow := s.cnu.overflow || decide (31 < (s.cnu.chan ch).carried + 1) } := rfl

@[simp] theorem State.addLate_cnu : (s.addLate ch).cnu =
    { s.cnu.setChan ch { s.cnu.chan ch with late := min 31 ((s.cnu.chan ch).late + 1) } with
      overflow := s.cnu.overflow || decide (31 < (s.cnu.chan ch).late + 1) } := rfl

end

/-- The counted coin is the count of its duty (R138, R139). -/
theorem State.countCoin_of_duty (s : State) (ch : Channel) :
    (s.cnu.duty = .own → s.countCoin ch = s.addPending ch 1) ∧
    (s.cnu.duty = .carrying → s.countCoin ch = (s.addCarried ch).coinHeard) ∧
    (s.cnu.duty = .late → s.countCoin ch = s.addLate ch) ∧ (s.cnu.duty = .none → s.countCoin ch = s) :=
  ⟨fun duty => by rw [State.countCoin, duty], fun duty => by rw [State.countCoin, duty],
    fun duty => by rw [State.countCoin, duty], fun duty => by rw [State.countCoin, duty]⟩

/-! ## The coin quiet timer (R123) -/

/-- A coin heard in PASSING before PASS is issued restarts the timer at 150 ms, up to its cap. -/
theorem State.coinHeard_spe {s : State} {cap : Moment} (capped : s.spe.quietCap = some cap) (passing : s.spe.role = .passing)
    (unissued : s.spe.passIssued = false) :
    s.coinHeard.spe = { s.spe with coinQuiet := some (min (s.now + 7200000) cap) } := by
  simp [State.coinHeard, capped, passing, unissued, quietTime, ms, ticksPerMs]

/-- In another role, and once PASS is issued, a coin heard restarts nothing. -/
theorem State.coinHeard_of_idle {s : State} (idle : s.spe.role ≠ .passing ∨ s.spe.passIssued = true) : s.coinHeard = s := by
  unfold State.coinHeard
  split
  · next passing _ =>
    rcases idle with other | issued
    · exact absurd passing other
    · rw [if_pos issued]
  · rfl

end Sys2Proof.Machine
end

section
open Sys2Proof.Machine

/-- Settles O47: the closure is a coin (`exec_detectedCoin`, `State.closureJudged_of_coin`), and each duty's count by its equation at the
channel whose closure has ended. -/
theorem coinIsCountedByDuty : Obligations.CoinIsCountedByDuty := by
  intro s dt held ch r hr k going c filter steady open' unjammed awake long short
  have seen := (State.coinSeen_iff (s := s) (held := held) dt hr).mpr ⟨awake, long⟩
  have judged := exec_detectedCoin dt ch seen going unjammed
  rw [State.closureJudged_of_coin (by rw [State.coinFilteredAt_eq dt hr]; exact short)] at judged
  obtain ⟨u, hu⟩ : ∃ u, (s.elapse dt).closureEnds ch = u := ⟨_, rfl⟩
  have ended : u.cnu = s.cnu.setChan ch open' := by simp [← hu, c, open']
  have rest : u.now = s.now + dt ∧ u.spe = s.spe ∧ u.bsv = s.bsv ∧ u.quantities = s.quantities := by
    simp [← hu, State.quantities]
  obtain ⟨now, spe, bsv, quantities⟩ := rest
  obtain ⟨own, carrying, late, none⟩ := u.countCoin_of_duty ch
  rw [hu] at judged
  rw [ended, CoinUnit.setChan_duty] at own carrying late none
  refine ⟨_, judged, by simp [now], fun duty => ?_, fun duty => ?_, fun duty => ?_, fun duty => ?_⟩
  · have coin := u.addPending_chan ch
    rw [ended, CoinUnit.chan_setChan, CoinUnit.setChan_dormant, bsv, now, quantities] at coin
    have latched := u.addPending_overflow ch 1
    rw [ended, CoinUnit.chan_setChan, CoinUnit.setChan_overflow] at latched
    have cnu : (u.addPending ch 1).settled.cnu = (u.addPending ch 1).cnu := by simp
    rw [own duty, cnu, coin]
    refine ⟨by split <;> rfl, latched, fun idle ready => ?_, fun waits => ?_, by simp [State.agreesOutside_iff, follows, ← hu]⟩
    · rw [if_pos ⟨awake, idle, ready⟩]
      exact ⟨rfl, rfl⟩
    · rw [if_neg]
      rintro ⟨-, idle, ready⟩
      rcases waits with busy | unready
      · exact busy idle
      · exact unready ready
  · have engine : (u.addCarried ch).spe = s.spe ∧ (u.addCarried ch).now = s.now + dt := by simp [spe, now]
    obtain ⟨spe', now'⟩ := engine
    rw [carrying duty]
    refine ⟨by simp [ended, c, open'], fun cap capped passing unissued => ?_, fun idle => ?_,
      by simp [State.agreesOutside_iff, follows, ← hu]⟩
    · have restarted := State.coinHeard_spe (s := u.addCarried ch) (by rwa [spe']) (by rwa [spe']) (by rwa [spe'])
      rw [spe', now'] at restarted
      simpa using restarted
    · rw [State.coinHeard_of_idle (by rwa [spe'])]
      simp [spe]
  · rw [late duty]
    exact ⟨by simp [ended, c, open'], by simp [State.agreesOutside_iff, follows, ← hu]⟩
  · rw [none duty]
    exact ⟨by simp [ended], by simp [State.agreesOutside_iff, follows, ← hu]⟩
end

section
/-!
SUPPORT. Lamps (O51): when LP1 and LP2 mirror the board lamps (R161), what a status lamp that follows its condition shows, and the end of a
blink phase (R182).
-/

namespace Sys2Proof.Machine

/-! ## The mirror of the board lamps (R160, R161) -/

/-- The lamps are mirrored while a map table is loaded, the role HOLDING and the menu CLOSED (R161). -/
theorem State.mirrors_iff (s : State) :
    s.mirrors = true ↔ s.quantities.map.isSome = true ∧ s.spe.role = .holding ∧ s.mnu.state = .closed := by
  simp [State.mirrors, State.mapTable, and_assoc]

/-- The filtered level of one lamp input moves that level alone (R160). -/
theorem Mapper.setLit_eq (m : Mapper) (l : LampInput) (v : Bool) :
    m.setLit l v = { m with lit1 := if l = .bl1 then v else m.lit1, lit2 := if l = .bl2 then v else m.lit2 } := by
  cases l <;> rfl

/-- A changed level that has held for 1 ms since the load ended is taken and mirrored (R160, R161). -/
theorem exec_lampLevelChange {s : State} {held : Nat} {lamp : LampInput} {lit : Bool} {r : Moment} (dt : Nat)
    (hr : s.cfl.loadEnded = some r) (awake : s.cmp.dormant = false) (seen : 48000 ≤ min held (s.now + dt - r))
    (change : s.cmp.litInput lamp ≠ lit) : exec (.lampLevelChange dt held lamp lit) s =
      .next ({ s.elapse dt with cmp := s.cmp.setLit lamp lit }.mirrorLamps).settled := by
  simp [exec, execLampLevelChange, done_eq, State.panelSteady, State.steadyFor, lampFilter, ms, ticksPerMs, hr, awake, change,
    le_min_iff.mp seen]

/-! ## Status lamps (R182) -/

theorem Lamp.follow_of_same {l : Lamp} {p : LampPattern} (now : Moment) (same : l.pattern = p) : l.follow now p = l :=
  if_pos same

theorem Lamp.follow_of_change {l : Lamp} {p : LampPattern} (now : Moment) (change : l.pattern ≠ p) :
    l.follow now p = { pattern := p, lit := decide (p ≠ .dark), phaseEnd := (blinkPhase p).map (now + ·) } :=
  if_neg change

/-- Each lamp follows its own condition. -/
theorem State.settled_lamp (s : State) (l : StatusLamp) :
    s.settled.lamps.lamp l = (s.lamps.lamp l).follow s.now (s.lampPattern l) := by
  rw [State.settled_lamps]
  cases l <;> rfl

/-- No condition of a lamp reads the clock or the lamps. -/
theorem State.lampPattern_of_blink (s : State) (lamp l : StatusLamp) (due m : Moment) :
    ((s.advanceTo due).blinks lamp m).lampPattern l = s.lampPattern l := by
  cases l <;> rfl

theorem exec_statusLampBlink {s : State} {lamp : StatusLamp} {due : Moment} (runs : (s.lamps.lamp lamp).phaseEnd = some due) :
    exec (.statusLampBlink lamp) s = .next ((s.advanceTo due).blinks lamp due).settled := by
  rw [exec, execStatusLampBlink, done_eq, runs]

/-- At the end of a phase a lamp in its pattern turns over, and the next phase begins there. -/
theorem State.blinks_lamp {s : State} {lamp : StatusLamp} (due : Moment) (shows : (s.lamps.lamp lamp).pattern = s.lampPattern lamp) :
    ((s.advanceTo due).blinks lamp due).settled.lamps.lamp lamp = (s.lamps.lamp lamp).blink due := by
  have blinked : ((s.advanceTo due).blinks lamp due).lamps.lamp lamp = (s.lamps.lamp lamp).blink due :=
    StatusLamps.lamp_setLamp ..
  rw [State.settled_lamp, State.lampPattern_of_blink, blinked]
  exact Lamp.follow_of_same _ shows

end Sys2Proof.Machine
end

section
open Sys2Proof.Machine

/-- Settles O51: the mirror by what `mirrorLamps` drives, a phase's end by the lamp that blinks, a condition by the lamp that follows it. -/
theorem lampsMirrorAndBlink : Obligations.LampsMirrorAndBlink := by
  refine ⟨fun s dt held lamp lit r hr awake seen change => ?_, fun s lamp due runs shows => ?_, fun s lamp => ?_⟩
  · obtain ⟨u, hu⟩ : ∃ u : State, { s.elapse dt with cmp := s.cmp.setLit lamp lit } = u := ⟨_, rfl⟩
    have levels : u.mirrors = s.mirrors ∧ u.cmp = s.cmp.setLit lamp lit := hu ▸ ⟨rfl, rfl⟩
    have cmp : u.mirrorLamps.settled.cmp = { s.cmp with
        lit1 := if lamp = .bl1 then lit else s.cmp.lit1, lp1 := s.mirrors && if lamp = .bl1 then lit else s.cmp.lit1
        lit2 := if lamp = .bl2 then lit else s.cmp.lit2, lp2 := s.mirrors && if lamp = .bl2 then lit else s.cmp.lit2 } := by
      simp [State.mirrorLamps, levels, Mapper.setLit_eq]
    refine ⟨_, hu ▸ exec_lampLevelChange dt hr awake seen change, by simp [← hu], ?_⟩
    rw [cmp, ← State.mirrors_iff]
    refine ⟨rfl, rfl, Bool.and_eq_true_iff, Bool.and_eq_true_iff, rfl, by simp [State.agreesOutside_iff, follows, ← hu]⟩
  · refine ⟨_, exec_statusLampBlink runs, by simp, ?_, by simp [State.agreesOutside_iff, follows]⟩
    rw [State.blinks_lamp due shows, Lamp.blink, shows]
    cases s.lampPattern lamp <;> rfl
  · intro shown p
    have followed : shown = (s.lamps.lamp lamp).follow s.now p := s.settled_lamp lamp
    refine ⟨fun same => followed.trans (Lamp.follow_of_same _ same), fun change => ?_⟩
    rw [followed, Lamp.follow_of_change _ change]
    cases p <;> simp [blinkPhase, ms, ticksPerMs]

end

section
/-!
SUPPORT. The panel (O48). A release, as `exec_press` and `State.pressLines_cmp` have a press; what a decision of the mapper makes of flags and
lines (R155 to R157), for each of what it is handed; and `LampsMirrored`, which each of them leaves (R161).
-/

namespace Sys2Proof.Machine

/-! ## Presses and releases (R150, R151, R158, R169) -/

section
variable {s : State} {held : Nat} {i : PanelInput} {r : Moment} (dt : Nat) (hr : s.cfl.loadEnded = some r)
include hr

/-- The panel filter, at work since the load ended, has seen a level that has held for its time (R150). -/
theorem State.panelSeen_iff : (s.elapse dt).panelSeen held = true ↔
    s.cmp.dormant = false ∧ s.quantities.panelFilterMs * 48000 ≤ min held (s.now + dt - r) := by
  simp [State.panelSeen, State.panelFilter, State.panelSteady, State.steadyFor, ms, ticksPerMs, hr]

/-- A press that the filter has not seen is none: only time passes. -/
theorem exec_press_unseen (short : min held (s.now + dt - r) < s.quantities.panelFilterMs * 48000) :
    exec (.press dt held i) s = .next (s.elapse dt).settled := by
  have unseen : ¬(s.elapse dt).panelSeen held = true := by
    rw [State.panelSeen_iff dt hr]
    exact fun ⟨_, long⟩ => absurd long (Nat.not_le.mpr short)
  simp [exec, execPress, done_eq, unseen]

/-- A release that the filter has seen acts on edge lines, latch and menu (R150, R151). -/
theorem exec_release (awake : s.cmp.dormant = false) (seen : s.quantities.panelFilterMs * 48000 ≤ min held (s.now + dt - r))
    (down : s.cmp.pressed[panelIndex i] = true) :
    exec (.release dt held i) s = .next ((s.elapse dt).released i).settled := by
  simp [exec, execRelease, done_eq, (State.panelSeen_iff dt hr).mpr ⟨awake, seen⟩, State.isPressed, down]

end

/-- The lines of a release: parked lines and flags stay; followed, the flags of the lines it is the source of are set, and each line is driven
where its flag is set and its source pressed (R158). -/
theorem State.releaseLines_cmp (s : State) (i : PanelInput) :
    (s.releaseLines i).cmp = { s.cmp with pressed := s.cmp.pressed.set (panelIndex i) false
                                          seen := (s.releaseLines i).cmp.seen, active := (s.releaseLines i).cmp.active } ∧
    (s.cmp.following = false → (s.releaseLines i).cmp.active = s.cmp.active ∧ (s.releaseLines i).cmp.seen = s.cmp.seen) ∧
    (s.cmp.following = true → ∀ map, s.mapTable = some map → ∀ j : Fin 24,
      (s.releaseLines i).cmp.seen[j] = (s.cmp.seen[j] || decide (sourceIndex map[j].source = some (panelIndex i))) ∧
      (s.releaseLines i).cmp.active[j] =
        (map[j].drives && (s.releaseLines i).cmp.seen[j] && (s.releaseLines i).cmp.sourcePressed map[j])) := by
  unfold State.releaseLines
  split
  · next map following table =>
    refine ⟨rfl, by simp [following], fun _ m hm j => ?_⟩
    cases table.symm.trans hm
    simp [Mapper.followLines, Mapper.sourcePressed]
  · next none =>
    exact ⟨rfl, fun _ => ⟨rfl, rfl⟩, fun following m hm => absurd hm (none m following)⟩

/-- SELECT alone is the SELECT key, whatever the keys of the block (R152). -/
theorem State.keyOf_eq_select (s : State) (i : PanelInput) : s.keyOf i = .select ↔ i = .select := by
  unfold State.keyOf
  split
  · simp
  · simp
  · simp
  · repeat' split
    all_goals simp

/-- A press at a CLOSED menu starts the select hold timer if it is of SELECT, and does nothing more (R168, R169). -/
theorem State.menuPress_of_closed {s : State} (i : PanelInput) (closed : s.mnu.state = .closed) :
    s.menuPress i = { s with mnu := if i = .select then { s.mnu with selectTimer := some (s.now + 38400000) } else s.mnu } := by
  rw [State.menuPress_of_inert rfl (.inr (.inr (.inl closed)))]
  by_cases select : i = .select
  · simp [State.touched, closed, State.keyOf_eq_select, select]
  · simp only [State.touched, closed, reduceCtorEq, if_false, true_or, if_true, State.keyOf_eq_select, select]
    rw [← closed]

/-- A release at the menu stops the select hold timer if it is of SELECT (R169). -/
theorem State.menuRelease_eq (s : State) (i : PanelInput) :
    s.menuRelease i = { s with mnu := if i = .select then { s.mnu with selectTimer := none } else s.mnu } := by
  cases i <;> rfl

/-- A press at a CLOSED menu: its lines, its latch, and SELECT's timer (R151, R169). -/
theorem State.pressed_of_closed {s : State} (i : PanelInput) (closed : s.mnu.state = .closed) : s.pressed i =
    { s.pressLines i with
      cmp := { (s.pressLines i).cmp with latch := s.cmp.latch.set (panelIndex i) true }
      mnu := if i = .select then { s.mnu with selectTimer := some (s.now + 38400000) } else s.mnu } := by
  obtain ⟨lines, -⟩ := s.pressLines_cmp i
  have latch : (s.pressLines i).cmp.latch = s.cmp.latch := by rw [lines]
  rw [State.pressed, State.menuPress_of_closed i (by simpa using closed)]
  simp [State.setLatch, latch]

/-- A release: its lines, its latch, and SELECT's timer (R151, R169). -/
theorem State.released_eq (s : State) (i : PanelInput) : s.released i =
    { s.releaseLines i with
      cmp := { (s.releaseLines i).cmp with latch := s.cmp.latch.set (panelIndex i) false }
      mnu := if i = .select then { s.mnu with selectTimer := none } else s.mnu } := by
  obtain ⟨lines, -⟩ := s.releaseLines_cmp i
  have latch : (s.releaseLines i).cmp.latch = s.cmp.latch := by rw [lines]
  rw [State.released, State.menuRelease_eq]
  simp [State.setLatch, latch]

/-! ## A decision of the mapper (R155 to R157) -/

/-- The mapper may follow while a map table is loaded, the role HOLDING, the menu CLOSED and the board neither RESETTING nor VACANT (R155). -/
theorem State.shouldFollow_iff (s : State) : s.shouldFollow = true ↔ s.mapTable.isSome = true ∧ s.spe.role = .holding ∧
    s.mnu.state = .closed ∧ s.bsv.board ≠ .resetting ∧ s.bsv.board ≠ .vacant := by
  simp [State.shouldFollow, and_assoc]

/-- At an entry to FOLLOWING a line whose source is released has its flag, and one that no input drives (R157). -/
theorem Mapper.entryFlags_iff (m : Mapper) (map : Vector MapEntry 24) (k : Fin 24) :
    (m.entryFlags map)[k] = true ↔ map[k].source = .none ∨ map[k].mode = .off ∨ m.sourcePressed map[k] = false := by
  simp [Mapper.entryFlags, MapEntry.drives, or_assoc]

/-- A line is driven where its flag is set and its source pressed, if an input drives it at all (R158). -/
theorem Mapper.followLines_iff (m : Mapper) (map : Vector MapEntry 24) (k : Fin 24) :
    (m.followLines map)[k] = true ↔
      map[k].source ≠ .none ∧ map[k].mode ≠ .off ∧ m.seen[k] = true ∧ m.sourcePressed map[k] = true := by
  simp [Mapper.followLines, MapEntry.drives, and_assoc]

section
variable {s : State}

theorem State.decideMapper_of_entry {map : Vector MapEntry 24} (may : s.shouldFollow = true) (parked : s.cmp.following = false)
    (table : s.mapTable = some map) : s.decideMapper = { s with cmp := s.cmp.enterFollowing map } := by
  simp [State.decideMapper, may, parked, table]

theorem State.decideMapper_of_exit (may : s.shouldFollow = false) (following : s.cmp.following = true) :
    s.decideMapper = { s with cmp := s.cmp.park } := by
  simp [State.decideMapper, may, following]

theorem State.decideMapper_of_decided (decided : s.MapperDecided) : s.decideMapper = s := by
  have same : s.cmp.following = s.shouldFollow := decided
  unfold State.decideMapper
  rw [← same]
  cases s.cmp.following <;> rfl

/-- A decision leaves what the mapper samples. -/
theorem State.decideMapper_inputs (s : State) : s.decideMapper.cmp.pressed = s.cmp.pressed ∧ s.decideMapper.cmp.latch = s.cmp.latch ∧
    s.decideMapper.cmp.lit1 = s.cmp.lit1 ∧ s.decideMapper.cmp.lit2 = s.cmp.lit2 := by
  unfold State.decideMapper
  split <;> exact ⟨rfl, rfl, rfl, rfl⟩

/-- State, flags and lines are decided before the lamps are driven. -/
theorem State.mapperDecides_cmp (s : State) : s.mapperDecides.cmp =
    { s.decideMapper.cmp with lp1 := s.mapperDecides.cmp.lp1, lp2 := s.mapperDecides.cmp.lp2 } := rfl

/-- An entry to FOLLOWING that a decision makes sets the flags of R157. -/
theorem State.mapperDecides_seen {map : Vector MapEntry 24} (parked : s.cmp.following = false)
    (entered : s.mapperDecides.cmp.following = true) (table : s.mapTable = some map) :
    s.mapperDecides.cmp.seen = s.cmp.entryFlags map := by
  rw [State.mapperDecides_cmp] at entered ⊢
  cases may : s.shouldFollow
  · rw [State.decideMapper_of_decided (parked.trans may.symm), parked] at entered
    cases entered
  · rw [State.decideMapper_of_entry may parked table]
    rfl

end

/-- A board state announced and no bid begun: the engine leaves the mapper (R91, R102). -/
theorem State.speBoard_cmp {s : State} (board : BoardState) (away : s.spe.role ≠ .standby) : (s.speBoard board).cmp = s.cmp := by
  obtain ⟨u, hu⟩ : ∃ u : State, (if s.spe.firstHello ∧ s.spe.role ≠ .withdrawn then s.sendHello false else s) = u := ⟨_, rfl⟩
  have same : u.cmp = s.cmp ∧ u.spe.role = s.spe.role := by
    rw [← hu]
    split <;> simp
  obtain ⟨cmp, role⟩ := same
  simp only [State.speBoard, hu]
  split
  · next standby => exact absurd (role.symm.trans standby) away
  · exact cmp

/-- No board state but FAILED acts on the menu (R169). -/
theorem State.menuBoard_of_working (s : State) {board : BoardState} (working : board ≠ .failed) : s.menuBoard board = s := by
  cases board
  case failed => exact absurd rfl working
  all_goals rfl

/-! ## Roles, menu states and board states handed to the mapper (R155, R157) -/

section
variable {s : State} {map : Vector MapEntry 24} (parked : s.cmp.following = false) (table : s.mapTable = some map)
include parked table

/-- HOLDING alone enters FOLLOWING, and leaves the menu as the mapper saw it. -/
theorem State.setRole_seen {role : Role} (change : s.spe.role ≠ role) (entered : (s.setRole role).cmp.following = true) :
    (s.setRole role).cmp.seen = s.cmp.entryFlags map := by
  obtain ⟨decided, -⟩ := State.setRole_mapper change
  obtain ⟨-, holding, -⟩ := (State.shouldFollow_iff _).mp (decided.symm.trans entered)
  rw [State.setRole_role] at holding
  subst holding
  obtain ⟨u, hu⟩ : ∃ u : State,
    ({ s with spe := s.spe.enterRole .holding }.switchesFollow .holding).coinRole .holding = u := ⟨_, rfl⟩
  have handed : s.setRole .holding = u.mapperDecides := by
    rw [State.setRole, if_neg change, State.handRole, hu]
    rfl
  have same : u.cmp = s.cmp ∧ u.mapTable = s.mapTable := by simp [← hu, State.mapTable, State.quantities]
  obtain ⟨cmp, mapTable⟩ := same
  rw [handed] at entered ⊢
  rw [State.mapperDecides_seen (by rwa [cmp]) entered (mapTable.trans table), cmp]

/-- A menu state that enters FOLLOWING is a change, and the mapper decides in it. -/
theorem State.setMenu_seen {st : MenuState} (entered : (s.setMenu st).cmp.following = true) :
    (s.setMenu st).cmp.seen = s.cmp.entryFlags map := by
  unfold State.setMenu at entered ⊢
  split at entered
  · exact absurd (parked.symm.trans entered) Bool.false_ne_true
  · next change =>
    rw [if_neg change]
    exact State.mapperDecides_seen (s := { s with mnu := { s.mnu with state := st } }) parked entered table

/-- A board state handed outside STANDBY reaches the mapper without another change of role, and one other than FAILED leaves the menu. -/
theorem State.handBoard_seen {board : BoardState} (field : Option Moment) (away : s.spe.role ≠ .standby) (working : board ≠ .failed)
    (entered : (s.handBoard board field).cmp.following = true) :
    (s.handBoard board field).cmp.seen = s.cmp.entryFlags map := by
  obtain ⟨u, hu⟩ : ∃ u : State, (s.speBoard board).coinBoard board = u := ⟨_, rfl⟩
  have handed : (s.handBoard board field).cmp = u.mapperDecides.cmp := by
    rw [State.handBoard, hu, State.menuBoard_of_working _ working]
    simp
  have same : u.cmp = s.cmp ∧ u.mapTable = s.mapTable := by
    simp [← hu, State.speBoard_cmp board away, State.mapTable, State.quantities]
  obtain ⟨cmp, mapTable⟩ := same
  rw [handed] at entered ⊢
  rw [State.mapperDecides_seen (by rwa [cmp]) entered (mapTable.trans table), cmp]

end

/-! ## The board lamps mirrored (R161) -/

/-- The board lamps are lit as given, and LP1 and LP2 mirror them where R161 has it so. -/
def State.LampsMirrored (s : State) (lit1 lit2 : Bool) : Prop :=
  (s.cmp.lit1 = lit1 ∧ s.cmp.lit2 = lit2) ∧ s.cmp.lp1 = (s.mirrors && lit1) ∧ s.cmp.lp2 = (s.mirrors && lit2)

/-- LP1 and LP2 are driven as the board lamps are lit while a map table is loaded, the role HOLDING and the menu CLOSED. -/
theorem State.LampsMirrored.drive {s : State} {lit1 lit2 : Bool} (h : s.LampsMirrored lit1 lit2) :
    (s.cmp.lp1 = true ↔ s.quantities.map.isSome = true ∧ s.spe.role = .holding ∧ s.mnu.state = .closed ∧ lit1 = true) ∧
    (s.cmp.lp2 = true ↔ s.quantities.map.isSome = true ∧ s.spe.role = .holding ∧ s.mnu.state = .closed ∧ lit2 = true) := by
  obtain ⟨-, lp1, lp2⟩ := h
  rw [lp1, lp2, Bool.and_eq_true, Bool.and_eq_true, State.mirrors_iff]
  simp only [and_assoc, and_self]

theorem State.mapperDecides_mirrored (s : State) : s.mapperDecides.LampsMirrored s.cmp.lit1 s.cmp.lit2 := by
  obtain ⟨-, -, lit1, lit2⟩ := s.decideMapper_inputs
  refine ⟨⟨lit1, lit2⟩, ?_, ?_⟩
  · rw [← lit1]; rfl
  · rw [← lit2]; rfl

/-- A change of menu state drives the lamps again. -/
theorem State.setMenu_mirrored {s : State} {st : MenuState} (change : st ≠ s.mnu.state) :
    (s.setMenu st).LampsMirrored s.cmp.lit1 s.cmp.lit2 := by
  rw [State.setMenu, if_neg change.symm]
  exact State.mapperDecides_mirrored _

/-- A menu that closes, or that was CLOSED, keeps them mirrored. -/
theorem State.LampsMirrored.closeMenu {s : State} {lit1 lit2 : Bool} (h : s.LampsMirrored lit1 lit2) :
    s.closeMenu.LampsMirrored lit1 lit2 := by
  obtain ⟨u, hu⟩ : ∃ u : State,
    { s with mnu := { s.mnu with notice := none, noticeTimer := none, browseTimer := none } } = u := ⟨_, rfl⟩
  have mirrored : u.LampsMirrored lit1 lit2 := hu ▸ h
  rw [State.closeMenu, hu]
  by_cases closed : u.mnu.state = .closed
  · rwa [State.setMenu, if_pos closed]
  · obtain ⟨⟨rfl, rfl⟩, -⟩ := mirrored
    exact State.setMenu_mirrored (Ne.symm closed)

/-- A change of role drives the lamps again, in the menu state that the role leaves. -/
theorem State.setRole_mirrored {s : State} {role : Role} (change : s.spe.role ≠ role) :
    (s.setRole role).LampsMirrored s.cmp.lit1 s.cmp.lit2 := by
  obtain ⟨u, hu⟩ : ∃ u : State, ({ s with spe := s.spe.enterRole role }.switchesFollow role).coinRole role = u := ⟨_, rfl⟩
  have cmp : u.cmp = s.cmp := by simp [← hu]
  have mirrored := u.mapperDecides_mirrored
  rw [cmp] at mirrored
  rw [State.setRole, if_neg change, State.handRole, hu, State.menuRole]
  split
  · exact mirrored
  · exact mirrored.closeMenu

end Sys2Proof.Machine
end

section
open Sys2Proof.Machine

/-- Settles O48: press and release by their lines, latch and SELECT timer; a decision of the mapper by entry, exit or neither; what the mapper
is handed by the decision it makes. -/
theorem panelMovesLatchesAndLines : Obligations.PanelMovesLatchesAndLines := by
  refine ⟨fun s dt held input r hr awake => ?_, fun s => ?_, fun s role st board => ?_⟩
  · intro i steady
    refine ⟨fun short => ⟨_, exec_press_unseen dt hr short, by simp, by simp [State.agreesOutside_iff, follows]⟩,
      fun closed long up => ?_, fun long down => ?_⟩
    · obtain ⟨lines, parked, followed⟩ := (s.elapse dt).pressLines_cmp input
      refine ⟨_, exec_press dt hr awake long up, by simp, ?_⟩
      rw [State.pressed_of_closed (s := s.elapse dt) input closed]
      simp only [State.settled_frame]
      exact ⟨congrArg Mapper.pressed lines, rfl, (congrArg Mapper.seen lines :), parked, followed, rfl,
        by simp [State.agreesOutside_iff, follows]⟩
    · obtain ⟨lines, parked, followed⟩ := (s.elapse dt).releaseLines_cmp input
      refine ⟨_, exec_release dt hr awake long down, by simp, ?_⟩
      rw [State.released_eq]
      simp only [State.settled_frame]
      exact ⟨congrArg Mapper.pressed lines, rfl, parked, followed, rfl, by simp [State.agreesOutside_iff, follows]⟩
  · intro t follow
    have may : s.shouldFollow = true ↔ follow := s.shouldFollow_iff
    obtain ⟨pressed, latch, -⟩ := s.decideMapper_inputs
    have cmp : t.cmp = _ := s.mapperDecides_cmp
    refine ⟨fun may' parked => ?_, fun parks following => ?_, fun same => ?_, by rw [cmp, pressed], by rw [cmp, latch],
      by simp [t, State.agreesOutside_iff]⟩
    · have entry {map : Vector MapEntry 24} (table : s.mapTable = some map) : t.cmp =
          { s.cmp.enterFollowing map with lp1 := t.cmp.lp1, lp2 := t.cmp.lp2 } := by
        rw [cmp, State.decideMapper_of_entry (may.mpr may') parked table]
      obtain ⟨loaded, -⟩ := may'
      obtain ⟨map, table⟩ := Option.isSome_iff_exists.mp loaded
      refine ⟨congrArg Mapper.following (entry table), fun map table k => ?_⟩
      rw [entry table]
      exact ⟨s.cmp.entryFlags_iff map k,
        Mapper.followLines_iff { s.cmp with following := true, seen := s.cmp.entryFlags map } map k⟩
    · rw [cmp, State.decideMapper_of_exit (Bool.eq_false_iff.mpr (mt may.mp parks)) following]
      simp [Mapper.park, noLines]
    · rw [cmp, State.decideMapper_of_decided (Bool.eq_iff_iff.mpr (same.trans may.symm))]
      exact ⟨rfl, rfl, rfl⟩
  · intro r m b loaded
    refine ⟨fun change => ?_, fun change => ?_, fun change parked entered _ map table k => ?_, fun parked entered map table k => ?_,
      fun _ away parked _ working entered map table k => ?_⟩
    · have drive := (State.setRole_mirrored change.symm).drive
      rwa [State.setRole_role, show r.quantities = s.quantities by simp [r, State.quantities]] at drive
    · have drive := (State.setMenu_mirrored change).drive
      rw [State.setMenu_mnu] at drive
      rwa [show m.quantities = s.quantities by simp [m, State.quantities], show m.spe = s.spe by simp [m]] at drive
    · rw [State.setRole_seen parked table change.symm entered]
      exact s.cmp.entryFlags_iff map k
    · rw [State.setMenu_seen parked table entered]
      exact s.cmp.entryFlags_iff map k
    · rw [State.handBoard_seen parked table none away working entered]
      exact s.cmp.entryFlags_iff map k

end

section
/-!
SUPPORT. The status lamps at every step (O60, R182): a lamp that follows a pattern comes to stand in it, node reset and the end of a blink
phase leave each lamp in its own, and no other command touches one.
-/

namespace Sys2Proof.Machine

/-- A lamp in its own pattern, following any other, stands in that: a blink begins a phase (R182). -/
theorem Lamp.InPattern.follow {l : Lamp} (h : l.InPattern) (now : Moment) (p : LampPattern) :
    (l.follow now p).InPattern ∧ (l.follow now p).pattern = p := by
  by_cases same : l.pattern = p
  · rw [Lamp.follow_of_same now same]
    exact ⟨h, same⟩
  · rw [Lamp.follow_of_change now same]
    cases p <;> simp [Lamp.InPattern, blinkPhase]

/-- Only a blinking lamp has a phase, and the end of one begins the next (R182). -/
theorem Lamp.InPattern.blink {l : Lamp} (h : l.InPattern) {due : Moment} (runs : l.phaseEnd = some due) (m : Moment) :
    (l.blink m).InPattern := by
  unfold Lamp.InPattern at h
  cases pattern : l.pattern <;> simp_all [Lamp.InPattern, Lamp.blink, blinkPhase]

/-- Every status lamp stands in its own pattern. -/
def StatusLamps.InPattern (u : StatusLamps) : Prop :=
  ∀ l : StatusLamp, (u.lamp l).InPattern

/-- The end of a phase touches one lamp. -/
theorem State.blinks_inPattern {s : State} {lamp : StatusLamp} {due : Moment} (h : s.lamps.InPattern)
    (runs : (s.lamps.lamp lamp).phaseEnd = some due) (m : Moment) : (s.blinks lamp m).lamps.InPattern := by
  intro l
  by_cases same : l = lamp
  · subst same
    rw [State.blinks, StatusLamps.lamp_setLamp]
    exact (h l).blink runs m
  · rw [State.blinks, StatusLamps.lamp_setLamp_ne _ _ _ _ same]
    exact h l

theorem State.onExpiry_lamps (s : State) (timer : Timer) {act : State → State} (hact : ∀ u, (act u).lamps = u.lamps) :
    (s.onExpiry timer act).lamps = s.lamps := by
  cases timer with
  | none => rfl
  | some due => exact hact _

/-- The commands that act on a status lamp: node reset and the end of a blink phase (R178, R182). -/
def movesLamps : Instr → Bool
  | .nodeReset _ _ => true
  | .statusLampBlink _ => true
  | _ => false

/-- Every other command leaves the lamps to follow what it makes of the state. -/
theorem exec_lamps {c : Instr} (hc : movesLamps c = false) (s : State) : ∃ u, exec c s = done u ∧ u.lamps = s.lamps := by
  cases c with
  | nodeReset | statusLampBlink => cases hc
  | pausedExpiry | broadDecided | tipSample | restSample | stall | lockExpiry | busSilent | busLineJudged | resetHoldExpiry
  | bootLimitExpiry | stallGraceExpiry | fillPulseEnd | joinWindowExpiry | bidWindowExpiry | seatWaitExpiry | answerTimerExpiry
  | coinQuietExpiry | passTimerExpiry | coinJam | pulseTimerExpiry | gapTimerExpiry | selectHoldExpiry | browseTimerExpiry
  | noticeTimerExpiry => exact ⟨_, rfl, s.onExpiry_lamps _ fun u => by simp⟩
  | framingError => exact ⟨_, rfl, by simp⟩
  | acquisitionWindowEnd =>
    refine ⟨_, rfl, ?_⟩
    split
    · exact s.onExpiry_lamps _ fun u => by simp
    · rfl
  | nodeResetEnd | tryFails | blockRead | leadingEdge | trailingEdge | busEdge | present | absent | presenceFirstDecision | fillFieldStart
  | fillLineStart | lineIdle | frameJudged | ackWindowEnd | lineStuck | lineClear | seatedTaken | bidTaken | closure | press | release
  | lampLevelChange | lineFall =>
    refine ⟨_, rfl, ?_⟩
    split <;> simp [State.mirrorLamps]
  | lostArbitration | bitClash | helloTaken | offerTaken | answerTaken | passTaken | detectedCoin | jammedClosureEnd =>
    refine ⟨_, rfl, ?_⟩
    split
    · split <;> simp
    · simp

/-- Every command leaves the lamps in their patterns. -/
theorem exec_lampsInPattern (c : Instr) {s : State} (h : s.lamps.InPattern) : ∃ u, exec c s = done u ∧ u.lamps.InPattern := by
  cases moves : movesLamps c with
  | false =>
    obtain ⟨u, run, same⟩ := exec_lamps moves s
    exact ⟨u, run, same ▸ h⟩
  | true =>
    cases c with
    | nodeReset dt cause =>
      refine ⟨_, rfl, ?_⟩
      split
      · intro l
        cases l <;> exact ⟨rfl, rfl⟩
      · exact h
    | statusLampBlink lamp =>
      refine ⟨_, rfl, ?_⟩
      split
      · next due runs => exact State.blinks_inPattern (s := s.advanceTo due) h runs due
      · exact h
    | _ => cases moves

/-! ## The conditions (R182) -/

theorem State.anyFault_iff (s : State) : s.anyFault = true ↔ s.SomeFault := by
  simp [State.anyFault, State.SomeFault, or_assoc]

/-- During node reset every lamp is dark. -/
theorem State.lampPattern_of_held {s : State} (held : s.cfl.load = .held) (l : StatusLamp) : s.lampPattern l = .dark := by
  cases l <;> simp [State.lampPattern, State.st0Pattern, State.st1Pattern, State.st2Pattern, held]

section
variable {s : State} (running : s.cfl.load ≠ .held)
include running

theorem State.st0Pattern_of_running : s.st0Pattern =
    if s.spe.role = .holding then .steady
    else if s.spe.role = .offering ∨ s.spe.role = .passing ∨ s.spe.role = .accepted then .slow
    else .dark := by
  cases role : s.spe.role <;> simp [State.st0Pattern, role]

theorem State.st1Pattern_of_running : s.st1Pattern = if s.bsv.board = .ready then .steady else .dark := by
  cases board : s.bsv.board <;> simp [State.st1Pattern, board]

theorem State.st2Pattern_of_withdrawn (withdrawn : s.spe.role = .withdrawn) :
    (s.spe.withdrawal = some .noConfig → s.st2Pattern = .fast) ∧ (s.spe.withdrawal = some .rankClash → s.st2Pattern = .slow) := by
  constructor <;> intro reason <;> simp [State.st2Pattern, withdrawn, reason]

theorem State.st2Pattern_of_other (other : s.spe.role ≠ .withdrawn) : s.st2Pattern = if s.anyFault then .steady else .dark := by
  simp [State.st2Pattern, other]

end

/-- What has followed the state shows its conditions. -/
theorem State.settled_lampsShown {s : State} (h : s.lamps.InPattern) : s.settled.LampsShown := by
  have shown (l : StatusLamp) : (s.settled.lamps.lamp l).InPattern ∧ (s.settled.lamps.lamp l).pattern = s.lampPattern l := by
    rw [State.settled_lamp]
    exact (h l).follow s.now _
  obtain ⟨in0, is0⟩ := shown .st0
  obtain ⟨in1, is1⟩ := shown .st1
  obtain ⟨in2, is2⟩ := shown .st2
  have same : s.settled.cfl = s.cfl ∧ s.settled.spe = s.spe ∧ s.settled.bsv = s.bsv ∧ (s.settled.SomeFault ↔ s.SomeFault) := by
    simp [State.SomeFault]
  obtain ⟨cfl, spe, bsv, fault⟩ := same
  refine ⟨⟨in0, in1, in2⟩, fun held => ?_, fun running => ?_⟩
  · rw [cfl] at held
    have dark := State.lampPattern_of_held held
    exact ⟨is0.trans (dark .st0), is1.trans (dark .st1), is2.trans (dark .st2)⟩
  · rw [cfl] at running
    rw [spe, bsv, fault, ← State.anyFault_iff]
    have withdrawn := State.st2Pattern_of_withdrawn running
    have other := State.st2Pattern_of_other running
    refine ⟨is0.trans (State.st0Pattern_of_running running), is1.trans (State.st1Pattern_of_running running),
      fun role reason => is2.trans ((withdrawn role).1 reason), fun role reason => is2.trans ((withdrawn role).2 reason),
      fun role set => is2.trans ((other role).trans (if_pos set)), fun role clear => is2.trans ((other role).trans (if_neg clear))⟩

theorem State.LampsShown.inPattern {s : State} (h : s.LampsShown) : s.lamps.InPattern := by
  obtain ⟨⟨in0, in1, in2⟩, -⟩ := h
  intro l
  cases l
  exacts [in0, in1, in2]

/-- Lamps shown are shown after every step. -/
theorem keeps_lampsShown : Keeps State.LampsShown := by
  refine keeps_of_exec (fun _ _ h => h) (fun _ _ h => h) fun c s t h ht => ?_
  obtain ⟨u, run, shows⟩ := exec_lampsInPattern c h.inPattern
  rw [run] at ht
  rw [next_of_done ht]
  exact State.settled_lampsShown shows

end Sys2Proof.Machine
end

section
/-!
SUPPORT. Rows of glyphs (O60): pieces laid out field by field, each field a piece and the spaces up to the next one, and numbers figure by
figure.
-/

namespace Sys2Proof.Machine

/-! ## Fields -/

/-- From column `k` on the pieces show the text, and spaces after it. -/
def LaidOut (k : Nat) (pieces : List Piece) (text : List Glyph) : Prop :=
  ∀ c, k ≤ c → pieceGlyph pieces c = text.getD (c - k) 0

theorem pieceGlyph_of_inside {k c : Nat} {text : List Glyph} (ps : List Piece) (from' : k ≤ c) (upto : c < k + text.length) :
    pieceGlyph ({ column := k, text := text } :: ps) c = text.getD (c - k) 0 := by
  simp [pieceGlyph, from', upto]

theorem pieceGlyph_of_behind {k c : Nat} {text : List Glyph} (ps : List Piece) (behind : k + text.length ≤ c) :
    pieceGlyph ({ column := k, text := text } :: ps) c = pieceGlyph ps c := by
  simp [pieceGlyph, Nat.not_lt.mpr behind]

/-- A column before every piece holds a space. -/
theorem pieceGlyph_of_before {ps : List Piece} {c : Nat} (before : ∀ p ∈ ps, c < p.column) : pieceGlyph ps c = 0 := by
  have absent : ps.find? (fun p => decide (p.column ≤ c) && decide (c < p.column + p.text.length)) = none := by
    rw [List.find?_eq_none]
    intro p hp
    simp [Nat.not_le.mpr (before p hp)]
  simp [pieceGlyph, absent]

theorem getD_padded (width : Nat) (text rest : List Glyph) {i : Nat} (fits : text.length ≤ width) :
    (padded width text ++ rest).getD i 0 =
      if i < text.length then text.getD i 0 else if i < width then 0 else rest.getD (i - width) 0 := by
  have length : (padded width text).length = width := by simp [padded, fits]
  split
  · next inside =>
    rw [List.getD_append _ _ _ _ (by omega), padded, List.getD_append _ _ _ _ inside]
  · next behind =>
    split
    · next within =>
      rw [List.getD_append _ _ _ _ (by omega), padded, List.getD_append_right _ _ _ _ (by omega), List.getD_replicate _ (by omega)]
    · next outside =>
      rw [List.getD_append_right _ _ _ _ (by omega), length]

theorem LaidOut.nil (k : Nat) : LaidOut k [] [] :=
  fun _ _ => rfl

/-- A field: a piece with the spaces up to the pieces behind it. -/
theorem LaidOut.field {k width : Nat} {text rest : List Glyph} {ps : List Piece} (fits : text.length ≤ width)
    (later : ∀ p ∈ ps, k + width ≤ p.column) (h : LaidOut (k + width) ps rest) :
    LaidOut k ({ column := k, text := text } :: ps) (padded width text ++ rest) := by
  intro c from'
  rw [getD_padded width text rest fits]
  split
  · exact pieceGlyph_of_inside ps from' (by omega)
  · rw [pieceGlyph_of_behind ps (by omega)]
    split
    · exact pieceGlyph_of_before fun p hp => by have := later p hp; omega
    · rw [h c (by omega), Nat.sub_sub]

/-- The last field ends with its text. -/
theorem LaidOut.last (k : Nat) (text : List Glyph) : LaidOut k [{ column := k, text := text }] text := by
  have alone := (LaidOut.nil (k + text.length)).field (k := k) (text := text) le_rfl (by simp)
  simpa [padded] using alone

/-- One space behind a text of known length. -/
theorem padded_succ {text : List Glyph} {n : Nat} (h : text.length = n) : padded (n + 1) text = text ++ [0] := by
  simp [padded, h]

/-! ## Numbers (R174) -/

theorem digitGlyph_mod (n : Nat) : digitGlyph (n % 10) = digitGlyph n := by
  simp [digitGlyph]

theorem numberText_of_digit {n : Nat} (h : n < 10) : numberText n = [digitGlyph n] := by
  simp [numberText, digitsRev, h]

/-- The last digit comes last. -/
theorem numberText_of_more {n : Nat} (more : 10 ≤ n) (h : n < 100000) : numberText n = numberText (n / 10) ++ [digitGlyph n] := by
  have digits : digitsRev n = n % 10 :: digitsRev (n / 10) := by
    unfold digitsRev
    split_ifs <;> simp [Nat.div_div_eq_div_mul] <;> omega
  simp [numberText, digits, digitGlyph_mod]

theorem numberRight_of_digit (w : Nat) {n : Nat} (h : n < 10) : numberRight (w + 1) n = List.replicate w 0 ++ [digitGlyph n] := by
  simp [numberRight, numberText_of_digit h]

theorem numberRight_of_more (w : Nat) {n : Nat} (more : 10 ≤ n) (h : n < 100000) :
    numberRight (w + 1) n = numberRight w (n / 10) ++ [digitGlyph n] := by
  simp [numberRight, numberText_of_more more h]

/-- The last column holds the last digit; a column before it is blank where the number is too small for it. -/
theorem figures_succ (w n : Nat) : figures (w + 1) n =
    (List.range w).map (fun j => if n < 10 ^ (w - j) then 0 else digitGlyph (n / 10 ^ (w - j))) ++ [digitGlyph n] := by
  simp +contextual [figures, List.range_succ, digitGlyph_mod]

theorem figures_of_digit (w : Nat) {n : Nat} (h : n < 10) : figures (w + 1) n = List.replicate w 0 ++ [digitGlyph n] := by
  rw [figures_succ, List.map_eq_replicate_iff.mpr, List.length_range]
  intro j hj
  rw [List.mem_range] at hj
  have tens : 10 ^ 1 ≤ 10 ^ (w - j) := Nat.pow_le_pow_right (by omega) (by omega)
  exact if_pos (by omega)

theorem figures_of_more (w : Nat) {n : Nat} (more : 10 ≤ n) : figures (w + 1) n = figures w (n / 10) ++ [digitGlyph n] := by
  rw [figures_succ, figures]
  congr 1
  refine List.map_congr_left fun j hj => ?_
  rw [List.mem_range] at hj
  obtain ⟨m, power⟩ : ∃ m, w - 1 - j = m := ⟨_, rfl⟩
  have below : n < 10 ^ (w - j) ↔ n / 10 < 10 ^ m := by
    rw [Nat.div_lt_iff_lt_mul (by omega), ← pow_succ, show m + 1 = w - j by omega]
  have leading : j + 1 < w ∧ n / 10 < 10 ^ m ↔ n / 10 < 10 ^ m := by
    rcases m with - | m <;> omega
  rw [power, digitGlyph_mod, Nat.div_div_eq_div_mul, ← pow_succ', show m + 1 = w - j by omega]
  simp only [below, leading]

/-- The page's figures are the decimal digits with leading spaces. -/
theorem numberRight_eq_figures (w : Nat) (few : w ≤ 4) {n : Nat} (h : n < 10 ^ (w + 1)) : numberRight (w + 1) n = figures (w + 1) n := by
  have small : n < 100000 := h.trans_le (Nat.pow_le_pow_right (by omega) (by omega : w + 1 ≤ 5))
  induction w generalizing n with
  | zero => rw [numberRight_of_digit 0 h, figures_of_digit 0 h]
  | succ w ih =>
    by_cases digit : n < 10
    · rw [numberRight_of_digit _ digit, figures_of_digit _ digit]
    · have shorter : n / 10 < 10 ^ (w + 1) := by
        rw [Nat.div_lt_iff_lt_mul (by omega), ← pow_succ]
        exact h
      rw [numberRight_of_more _ (by omega) small, figures_of_more _ (by omega), ih (by omega) shorter (by omega)]

@[simp] theorem figures_length (w n : Nat) : (figures w n).length = w := by
  simp [figures]

/-- Lines per field, right-aligned in five columns: three figures and .5, or five figures (R29, R174). -/
theorem linesPerField_right {hl : Nat} (h : hl < 2000) :
    List.replicate (5 - (linesPerField hl).length) 0 ++ linesPerField hl =
      if hl % 2 = 1 then figures 3 (hl / 2) ++ glyphText ['.', '5'] else figures 5 (hl / 2) := by
  split
  · next odd =>
    have spaces : 5 - ((numberText (hl / 2)).length + 2) = 3 - (numberText (hl / 2)).length := by omega
    rw [← numberRight_eq_figures 2 (by omega) (by omega)]
    simp [linesPerField, odd, numberRight, glyphText, spaces]
  · next even =>
    rw [← numberRight_eq_figures 4 (by omega) (by omega)]
    simp [linesPerField, even, numberRight]

end Sys2Proof.Machine
end

section
/-!
SUPPORT. The service page (O60, R174): each row's pieces lay out the row that R174 gives.
-/

namespace Sys2Proof.Machine

@[simp] theorem glyphText_length (text : List Char) : (glyphText text).length = text.length := by
  simp [glyphText]

theorem boardName_length (b : BoardState) : (boardName b).length ≤ 11 := by
  cases b <;> decide

theorem faultPiece_fits (latch : Bool) (column : Nat) {code : List Char} {width : Nat} (four : code.length = 4) (room : 4 ≤ width) :
    (faultPiece latch column code).text.length ≤ width := by
  cases latch <;> simp [faultPiece, four, room]

/-- A fault code fills its four columns, all blank while its latch is clear. -/
theorem padded_fault (latch : Bool) {code : List Char} (four : code.length = 4) :
    padded 4 (if latch then glyphText code else []) = faultCode latch code ∧
    padded 5 (if latch then glyphText code else []) = faultCode latch code ++ [0] := by
  cases latch
  · exact ⟨rfl, rfl⟩
  · simp [padded, faultCode, four]

theorem LaidOut.of_eq {k : Nat} {pieces : List Piece} {text text' : List Glyph} (h : LaidOut k pieces text) (same : text' = text) :
    LaidOut k pieces text' :=
  same ▸ h

/-- The five columns of the lines per field on row 2 (R29, R174). -/
def linesField : Option JudgedSignature → List Glyph
  | none => [0, 0, 0, 0, 0]
  | some j => if j.sig.hl % 2 = 1 then figures 3 (j.sig.hl / 2) ++ glyphText ['.', '5'] else figures 5 (j.sig.hl / 2)

@[simp] theorem linesField_length (current : Option JudgedSignature) : (linesField current).length = 5 := by
  cases current with
  | none => rfl
  | some j =>
    simp only [linesField]
    split <;> simp

theorem ringPieces_eq {t : Tmu} (fit : ∀ j, t.current = some j → j.sig.hl < 2000) : ringPieces t =
    [{ column := 0, text := glyphText ['L', 'I', 'N', 'E', 'S'] }, { column := 6, text := linesField t.current },
     { column := 12, text := glyphText ['R', 'I', 'N', 'G'] }, { column := 17, text := t.ring.map recordMark }] := by
  cases current : t.current with
  | none =>
    simp only [ringPieces, current]
    rfl
  | some j =>
    simp only [ringPieces, current, linesPerField_right (fit j current)]
    rfl

section
variable (s : State)

/-- Row 1 shows the current signature in its columns. -/
theorem State.serviceRow_signature (fit : s.FiguresFit) : LaidOut 0 (s.servicePieces 1) (s.serviceRow 1) := by
  obtain ⟨figuresFit, -⟩ := fit
  unfold State.servicePieces State.serviceRow
  cases current : s.tmu.current with
  | none => exact LaidOut.field (width := 4) (by simp) (by simp) (.last 4 _)
  | some j =>
    obtain ⟨l16, hl, w⟩ := figuresFit j current
    have mark : glyphText [if j.sig.hl % 2 = 1 then 'I' else 'P', ' '] =
        padded 2 (glyphText [if j.sig.interlaced then 'I' else 'P']) := by
      simp only [Signature.interlaced, beq_iff_eq]
      split <;> rfl
    simp only [signaturePieces, numberRight_eq_figures 4 (by omega) l16,
      numberRight_eq_figures 3 (by omega) (show j.sig.hl < 10 ^ 4 by omega), numberRight_eq_figures 2 (by omega) w]
    refine LaidOut.of_eq (.field (width := 4) (by simp) (by simp) (.field (width := 6) (by simp) (by simp)
      (.field (width := 5) (by simp) (by simp) (.field (width := 4) (by simp) (by simp)
      (.field (width := 2) (by simp) (by simp) (.last 21 _)))))) ?_
    rw [mark, padded_succ (figures_length ..), padded_succ (figures_length ..), padded_succ (figures_length ..)]
    simp only [List.append_assoc]
    rfl

/-- Row 2 shows the lines per field, right-aligned, and the ring. -/
theorem State.serviceRow_ring (fit : s.FiguresFit) : LaidOut 0 (s.servicePieces 2) (s.serviceRow 2) := by
  obtain ⟨figuresFit, -⟩ := fit
  have pieces := ringPieces_eq fun j current => by
    obtain ⟨-, hl, -⟩ := figuresFit j current
    exact hl
  have row : s.serviceRow 2 = glyphText ['L', 'I', 'N', 'E', 'S', ' '] ++ linesField s.tmu.current ++
      glyphText [' ', 'R', 'I', 'N', 'G', ' '] ++ s.tmu.ring.map recordMark :=
    congrArg₂ (· ++ ·) rfl (List.map_congr_left fun r _ => by cases r <;> rfl)
  rw [row, show s.servicePieces 2 = ringPieces s.tmu from rfl, pieces]
  refine LaidOut.of_eq (.field (width := 6) (by simp) (by simp) (.field (width := 6) (by simp) (by simp)
    (.field (width := 5) (by simp) (by simp) (.last 17 _)))) ?_
  rw [padded_succ (linesField_length _), List.append_assoc, List.append_assoc, List.append_assoc]
  rfl

/-- Row 3 shows the board's state in its eleven columns. -/
theorem State.serviceRow_board : LaidOut 0 (s.servicePieces 3) (s.serviceRow 3) := by
  refine LaidOut.of_eq (.field (width := 6) (by simp) (by simp) (.field (width := 11) (boardName_length _) (by simp)
    (.field (width := 3) (by simp) (by simp) (.last 20 _)))) ?_
  unfold State.serviceRow
  cases s.bsv.board <;> rfl

/-- Row 4 shows the presence of every peer. -/
theorem State.serviceRow_roster : LaidOut 0 (s.servicePieces 4) (s.serviceRow 4) := by
  refine LaidOut.of_eq (.field (width := 7) (by simp) (by simp) (.last 7 _)) ?_
  refine congrArg₂ (· ++ ·) rfl (List.map_congr_left fun r _ => ?_)
  by_cases own : r = s.rank
  · rw [if_pos own, State.presenceMark, if_pos own]
  · have peer : s.entry r = s.roster[r] := if_neg own
    cases presence : s.roster[r].presence <;> simp only [State.presenceMark, if_neg own, peer, presence]

/-- Row 5 shows the four line counters. -/
theorem State.serviceRow_counters (fit : s.FiguresFit) : LaidOut 0 (s.servicePieces 5) (s.serviceRow 5) := by
  obtain ⟨-, clash, check, short, overrun⟩ := fit
  unfold State.servicePieces counterPieces
  simp only [numberRight_eq_figures 2 (by omega) clash, numberRight_eq_figures 2 (by omega) check,
    numberRight_eq_figures 2 (by omega) short, numberRight_eq_figures 2 (by omega) overrun]
  exact LaidOut.of_eq (.field (width := 5) (by simp) (by simp) (.field (width := 5) (by simp) (by simp)
    (.field (width := 5) (by simp) (by simp) (.field (width := 5) (by simp) (by simp) (.last 20 _))))) rfl

/-- Row 6 shows the faults of slicer, board and line. -/
theorem State.serviceRow_faults : LaidOut 0 (s.servicePieces 6) (s.serviceRow 6) := by
  refine LaidOut.of_eq (.field (width := 5) (faultPiece_fits _ 0 rfl (by omega)) (by simp [faultPiece])
    (.field (width := 5) (faultPiece_fits _ 5 rfl (by omega)) (by simp [faultPiece])
    (.field (width := 5) (faultPiece_fits _ 10 rfl (by omega)) (by simp [faultPiece])
    (.field (width := 5) (faultPiece_fits _ 15 rfl (by omega)) (by simp [faultPiece])
    (.field (width := 4) (faultPiece_fits _ 20 rfl (by omega)) (by simp) (.nil 24)))))) ?_
  simp [State.serviceRow, padded_fault]

/-- Row 7 shows the faults of the coin unit. -/
theorem State.serviceRow_coinFaults : LaidOut 0 (s.servicePieces 7) (s.serviceRow 7) := by
  refine LaidOut.of_eq (.field (width := 5) (faultPiece_fits _ 0 rfl (by omega)) (by simp [faultPiece])
    (.field (width := 5) (faultPiece_fits _ 5 rfl (by omega)) (by simp [faultPiece])
    (.field (width := 5) (faultPiece_fits _ 10 rfl (by omega)) (by simp [faultPiece])
    (.field (width := 4) (faultPiece_fits _ 15 rfl (by omega)) (by simp) (.nil 19))))) ?_
  simp [State.serviceRow, padded_fault]

/-- Each row of the page is laid out as R174 gives it. -/
theorem State.servicePieces_laidOut (fit : s.FiguresFit) (row : Fin 9) : LaidOut 0 (s.servicePieces row.val) (s.serviceRow row) := by
  match row with
  | 0 => exact LaidOut.of_eq (.field (width := 13) (by simp) (by simp) (.last 13 _)) rfl
  | 1 => exact s.serviceRow_signature fit
  | 2 => exact s.serviceRow_ring fit
  | 3 => exact s.serviceRow_board
  | 4 => exact s.serviceRow_roster
  | 5 => exact s.serviceRow_counters fit
  | 6 => exact s.serviceRow_faults
  | 7 => exact s.serviceRow_coinFaults
  | 8 => exact LaidOut.of_eq (.field (width := 2) (by simp) (by simp) (.last 2 _)) rfl

end

end Sys2Proof.Machine
end

section
/-!
SUPPORT. The cell memory (O60): notice line (R172), game list (R173) and service page (R174) of a state whose cells have followed it.
-/

namespace Sys2Proof.Machine

/-- The cells hold what the menu controller writes into them (assumption log 26). -/
def State.CellsFollow (s : State) : Prop :=
  ∀ (row : Fin 10) (c : Fin 24), s.cell row c = s.cellContent row.val c.val

theorem State.settled_cellsFollow (s : State) : s.settled.CellsFollow := by
  intro row c
  rw [State.settled_cell, State.settled_cellContent]

/-! ## The game list (R173) -/

/-- In a sorted list a kept element stands behind the kept ones below it. -/
theorem getElem?_filter_of_sorted {l : List Rank} (sorted : l.Pairwise (· < ·)) (p : Rank → Bool) {r : Rank} (mem : r ∈ l)
    (kept : p r = true) : (l.filter p)[(l.filter (fun k => decide (k < r) && p k)).length]? = some r := by
  induction l with
  | nil => cases mem
  | cons a l ih =>
    obtain ⟨above, sorted⟩ := List.pairwise_cons.mp sorted
    rcases List.mem_cons.mp mem with rfl | mem
    · have none_below : l.filter (fun k => decide (k < r) && p k) = [] :=
        List.filter_eq_nil_iff.mpr fun k hk => by simp [(above k hk).not_gt]
      simp [kept, none_below]
    · have below := above r mem
      cases pa : p a <;> simpa [below, pa] using ih sorted mem

theorem State.listed_iff (s : State) (r : Rank) : s.listed r = true ↔ r = s.rank ∨ s.roster[r].presence = .present := by
  by_cases own : r = s.rank
  · simp [State.listed, State.entry, State.ownEntry, own]
  · rw [State.listed, State.entry, if_neg own, beq_iff_eq, or_iff_right own]

/-- A listed rank stands in its row (R173). -/
theorem State.gameList_listRow {s : State} {r : Rank} (listed : s.listed r = true) : s.gameList[s.listRow r - 1]? = some r := by
  have all : r ∈ allRanks := List.mem_of_mem_filter ((s.mem_gameList r).mpr listed)
  have sorted : allRanks.Pairwise (· < ·) := by decide
  rw [State.listRow, Nat.add_sub_cancel_left]
  exact getElem?_filter_of_sorted sorted s.listed all listed

/-- The list ends before the notice line. -/
theorem State.listRow_lt {s : State} {r : Rank} (listed : s.listed r = true) : s.listRow r < 9 := by
  obtain ⟨within, -⟩ := List.getElem?_eq_some_iff.mp (State.gameList_listRow listed)
  have few : s.gameList.length ≤ 8 := List.length_filter_le s.listed allRanks
  have first : 1 ≤ s.listRow r := Nat.le_add_right 1 _
  omega

theorem State.listCell_of_listed {s : State} {r : Rank} (listed : s.listed r = true) (c : Nat) : s.listCell (s.listRow r) c =
    { glyph := s.entryGlyph r c, colour := if s.mnu.cursor = r then 6 else 7, background := true } := by
  have row : s.listRow r ≠ 0 := by simp [State.listRow]
  rw [State.listCell, if_neg row, State.gameList_listRow listed]

theorem State.listCell_of_beyond {s : State} {row : Nat} (beyond : s.gameList.length < row) (c : Nat) :
    s.listCell row c = { glyph := 0, colour := 7, background := true } := by
  have absent : s.gameList[row - 1]? = none := List.getElem?_eq_none (by omega)
  rw [State.listCell, if_neg (by omega), absent]

theorem State.listCell_background (s : State) (row c : Nat) : (s.listCell row c).background = true := by
  unfold State.listCell
  split
  · rfl
  · split <;> rfl

theorem stateMark_eq (e : RosterEntry) : stateMark e =
    if e.holding = true then 55
    else if e.board = some .ready then 56
    else if e.board = some .resetting ∨ e.board = some .settling then 57
    else if e.board = some .offWindow then 58
    else if e.board = some .stalled ∨ e.board = some .failed then 59
    else if e.board = some .vacant then 60
    else glyphOf '?' := by
  unfold stateMark
  split
  · rfl
  · rcases e.board with - | board
    · rfl
    · cases board <;> rfl

/-- The columns of the title. -/
theorem State.entryGlyph_title (s : State) (r : Rank) {c : Nat} (from' : 3 ≤ c) (upto : c < 23) : s.entryGlyph r c =
    ((s.entry r).title.getD (glyphText ['B', 'O', 'A', 'R', 'D', ' '] ++ [digitGlyph r.val])).getD (c - 3) 0 := by
  have shown : shownTitle r (s.entry r) =
      (s.entry r).title.getD (glyphText ['B', 'O', 'A', 'R', 'D', ' '] ++ [digitGlyph r.val]) := by
    unfold shownTitle
    cases (s.entry r).title <;> rfl
  rw [State.entryGlyph, if_neg (by omega), if_neg (by omega), if_neg (by omega), if_pos upto, shown]

/-! ## What stands in the rows -/

namespace State.CellsFollow
variable {s : State} (h : s.CellsFollow)
include h

/-- Row 9 is the notice line in every menu state. -/
theorem notice_cell (c : Fin 24) : s.cell 9 c = s.noticeCell (decide (s.mnu.state ≠ .closed)) c.val := by
  rw [h]
  unfold State.cellContent
  cases s.mnu.state <;> rfl

theorem noticeShown : s.NoticeShown := by
  refine ⟨fun n set => ?_, fun clear fill => ?_, fun clear dark => ?_⟩
  · have line : s.noticeLine = some (noticeText n, noticeColour n) := by simp [State.noticeLine, set]
    have cell (c : Fin 24) : s.cell 9 c = { glyph := (noticeText n).getD c.val 0, colour := noticeColour n, background := true } := by
      rw [h.notice_cell, State.noticeCell, line]
    refine ⟨fun c => ?_, fun c => ?_⟩
    · rw [cell]
      cases n <;> rfl
    · rw [cell]
      cases n <;> exact ⟨rfl, rfl⟩
  · have line : s.noticeLine = some (glyphText ['N', 'O', ' ', 'S', 'I', 'G', 'N', 'A', 'L'], 6) := by
      simp [State.noticeLine, clear, fill]
    have cell (c : Fin 24) : s.cell 9 c =
        { glyph := (glyphText ['N', 'O', ' ', 'S', 'I', 'G', 'N', 'A', 'L']).getD c.val 0, colour := 6, background := true } := by
      rw [h.notice_cell, State.noticeCell, line]
    exact ⟨fun c => by rw [cell], fun c => by rw [cell]; exact ⟨rfl, rfl⟩⟩
  · have line : s.noticeLine = none := by simp [State.noticeLine, clear, dark]
    have cell (c : Fin 24) : s.cell 9 c = { glyph := 0, colour := 7, background := decide (s.mnu.state ≠ .closed) } := by
      rw [h.notice_cell, State.noticeCell, line]
    exact ⟨fun c => by rw [cell]; rfl, fun c => by rw [cell]⟩

theorem closed_cell (closed : s.mnu.state = .closed) {row : Fin 10} (above : row ≠ 9) (c : Fin 24) : s.cell row c = Cell.reset := by
  have other : row.val ≠ 9 := fun same => above (Fin.ext same)
  rw [h, State.cellContent, closed]
  exact if_neg other

theorem list_cell (shows : s.mnu.state = .browse ∨ s.mnu.state = .wait ∨ s.mnu.state = .notice) {row : Fin 10} (above : row ≠ 9)
    (c : Fin 24) : s.cell row c = s.listCell row.val c.val := by
  have other : row.val ≠ 9 := fun same => above (Fin.ext same)
  rw [h, State.cellContent]
  rcases shows with state | state | state <;> rw [state] <;> exact if_neg other

theorem service_cell (service : s.mnu.state = .service) {row : Fin 10} (above : row ≠ 9) (c : Fin 24) :
    s.cell row c = s.serviceCell row.val c.val := by
  have other : row.val ≠ 9 := fun same => above (Fin.ext same)
  rw [h, State.cellContent, service]
  exact if_neg other

/-- An open menu has its background everywhere (R172 to R174). -/
theorem background (isOpen : s.mnu.state ≠ .closed) (row : Fin 10) (c : Fin 24) : (s.cell row c).background = true := by
  by_cases last : row = 9
  · rw [last, h.notice_cell, State.noticeCell]
    split
    · rfl
    · exact decide_eq_true isOpen
  · cases state : s.mnu.state with
    | closed => exact absurd state isOpen
    | browse | wait | notice => rw [h.list_cell (by simp [state]) last, State.listCell_background]
    | service => rw [h.service_cell state last, State.serviceCell]

theorem listShown : s.ListShown := by
  refine ⟨fun closed row above => ⟨fun c => ?_, fun c => ?_⟩, fun shows => ?_⟩
  · rw [h.closed_cell closed above]
    rfl
  · rw [h.closed_cell closed above]
    rfl
  have isOpen : s.mnu.state ≠ .closed := by
    rcases shows with state | state | state <;> simp [state]
  refine ⟨h.background isOpen, fun c => ?_, fun c _ => ?_, fun r present row hrow => ?_, fun row above beyond c => ?_⟩
  · rw [h.list_cell shows (by decide)]
    rfl
  · rw [h.list_cell shows (by decide)]
    rfl
  · have listed := (s.listed_iff r).mpr present
    have above : row ≠ 9 := by
      have before := State.listRow_lt listed
      rintro rfl
      exact absurd hrow before.ne'
    have cell (c : Fin 24) : s.cell row c =
        { glyph := s.entryGlyph r c.val, colour := if s.mnu.cursor = r then 6 else 7, background := true } := by
      rw [h.list_cell shows above, hrow, State.listCell_of_listed listed]
    exact ⟨congrArg Cell.glyph (cell 0), congrArg Cell.glyph (cell 1), congrArg Cell.glyph (cell 2),
      fun c from' upto => (congrArg Cell.glyph (cell c)).trans (s.entryGlyph_title r from' upto),
      (congrArg Cell.glyph (cell 23)).trans (stateMark_eq _), fun c => congrArg Cell.colour (cell c)⟩
  · rw [h.list_cell shows above, State.listCell_of_beyond beyond]
    rfl

theorem serviceShown : s.ServiceShown := by
  intro service
  refine ⟨h.background (by simp [service]), fun row above c => ?_, fun fit row c => ?_⟩
  · rw [h.service_cell service above]
    exact ite_congr (by simp [Fin.ext_iff]) (fun _ => rfl) (fun _ => rfl)
  · have above : row.castSucc ≠ 9 := by simp [Fin.ext_iff]; omega
    rw [h.service_cell service above]
    exact s.servicePieces_laidOut fit row c.val (Nat.zero_le _)

theorem cellsShown : s.CellsShown :=
  ⟨h.noticeShown, h.listShown, h.serviceShown⟩

end State.CellsFollow

/-- Every command ends with the cells following, whatever they held before. -/
theorem keeps_cellsShown : Keeps State.CellsShown := by
  refine keeps_of_exec (fun _ _ h => h) (fun _ _ h => h) fun c s t _ ht => ?_
  obtain ⟨u, run, -⟩ := exec_countsKept c s
  rw [run] at ht
  rw [next_of_done ht]
  exact u.settled_cellsFollow.cellsShown

end Sys2Proof.Machine
end

section
open Sys2Proof.Machine

/-- Settles O60: lamps by the patterns that every command leaves them in, cells by what each command ends with. -/
theorem everyStepLeavesStateShown : Obligations.EveryStepLeavesStateShown :=
  ⟨keeps_lampsShown, keeps_cellsShown⟩
end

section
/-!
SUPPORT. The menu's timers (O50, R169, R170, R172) and FAILED handed to it (R169): each expiry as the operation it runs, and the menu that
operation leaves.
-/

namespace Sys2Proof.Machine

section
variable {s : State} {due : Moment}

theorem exec_selectHoldExpiry (hdue : s.mnu.selectTimer = some due) :
    exec .selectHoldExpiry s = .next (s.advanceTo due).selectExpires.settled := by
  simp [exec, execSelectHoldExpiry, done_eq, hdue]

theorem exec_browseTimerExpiry (hdue : s.mnu.browseTimer = some due) :
    exec .browseTimerExpiry s = .next (s.advanceTo due).closeMenu.settled := by
  simp [exec, execBrowseTimerExpiry, done_eq, hdue]

theorem exec_noticeTimerExpiry (hdue : s.mnu.noticeTimer = some due) :
    exec .noticeTimerExpiry s = .next (s.advanceTo due).noticeExpires.settled := by
  simp [exec, execNoticeTimerExpiry, done_eq, hdue]

end

/-- BROWSE with the cursor on the own entry, for 20 s (R169, R170). -/
theorem State.openBrowse_mnu (s : State) :
    s.openBrowse.mnu = { s.mnu with state := .browse, cursor := s.rank, browseTimer := some (s.now + 960000000) } := by
  simp [State.openBrowse, State.enterBrowse_mnu, browseTime, ms, ticksPerMs]

/-- SELECT held opens the CLOSED menu of a HOLDING node and is consumed (R169). -/
theorem State.selectExpires_of_opens {s : State} (latched : s.latched .select = true) (closed : s.mnu.state = .closed)
    (holding : s.spe.role = .holding) :
    s.selectExpires = ({ s with mnu := { s.mnu with selectTimer := none } }.setLatch .select false).openBrowse :=
  if_pos ⟨latched, closed, holding⟩

theorem State.selectExpires_of_stays {s : State}
    (stays : ¬(s.latched .select = true ∧ s.mnu.state = .closed ∧ s.spe.role = .holding)) :
    s.selectExpires = { s with mnu := { s.mnu with selectTimer := none } } :=
  if_neg stays

/-- The text is cleared, and NOTICE gives way to BROWSE (R172). -/
theorem State.noticeExpires_mnu (s : State) : s.noticeExpires.mnu =
    if s.mnu.state = .notice then
      { s.mnu with state := .browse, notice := none, noticeTimer := none, browseTimer := some (s.now + 960000000) }
    else { s.mnu with notice := none, noticeTimer := none } := by
  simp only [State.noticeExpires]
  split
  · next notice => rw [if_pos notice, State.enterBrowse_mnu]; rfl
  · next other => exact (if_neg other).symm

section
variable {s : State}

/-- FAILED opens the CLOSED menu of a HOLDING node (R169). -/
theorem State.menuBoard_opens (closed : s.mnu.state = .closed) (holding : s.spe.role = .holding) :
    s.menuBoard .failed = s.openBrowse.timedNotice .boardFailed := by
  simp [State.menuBoard, State.menuBoardFailed, closed, holding]

/-- In BROWSE and NOTICE FAILED sets the text alone (R169). -/
theorem State.menuBoard_notes (h : s.mnu.state = .browse ∨ s.mnu.state = .notice) :
    s.menuBoard .failed = s.timedNotice .boardFailed := by
  rcases h with state | state <;> simp [State.menuBoard, State.menuBoardFailed, state]

/-- FAILED does nothing in WAIT and SERVICE, nor in CLOSED in another role; no other board state does anything (R169). -/
theorem State.menuBoard_of_inert {board : BoardState} (h : board ≠ .failed ∨ s.mnu.state = .wait ∨ s.mnu.state = .service ∨
    s.mnu.state = .closed ∧ s.spe.role ≠ .holding) : s.menuBoard board = s := by
  unfold State.menuBoard
  split
  · rcases h with other | state | state | ⟨state, role⟩
    · exact absurd rfl other
    · simp [State.menuBoardFailed, state]
    · simp [State.menuBoardFailed, state]
    · simp [State.menuBoardFailed, state, role]
  · rfl

end

end Sys2Proof.Machine
end

section
open Sys2Proof.Machine

/-- Settles O50: each expiry by the operation it runs, FAILED by the menu state. -/
theorem menuTimersEnd : Obligations.MenuTimersEnd := by
  refine ⟨fun s due => ⟨fun hdue => ?_, fun hdue => ?_, fun hdue => ?_⟩, fun s board => ⟨?_, ?_, State.menuBoard_of_inert⟩⟩
  · refine ⟨_, exec_selectHoldExpiry hdue, by simp, fun ⟨latched, closed, holding⟩ => ?_, fun stays => ?_⟩
    · rw [State.selectExpires_of_opens (s := s.advanceTo due) latched closed holding]
      exact ⟨by simp [State.openBrowse_mnu], by simp [State.latched, State.setLatch], by simp [State.agreesOutside_iff, follows]⟩
    · rw [State.selectExpires_of_stays (s := s.advanceTo due) stays]
      exact ⟨by simp, by simp [State.agreesOutside_iff, follows]⟩
  · exact ⟨_, exec_browseTimerExpiry hdue, by simp, by simp [State.closeMenu_mnu], by simp [State.agreesOutside_iff, follows]⟩
  · refine ⟨_, exec_noticeTimerExpiry hdue, by simp, fun notice => ?_, fun other => ?_, by simp [State.agreesOutside_iff, follows]⟩
    · simp [State.noticeExpires_mnu, notice]
    · simp [State.noticeExpires_mnu, other]
  · rintro rfl closed holding
    rw [State.menuBoard_opens closed holding]
    exact ⟨by simp [State.openBrowse_mnu, noticeTime, ms, ticksPerMs], by simp [State.agreesOutside_iff]⟩
  · rintro rfl listed
    exact State.menuBoard_notes listed
end

section
/-!
SUPPORT. The overlay grid (O52): its lines (R166, Rows), what a line start takes (R164, R165), the moments of the dots (R166) and what they
put on the bus (R163, R164).
-/

namespace Sys2Proof.Machine

/-! ## Lines (R166) -/

theorem gridLine_iff (o : OverlayConfig) (n g : Nat) (scaled : 0 < o.scale) :
    gridLine o n = some g ↔ g < 100 ∧ o.v0 + o.scale * g ≤ n ∧ n < o.v0 + o.scale * (g + 1) := by
  have quotient : o.v0 ≤ n → ((n - o.v0) / o.scale = g ↔ o.v0 + o.scale * g ≤ n ∧ n < o.v0 + o.scale * (g + 1)) := by
    intro below
    rw [Nat.div_eq_iff scaled, Nat.mul_add, Nat.mul_comm g]
    omega
  unfold gridLine
  split
  · next above =>
    have := Nat.zero_le (o.scale * g)
    simp only [reduceCtorEq, false_iff]
    omega
  · next below =>
    rw [← quotient (Nat.le_of_not_lt below)]
    split
    · next inside =>
      rw [Option.some.injEq]
      exact ⟨fun same => ⟨same ▸ inside, same⟩, And.right⟩
    · next outside =>
      simp only [reduceCtorEq, false_iff]
      rintro ⟨few, rfl⟩
      exact outside few

/-- No line of the grid lies above V0, nor below its last line. -/
theorem gridLine_of_outside {o : OverlayConfig} {n : Nat} (scaled : 0 < o.scale) (h : n < o.v0 ∨ o.v0 + 100 * o.scale ≤ n) :
    gridLine o n = none := by
  rw [Option.eq_none_iff_forall_ne_some]
  intro g hg
  obtain ⟨few, from', upto⟩ := (gridLine_iff o n g scaled).mp hg
  have last : o.scale * (g + 1) ≤ o.scale * 100 := Nat.mul_le_mul_left _ few
  have := Nat.zero_le (o.scale * g)
  omega

section
variable {s : State} {o : OverlayConfig} {r : Signature} (overlay : s.quantities.overlay = some o) (reference : s.tmu.reference = some r)
  (scaled : 0 < o.scale)
include overlay reference

theorem State.rowDrawn_eq (n fieldLines : Nat) : s.rowDrawn n fieldLines = if n < 3 ∨ fieldLines ≤ n then none
    else (gridLine o n).map (fun g => { l16 := r.l16, glyphLine := Fin.ofNat 10 (g % 10), cells := s.rowContent (g / 10) }) := by
  rw [State.rowDrawn, overlay, reference]

include scaled

theorem State.rowDrawn_of_outside {n fieldLines : Nat} (h : n < 3 ∨ fieldLines ≤ n ∨ n < o.v0 ∨ o.v0 + 100 * o.scale ≤ n) :
    s.rowDrawn n fieldLines = none := by
  rw [State.rowDrawn_eq overlay reference]
  split
  · rfl
  · next unclipped => rw [gridLine_of_outside scaled (by tauto), Option.map_none]

/-- Glyph line y of row r, where it is not clipped. -/
theorem State.rowDrawn_of_inside {n fieldLines : Nat} (row y : Fin 10) (first : 3 ≤ n) (last : n < fieldLines)
    (from' : o.v0 + o.scale * (10 * row.val + y.val) ≤ n) (upto : n < o.v0 + o.scale * (10 * row.val + y.val + 1)) :
    s.rowDrawn n fieldLines = some { l16 := r.l16, glyphLine := y, cells := s.rowContent row.val } := by
  have line : gridLine o n = some (10 * row.val + y.val) := (gridLine_iff o n _ scaled).mpr ⟨by omega, from', upto⟩
  have mod : Fin.ofNat 10 ((10 * row.val + y.val) % 10) = y := Fin.ext (by simp only [Fin.ofNat]; omega)
  have div : (10 * row.val + y.val) / 10 = row.val := by omega
  rw [State.rowDrawn_eq overlay reference, if_neg (by omega), line, Option.map_some, mod, div]

end

/-! ## Line starts (R164, R165) -/

theorem State.noticeLine_isSome (s : State) : s.noticeLine.isSome = true ↔ s.mnu.notice ≠ none ∨ s.fsg.active = true := by
  unfold State.noticeLine
  cases s.mnu.notice <;> simp

/-- The notice line is blank without a text and without fill. -/
theorem State.drawsLine_iff {s : State} (closed : s.osw.video = .isClosed) : s.drawsLine = true ↔
    (s.mnu.state ≠ .closed ∨ s.mnu.notice ≠ none ∨ s.fsg.active = true) ∧ s.tmu.reference ≠ none := by
  simp only [State.drawsLine, closed, Bool.and_eq_true, Bool.or_eq_true, bne_iff_ne, beq_iff_eq, State.noticeLine_isSome, true_and,
    ne_eq, ← Option.isSome_iff_ne_none]

theorem State.referenceLines_eq (s : State) : s.referenceLines = (s.tmu.reference.map (fun r => r.hl / 2)).getD 0 := by
  unfold State.referenceLines
  cases s.tmu.reference <;> rfl

/-- Line 0 draws nothing: it is clipped. -/
theorem State.rowDrawn_zero (s : State) (fieldLines : Nat) : s.rowDrawn 0 fieldLines = none := by
  unfold State.rowDrawn
  split
  · exact if_pos (.inl (by omega))
  · rfl

/-- A line start while the switch is closed takes count, decision and row. -/
theorem State.beginLine_of_closed {s : State} (closed : s.osw.video = .isClosed) (n : Nat) (start : Moment) (fieldLines : Nat) :
    let draws := (s.mnu.state ≠ .closed ∨ s.mnu.notice ≠ none ∨ s.fsg.active = true) ∧ s.tmu.reference ≠ none
    s.beginLine n start fieldLines = { s with ovg := { s.ovg with
      count := some { n := n, start := start, fieldLines := fieldLines }
      draw := decide draws, row := if draws then s.rowDrawn n fieldLines else none } } := by
  intro draws
  have decision : s.drawsLine = decide draws := Bool.eq_iff_iff.mpr ((State.drawsLine_iff closed).trans decide_eq_true_iff.symm)
  simp only [State.beginLine, decision, decide_eq_true_eq]

/-- An open switch, and a count that has not begun, take no later line start. -/
theorem State.overlayLineStart_of_uncounted {s : State} (start : Moment) (h : s.osw.video = .isOpen ∨ s.ovg.count = none) :
    s.overlayLineStart start = s := by
  rcases h with h | h <;> simp [State.overlayLineStart, h]

theorem State.overlayBoardEdge_of_uncounted {s : State} (start : Moment) (h : s.osw.video = .isOpen ∨ s.ovg.count = none) :
    s.overlayBoardEdge start = s := by
  unfold State.overlayBoardEdge
  split
  · rw [State.overlayLineStart_of_uncounted start h, ite_self]
  · rfl

/-- An edge is no line start under source FILL, nor without a reference. -/
theorem State.overlayBoardEdge_of_unused {s : State} (start : Moment) (h : s.osw.source = .fill ∨ s.tmu.reference = none) :
    s.overlayBoardEdge start = s := by
  rcases h with h | h <;> simp [State.overlayBoardEdge, h]

/-! ## Dots (R166) -/

theorem dotStart_last (l16 : Nat) {dots : Nat} (anyDots : 0 < dots) : dotStart l16 dots dots = l16 / 16 := by
  rw [dotStart, Nat.mul_comm 16, Nat.mul_div_mul_left _ _ anyDots]

theorem dotStart_mono (l16 dots : Nat) {j k : Nat} (h : j ≤ k) : dotStart l16 dots j ≤ dotStart l16 dots k :=
  Nat.div_le_div_right (Nat.mul_le_mul_right _ h)

/-- The dot in progress is the one begun and not ended; there are D of them. -/
theorem dotAt_iff (l16 : Nat) {dots : Nat} (t k : Nat) (anyDots : 0 < dots) :
    dotAt l16 dots t = some k ↔ k < dots ∧ dotStart l16 dots k ≤ t ∧ t < dotStart l16 dots (k + 1) := by
  rcases Nat.eq_zero_or_pos l16 with rfl | lit
  · simp [dotAt, dotStart]
  · rw [dotAt_eq_some l16 dots t k lit anyDots, and_congr_left_iff]
    rintro ⟨begun, unended⟩
    rw [← dotStart_last l16 anyDots]
    constructor
    · intro before
      by_contra beyond
      have := dotStart_mono l16 dots (Nat.le_of_not_lt beyond)
      omega
    · intro within
      exact unended.trans_le (dotStart_mono l16 dots within)

/-- The same for dots that count from a moment: none before it. -/
theorem dotAt_from_iff (l16 : Nat) {dots : Nat} (start now k : Nat) (anyDots : 0 < dots) :
    (if now < start then none else dotAt l16 dots (now - start)) = some k ↔
      k < dots ∧ start + dotStart l16 dots k ≤ now ∧ now < start + dotStart l16 dots (k + 1) := by
  split
  · simp only [reduceCtorEq, false_iff]
    omega
  · rw [dotAt_iff l16 _ _ anyDots]
    omega

/-- A dot in progress before dot H0, after the line's last dot, or from dot H0 + 192 on lies in no column. -/
theorem dot_outside {l16 dots h0 k start now : Nat} (anyDots : 0 < dots) (within : k < dots) (begun : start + dotStart l16 dots k ≤ now)
    (unended : now < start + dotStart l16 dots (k + 1))
    (h : now < start + dotStart l16 dots h0 ∨ start + l16 / 16 ≤ now ∨ start + dotStart l16 dots (h0 + 192) ≤ now) :
    k < h0 ∨ h0 + 192 ≤ k := by
  rcases h with before | after | behind
  · left
    by_contra beyond
    have := dotStart_mono l16 dots (Nat.le_of_not_lt beyond)
    omega
  · have := dotStart_mono l16 dots (show k + 1 ≤ dots from within)
    rw [dotStart_last l16 anyDots] at this
    omega
  · right
    by_contra inside
    have := dotStart_mono l16 dots (show k + 1 ≤ h0 + 192 by omega)
    omega

/-! ## The bus (R163, R164) -/

/-- An open switch drives nothing, whatever the overlay holds (R97). -/
theorem State.busPictureNow_of_open {s : State} (h : s.osw.video = .isOpen) : s.busPictureNow = .disconnected := by
  unfold State.busPictureNow
  split
  · simp [State.busPicture, h]
  · simp [State.switchPicture, h]

/-- A dot that shows the picture leaves the bus to the switch. -/
theorem State.busPictureNow_of_picture {s : State} (h : ∀ k, s.dotNow = some k → s.dotOutput k = .picture) :
    s.busPictureNow = s.switchPicture := by
  unfold State.busPictureNow
  split
  · next k now =>
    rw [State.busPicture, h k now]
    cases video : s.osw.video with
    | isOpen => simp [State.switchPicture, video]
    | isClosed => rfl
  · rfl

theorem State.switchPicture_eq (s : State) : s.switchPicture = if s.osw.video = .isOpen then BusPicture.disconnected
    else if s.osw.fillBlack = true ∨ s.osw.passBlack = true then .black else .board := by
  unfold State.switchPicture
  cases s.osw.video <;> rfl

/-- A dot on the bus of a closed switch, by what the overlay puts out for it. -/
theorem State.busPicture_of_closed {s : State} (closed : s.osw.video = .isClosed) (k : Nat) :
    (∀ c, s.dotOutput k = .colour c → s.busPicture k = .colour c) ∧ (s.dotOutput k = .black → s.busPicture k = .black) ∧
    (s.dotOutput k = .picture → s.busPicture k = if s.osw.fillBlack = true ∨ s.osw.passBlack = true then .black else .board) := by
  refine ⟨fun c output => ?_, fun output => ?_, fun output => ?_⟩ <;> simp [State.busPicture, State.switchPicture, closed, output]

/-- Nothing is drawn without a row, a decision, an overlay and a line count. -/
theorem State.dotOutput_of_undrawn {s : State}
    (h : s.ovg.row = none ∨ s.ovg.draw = false ∨ s.quantities.overlay = none ∨ s.ovg.count = none) {k : Nat}
    (now : s.dotNow = some k) : s.dotOutput k = .picture := by
  unfold State.dotNow at now
  split at now
  · next c row o count hrow overlay =>
    have undrawn : s.ovg.draw = false := by simpa [count, hrow, overlay] using h
    simp [State.dotOutput, hrow, overlay, undrawn]
  · cases now

section
variable {s : State} {o : OverlayConfig} {row : DrawnRow} {c : LineCount} (overlay : s.quantities.overlay = some o)
  (hrow : s.ovg.row = some row) (count : s.ovg.count = some c)
include overlay hrow

/-- Columns lie from H0 on, 24 of 8 dots. -/
theorem State.dotOutput_of_outside {k : Nat} (h : k < o.h0 ∨ o.h0 + 192 ≤ k) : s.dotOutput k = .picture := by
  simp only [State.dotOutput, hrow, overlay]
  split
  · rfl
  · next within =>
    have beyond : row.cells[(k - o.h0) / 8]? = none := Vector.getElem?_eq_none (by omega)
    rw [beyond]

theorem State.dotOutput_of_inside (draw : s.ovg.draw = true) (column : Fin 24) (x : Fin 8)
    (within : o.h0 + 8 * column.val + x.val < o.dots) : s.dotOutput (o.h0 + 8 * column.val + x.val) =
      if glyphDot row.cells[column].glyph x row.glyphLine = true then .colour row.cells[column].colour
      else if row.cells[column].background = true then .black else .picture := by
  have offset : o.h0 + 8 * column.val + x.val - o.h0 = 8 * column.val + x.val := by omega
  have cell : row.cells[(8 * column.val + x.val) / 8]? = some row.cells[column] := by
    rw [show (8 * column.val + x.val) / 8 = column.val by omega]
    exact Vector.getElem?_eq_getElem column.isLt
  have dot : Fin.ofNat 8 ((8 * column.val + x.val) % 8) = x := Fin.ext (by simp only [Fin.ofNat]; omega)
  simp only [State.dotOutput, hrow, overlay, offset, cell, dot]
  exact if_neg (by simp [draw]; omega)

include count

/-- The dot in progress counts from the line start as it appears on the bus (R165). -/
theorem State.dotNow_iff (anyDots : 0 < o.dots) (k : Nat) : s.dotNow = some k ↔
    k < o.dots ∧ s.lineShown c + dotStart row.l16 o.dots k ≤ s.now ∧ s.now < s.lineShown c + dotStart row.l16 o.dots (k + 1) := by
  simp only [State.dotNow, count, hrow, overlay]
  exact dotAt_from_iff row.l16 _ _ k anyDots

end

theorem State.lineShown_eq (s : State) (c : LineCount) :
    s.lineShown c = if s.osw.source = .board then c.start + 12 else c.start := by
  unfold State.lineShown
  cases s.osw.source <;> rfl

/-! ## Glyphs (R163) -/

theorem glyphDot_unlit (x : Fin 8) (y : Fin 10) {g : Glyph} (known : g.val ≤ 53 ∨ 62 ≤ g.val) (edge : x = 7 ∨ 8 ≤ y.val) :
    glyphDot g x y = false := by
  have notSolid : g ≠ 61 := by
    rintro rfl
    revert known
    decide
  simp only [glyphDot, if_neg notSolid, if_pos (And.intro known edge), ite_self]

end Sys2Proof.Machine
end

section
open Sys2Proof.Machine

/-- Settles O52: lines by `gridLine_iff`, line starts by `State.beginLine`, dots by `dotAt_iff`, the bus by the dot in progress. -/
theorem overlayGridIsPlaced : Obligations.OverlayGridIsPlaced := by
  refine ⟨gridLine_iff, fun s o r overlay reference scaled n fieldLines => ⟨State.rowDrawn_of_outside overlay reference scaled,
    fun row y => State.rowDrawn_of_inside overlay reference scaled row y⟩, fun s start => ?_, fun l16 dots t k anyDots =>
    ⟨rfl, dotStart_last l16 anyDots, dotAt_iff l16 t k anyDots⟩, fun s o row c column x closed overlay hrow draw count anyDots => ?_,
    fun s => ⟨?_, fun o overlay row hrow c count anyDots => ?_⟩, fun x y => ⟨rfl, rfl, fun g => glyphDot_unlit x y⟩⟩
  · intro f l e draws
    refine ⟨fun isOpen => ⟨by simp only [f, State.overlayFieldStart, isOpen], State.overlayLineStart_of_uncounted start (.inl isOpen),
      State.overlayBoardEdge_of_uncounted start (.inl isOpen)⟩, fun closed => ?_, fun uncounted =>
      ⟨State.overlayLineStart_of_uncounted start (.inr uncounted), State.overlayBoardEdge_of_uncounted start (.inr uncounted)⟩,
      fun closed c count => ⟨?_, State.overlayBoardEdge_of_unused start, fun source r reference => ?_⟩⟩
    · have begins : f = s.beginLine 0 start s.referenceLines := by simp only [f, State.overlayFieldStart, closed]
      rw [begins, State.beginLine_of_closed closed, State.referenceLines_eq, State.rowDrawn_zero, ite_self]
    · have begins : l = s.beginLine (min 1023 (c.n + 1)) start c.fieldLines := by
        simp only [l, State.overlayLineStart, closed, count, satInc_eq_min]
      rw [begins, State.beginLine_of_closed closed]
    · simp only [e, State.overlayBoardEdge, source, count, reference, l]
  · intro k cell shown within begun unended
    have now : s.dotNow = some k :=
      (State.dotNow_iff overlay hrow count anyDots k).mpr ⟨within, s.lineShown_eq c ▸ begun, s.lineShown_eq c ▸ unended⟩
    have output : s.dotOutput k = if glyphDot cell.glyph x row.glyphLine = true then .colour cell.colour
        else if cell.background = true then .black else .picture := State.dotOutput_of_inside overlay hrow draw column x within
    refine ⟨output, ?_⟩
    obtain ⟨colour, black, picture⟩ := State.busPicture_of_closed closed k
    rw [State.busPictureNow, now]
    by_cases lit : glyphDot cell.glyph x row.glyphLine = true
    · rw [if_pos lit] at output ⊢
      exact colour _ output
    · rw [if_neg lit] at output ⊢
      by_cases background : cell.background = true
      · rw [if_pos background] at output
        rw [if_pos (.inl background)]
        exact black output
      · rw [if_neg background] at output
        simpa only [or_iff_right background] using picture output
  · rintro (isOpen | undrawn)
    · rw [State.busPictureNow_of_open isOpen, if_pos isOpen]
    · rw [State.busPictureNow_of_picture fun k => State.dotOutput_of_undrawn undrawn, State.switchPicture_eq]
  · intro shown outside
    rw [State.busPictureNow_of_picture fun k now => ?_, State.switchPicture_eq]
    obtain ⟨within, begun, unended⟩ := (State.dotNow_iff overlay hrow count anyDots k).mp now
    rw [State.lineShown_eq] at begun unended
    exact State.dotOutput_of_outside overlay hrow (dot_outside anyDots within begun unended outside)
end

section
/-!
SUPPORT. That every command goes on (O2): `GoesOn s t` says that from `s` to `t` the waiting commands and the rank stay and the clock does
not go back. Node reset and its end, which act on clock and rank, stand apart.
-/

namespace Sys2Proof.Machine

/-- From `s` to `t` the waiting commands and the rank stay, and the clock does not go back. -/
def State.GoesOn (s t : State) : Prop :=
  t.pending = s.pending ∧ s.now ≤ t.now ∧ t.rank = s.rank

namespace State.GoesOn

variable {r s t : State}

theorem refl (s : State) : s.GoesOn s := ⟨rfl, le_rfl, rfl⟩

theorem trans (h : r.GoesOn s) (h' : s.GoesOn t) : r.GoesOn t := by
  obtain ⟨pending, now, rank⟩ := h
  obtain ⟨pending', now', rank'⟩ := h'
  exact ⟨pending'.trans pending, now.trans now', rank'.trans rank⟩

/-- What leaves queue, clock and rank as they are goes on from wherever it stands. -/
theorem frame (h : r.GoesOn s) (same : t.pending = s.pending ∧ t.now = s.now ∧ t.rank = s.rank) : r.GoesOn t := by
  obtain ⟨pending, now, rank⟩ := same
  exact h.trans ⟨pending, now.ge, rank⟩

theorem elapse (s : State) (n : Nat) : s.GoesOn (s.elapse n) := ⟨by simp, Nat.le_add_right _ _, by simp⟩

theorem advanceTo (h : r.GoesOn s) (m : Moment) : r.GoesOn (s.advanceTo m) :=
  h.trans ⟨by simp, le_max_left _ _, by simp⟩

theorem settled (h : r.GoesOn s) : r.GoesOn s.settled := h.frame (by simp)

/-- An expiry comes at its moment, and what acts then leaves queue, clock and rank. -/
theorem onExpiry (s : State) (timer : Timer) {act : State → State}
    (same : ∀ u, (act u).pending = u.pending ∧ (act u).now = u.now ∧ (act u).rank = u.rank) : s.GoesOn (s.onExpiry timer act) := by
  cases timer with
  | none => exact refl s
  | some due => exact ((refl s).advanceTo due).frame (same _)

/-- A gap met is met at its end, twelve bit times after it began (R63). -/
theorem gapMet (h : r.GoesOn s) : r.GoesOn s.gapMet := by
  unfold State.gapMet
  split
  · next since _ => exact (h.advanceTo (since + idleGap)).frame (by simp)
  · next since _ => exact (h.advanceTo (since + idleGap)).frame (by simp)
  · exact h.frame (by simp)
  · exact h

end State.GoesOn

/-- The commands that act on clock or rank: node reset and its end (R178). -/
def ofNodeReset : Instr → Bool
  | .nodeReset _ _ => true
  | .nodeResetEnd _ _ => true
  | _ => false

/-- Every other command acts now, after its ticks, or at the end of its timer, and leaves queue and rank. -/
theorem exec_goesOn {c : Instr} (hc : ofNodeReset c = false) (s : State) : ∃ u, exec c s = done u ∧ s.GoesOn u := by
  have h := State.GoesOn.refl s
  have later (n : Nat) := State.GoesOn.elapse s n
  cases c with
  | nodeReset | nodeResetEnd => cases hc
  | pausedExpiry | broadDecided | tipSample | restSample | stall | lockExpiry | busSilent | busLineJudged | resetHoldExpiry
  | bootLimitExpiry | stallGraceExpiry | fillPulseEnd | joinWindowExpiry | bidWindowExpiry | seatWaitExpiry | answerTimerExpiry
  | coinQuietExpiry | passTimerExpiry | coinJam | pulseTimerExpiry | gapTimerExpiry | selectHoldExpiry | browseTimerExpiry
  | noticeTimerExpiry => exact ⟨_, rfl, .onExpiry s _ fun u => by simp⟩
  | acquisitionWindowEnd =>
    refine ⟨_, rfl, ?_⟩
    split
    · exact .onExpiry s _ fun u => by simp
    · exact h
  | framingError dt => exact ⟨_, rfl, (later dt).frame (by simp)⟩
  | tryFails dt | blockRead dt | leadingEdge dt | trailingEdge dt | busEdge dt | present dt | absent dt | presenceFirstDecision dt
  | closure dt | press dt | release dt | lampLevelChange dt | lineFall dt =>
    refine ⟨_, rfl, (later dt).frame ?_⟩
    split <;> simp [State.mirrorLamps]
  | detectedCoin dt | jammedClosureEnd dt =>
    refine ⟨_, rfl, (later dt).frame ?_⟩
    split
    · split <;> simp
    · simp
  | lineIdle dt =>
    refine ⟨_, rfl, ?_⟩
    split
    · exact (later dt).gapMet
    · exact later dt
  | lineStuck dt | lineClear dt =>
    refine ⟨_, rfl, ?_⟩
    split
    · exact (later dt).trans (by simp [State.GoesOn])
    · exact later dt
  | fillFieldStart | fillLineStart | frameJudged | ackWindowEnd | statusLampBlink =>
    refine ⟨_, rfl, ?_⟩
    split
    · simp [State.GoesOn]
    · exact h
  | lostArbitration | bitClash =>
    refine ⟨_, rfl, ?_⟩
    split
    · split
      · simp [State.GoesOn]
      · exact h
    · exact h
  | seatedTaken | bidTaken =>
    refine ⟨_, rfl, h.frame ?_⟩
    split <;> simp
  | helloTaken | offerTaken | answerTaken | passTaken =>
    refine ⟨_, rfl, h.frame ?_⟩
    split
    · split <;> simp
    · simp

/-- The end of node reset leaves queue and clock but for its ticks, and alone takes the rank anew (R178). -/
theorem exec_nodeResetEnd_goesOn (dt : Nat) (release : ResetRelease) (s : State) :
    ∃ u, exec (.nodeResetEnd dt release) s = done u ∧ u.pending = s.pending ∧ s.now ≤ u.now := by
  refine ⟨_, rfl, ?_⟩
  split <;> simp

end Sys2Proof.Machine
end

section
open Sys2Proof.Machine

/-- Settles O2: node reset and its end by what they do to queue and clock, every other command by `exec_goesOn`. -/
theorem everyCommandGoesOn : Obligations.EveryCommandGoesOn := by
  intro c s
  cases reset : ofNodeReset c with
  | false =>
    obtain ⟨u, run, on⟩ := exec_goesOn reset s
    obtain ⟨pending, now, rank⟩ := on.settled
    exact ⟨_, run, pending, fun _ => ⟨now, fun _ => rank⟩⟩
  | true =>
    cases c with
    | nodeReset dt cause =>
      refine ⟨_, rfl, ?_, fun shorter => ?_⟩
      · split <;> simp [State.resetBy]
      · rw [shorter dt cause rfl]
        obtain ⟨-, now, rank⟩ := (State.GoesOn.elapse s dt).settled
        exact ⟨now, fun _ => rank⟩
    | nodeResetEnd dt release =>
      obtain ⟨u, run, pending, now⟩ := exec_nodeResetEnd_goesOn dt release s
      exact ⟨_, run, by simpa using pending, fun _ => ⟨by simpa using now, fun other => absurd rfl (other dt release)⟩⟩
    | _ => cases reset
end

section
/-!
SUPPORT. What a valid block gives (O8): the ranges and orders that R180 asks of its bytes, as bounds; each byte's own bound, its 8 bits; the
title's length and the menu keys as they are read from their bytes (R184).
-/

namespace Sys2Proof.Machine

theorem inRange_iff {lo hi x : Nat} : inRange lo hi x = true ↔ lo ≤ x ∧ x ≤ hi := by
  simp [inRange]

theorem blockByte_le (b : List Byte) (i : Nat) : blockByte b i ≤ 255 :=
  Nat.le_of_lt_succ (b.getD i 0).isLt

theorem blockTitle_length (b : List Byte) : (blockTitle b).length = blockByte b 25 := by
  simp [blockTitle]

theorem allBytes_iff {b : List Byte} {i n : Nat} {p : Nat → Bool} :
    allBytes b i n p = true ↔ ∀ k < n, p (blockByte b (i + k)) = true := by
  simp [allBytes]

/-- Line numbers below 24 that differ name lines that differ. -/
theorem lines_nodup {codes : List Nat} (below : ∀ n ∈ codes, n < 24) (differ : codes.Nodup) : (codes.map (Fin.ofNat 24)).Nodup := by
  refine differ.map_on fun m hm n hn same => ?_
  rw [Fin.ext_iff, Fin.val_ofNat, Fin.val_ofNat, Nat.mod_eq_of_lt (below m hm), Nat.mod_eq_of_lt (below n hn)] at same
  exact same

section
variable {b : List Byte} (valid : blockValid b = true)
include valid

/-- The groups of conditions on the fields of a valid block (R180, R184). -/
theorem groups_of_blockValid : blockTimingInRange b = true ∧ blockTitleInRange b = true ∧ blockPanelInRange b = true ∧
    blockConsistent b = true := by
  simp only [blockValid, Bool.and_eq_true] at valid
  obtain ⟨⟨⟨⟨⟨-, timing⟩, title⟩, panel⟩, consistent⟩, -⟩ := valid
  exact ⟨timing, title, panel, consistent⟩

/-- Slicer, measurement unit and board supervisor: bytes 3 to 24 (R184). -/
theorem timing_of_blockValid :
    let q := blockQuantities b
    4 ≤ q.smin ∧ q.smax ≤ 250 ∧ 2 ≤ q.settleFields ∧ q.settleFields ≤ 15 ∧ q.l16Max ≤ 65520 ∧ q.hlMax ≤ 1022 ∧ 134 ≤ q.wMax ∧
    q.wMax ≤ 384 ∧ 10 ≤ q.resetHoldMs ∧ q.resetHoldMs ≤ 1000 ∧ q.resetHoldMs % 10 = 0 ∧ 1 ≤ q.bootLimitS ∧ q.bootLimitS ≤ 60 := by
  obtain ⟨timing, -⟩ := groups_of_blockValid valid
  simp only [blockTimingInRange, Bool.and_eq_true, inRange_iff] at timing
  simp only [blockQuantities]
  omega

/-- The title is at most 20 glyphs long: byte 25 (R184). -/
theorem title_of_blockValid : (blockQuantities b).title.length ≤ 20 := by
  obtain ⟨-, title, -⟩ := groups_of_blockValid valid
  simp only [blockTitleInRange, Bool.and_eq_true, inRange_iff] at title
  obtain ⟨⟨-, length⟩, -⟩ := title
  exact (blockTitle_length b).trans_le length

/-- Filters and coin unit: bytes 98 to 101 (R184). -/
theorem filters_of_blockValid :
    let q := blockQuantities b
    1 ≤ q.panelFilterMs ∧ q.panelFilterMs ≤ 15 ∧ 5 ≤ q.coinFilterMs ∧ q.coinFilterMs ≤ 50 ∧ 20 ≤ q.coinPulseMs ∧ q.coinPulseMs ≤ 200 ∧
    20 ≤ q.coinGapMs ∧ q.coinGapMs ≤ 200 := by
  obtain ⟨-, -, panel, -⟩ := groups_of_blockValid valid
  simp only [blockPanelInRange, Bool.and_eq_true, inRange_iff] at panel
  simp only [blockQuantities]
  omega

/-- The pairs of limits are ordered (R180). -/
theorem ordered_of_blockValid :
    let q := blockQuantities b
    q.smin ≤ q.smax ∧ q.l16Min ≤ q.l16Max ∧ q.hlMin ≤ q.hlMax := by
  obtain ⟨-, -, -, consistent⟩ := groups_of_blockValid valid
  simp only [blockConsistent, Bool.and_eq_true, decide_eq_true_eq] at consistent
  obtain ⟨⟨⟨swing, period⟩, lines⟩, -⟩ := consistent
  exact ⟨swing, period, lines⟩

/-- The four menu keys differ: bytes 94 to 97 name lines, and differ (R180, R184). -/
theorem keys_of_blockValid : ∃ k, (blockQuantities b).keys = some k ∧ [k.up, k.down, k.pick, k.back].Nodup := by
  obtain ⟨-, -, panel, consistent⟩ := groups_of_blockValid valid
  simp only [blockPanelInRange, Bool.and_eq_true, allBytes_iff, inRange_iff] at panel
  obtain ⟨⟨⟨⟨⟨⟨⟨⟨-, keys⟩, -⟩, -⟩, -⟩, -⟩, -⟩, -⟩, -⟩ := panel
  simp only [blockConsistent, Bool.and_eq_true, decide_eq_true_eq] at consistent
  obtain ⟨-, differ⟩ := consistent
  refine ⟨_, rfl, lines_nodup (fun n hn => ?_) differ⟩
  obtain ⟨i, hi, rfl⟩ : ∃ i < 4, blockByte b (94 + i) = n := by
    simp only [List.mem_cons, List.not_mem_nil, or_false] at hn
    rcases hn with rfl | rfl | rfl | rfl
    exacts [⟨0, by decide, rfl⟩, ⟨1, by decide, rfl⟩, ⟨2, by decide, rfl⟩, ⟨3, by decide, rfl⟩]
  exact Nat.lt_succ_of_le (keys i hi).2

/-- The overlay: bytes 103 to 107 (R184). -/
theorem overlay_of_blockValid : ∃ o, (blockQuantities b).overlay = some o ∧ 256 ≤ o.dots ∧ o.dots ≤ 640 ∧ o.h0 ≤ 255 ∧ o.v0 ≤ 255 ∧
    (o.scale = 1 ∨ o.scale = 2) := by
  obtain ⟨-, -, panel, -⟩ := groups_of_blockValid valid
  simp only [blockPanelInRange, Bool.and_eq_true, inRange_iff] at panel
  obtain ⟨⟨-, dots⟩, scale⟩ := panel
  obtain ⟨fewest, most⟩ := dots
  have single : blockByte b 107 = 1 ∨ blockByte b 107 = 2 := by omega
  exact ⟨_, rfl, fewest, most, blockByte_le b 105, blockByte_le b 106, single⟩

end

end Sys2Proof.Machine
end

section
open Sys2Proof.Machine

/-- Settles O8, group by group of the block's fields; what R184 leaves to a whole byte is bounded by its 8 bits. -/
theorem validBlockIsInRange : Obligations.ValidBlockIsInRange := by
  intro b valid
  obtain ⟨sminLow, smaxHigh, fieldsLow, fieldsHigh, l16High, hlHigh, wLow, wHigh, timers⟩ := timing_of_blockValid valid
  obtain ⟨resetLow, resetHigh, resetTens, bootLow, bootHigh⟩ := timers
  obtain ⟨swing, period, lines⟩ := ordered_of_blockValid valid
  obtain ⟨panelLow, panelHigh, coins⟩ := filters_of_blockValid valid
  obtain ⟨coinLow, coinHigh, pulseLow, pulseHigh, gapLow, gapHigh⟩ := coins
  exact ⟨blockByte_le b 4, sminLow, swing, smaxHigh, blockByte_le b 8, blockByte_le b 9, fieldsLow, fieldsHigh, period, l16High, lines,
    hlHigh, wLow, wHigh, resetLow, resetHigh, resetTens, bootLow, bootHigh, title_of_blockValid valid, panelLow, panelHigh, coinLow,
    coinHigh, pulseLow, pulseHigh, gapLow, gapHigh, keys_of_blockValid valid, overlay_of_blockValid valid⟩
end

section
/-!
SUPPORT. The end of node reset (R178) and the read tries (R179): each command as the operation it runs, and what that operation leaves.
-/

namespace Sys2Proof.Machine

theorem strapRank_val (p : Straps) : (strapRank p).val = p.rk0.toNat + 2 * p.rk1.toNat + 4 * p.rk2.toNat := by
  have := p.rk0.toNat_le
  have := p.rk1.toNat_le
  have := p.rk2.toNat_le
  exact Nat.mod_eq_of_lt (by omega)

/-- A cause persists with NRESET low, or with the supply in its range for less than 20 ms (R178). -/
theorem ResetCauses.after_eq (c : ResetCauses) (supply : Nat) (nresetHigh : Bool) : c.after supply nresetHigh =
    { pin := decide (c.pin = true ∧ nresetHigh = false), power := decide (c.power = true ∧ supply < 960000) } := by
  have hold : supplyHold = 960000 := rfl
  simp [ResetCauses.after, hold, Bool.decide_and]

/-- Every cause fails a try but a clock hold of at most 1 ms (R179). -/
theorem failureCounts_iff (cause : TryFailure) :
    failureCounts cause = true ↔ ∀ ticks, cause = .clockHold ticks → 48000 < ticks := by
  cases cause <;> simp [failureCounts, ms, ticksPerMs]

section
variable {s : State}

theorem exec_nodeResetEnd (dt : Nat) (release : ResetRelease) (held : s.cfl.load = .held) :
    exec (.nodeResetEnd dt release) s = .next ((s.elapse dt).causesEnd release).settled := by
  simp [exec, execNodeResetEnd, done_eq, held]

theorem State.causesEnd_of_persisting (release : ResetRelease)
    (h : (s.cfl.causes.pin = true ∧ release.nresetHigh = false) ∨ (s.cfl.causes.power = true ∧ release.supply < 960000)) :
    s.causesEnd release = s.withCauses (s.cfl.causes.after release.supply release.nresetHigh) := by
  unfold State.causesEnd
  exact if_pos (by simpa [ResetCauses.after_eq] using h)

theorem State.causesEnd_of_none (release : ResetRelease)
    (pin : ¬(s.cfl.causes.pin = true ∧ release.nresetHigh = false)) (power : ¬(s.cfl.causes.power = true ∧ release.supply < 960000)) :
    s.causesEnd release = s.nodeResetEnds release.straps := by
  unfold State.causesEnd
  exact if_neg (by simpa [ResetCauses.after_eq] using And.intro (not_and.mp pin) (not_and.mp power))

/-- A failed try; a clock hold fails it past 1 ms alone (R179). -/
theorem exec_tryFails (dt : Nat) (failed : FailedTry) (reading : s.cfl.load = .reading) : exec (.tryFails dt failed) s =
    .next (if failureCounts failed.cause = true then (s.elapse dt).tryFails failed.linesFree else s.elapse dt).settled := by
  cases fails : failureCounts failed.cause <;> simp [exec, execTryFails, done_eq, reading, fails]

theorem exec_pausedExpiry {due : Moment} (runs : s.cfl.pause = some due) : exec .pausedExpiry s =
    .next ({ s.advanceTo due with cfl := { s.cfl with
      load := .reading, tries := s.cfl.tries + 1, pause := none, port := .reading (max s.now due) } } : State).settled := by
  rw [exec, execPausedExpiry, done_eq, runs]
  rfl

/-- With tries left, a pause of 10 ms begins and the port is released, or forms a stop condition (R179). -/
theorem State.tryFails_of_left (linesFree : Bool) (left : s.cfl.tries < 3) : s.tryFails linesFree =
    { s with cfl := { s.cfl with
      load := .paused, pause := some (s.now + 480000), port := if linesFree then .stopping s.now else .released } } := by
  rw [State.tryFails, if_pos left]
  rfl

end

end Sys2Proof.Machine
end

section
open Sys2Proof.Machine

/-- Settles O4: by whether a cause of node reset persists. -/
theorem nodeResetEndTakesRank : Obligations.NodeResetEndTakesRank := by
  intro s dt supply nresetHigh p held pin power
  refine ⟨_, exec_nodeResetEnd dt _ held, by simp, fun noPin noPower => ?_, fun persists => ?_⟩
  · rw [State.causesEnd_of_none (s := s.elapse dt) ⟨supply, nresetHigh, p⟩ noPin noPower]
    refine ⟨?_, ?_, ?_, ?_⟩
    · simpa [State.nodeResetEnds] using strapRank_val p
    · simp [State.nodeResetEnds]
    · simp [State.nodeResetEnds]
    · simp [State.agreesOutside_iff, follows]
  · rw [State.causesEnd_of_persisting (s := s.elapse dt) ⟨supply, nresetHigh, p⟩ persists]
    refine ⟨?_, ?_⟩
    · simp [ResetCauses.after_eq, pin, power]
    · simp [State.agreesOutside_iff, follows]

/-- Settles O5: a try by whether its cause fails it, the pause's end by what it runs. -/
theorem failedTryPausesAndRetries : Obligations.FailedTryPausesAndRetries := by
  refine ⟨fun s dt cause linesFree reading left => ?_, fun s due runs => ?_⟩
  · refine ⟨_, exec_tryFails dt _ reading, ?_, fun long => ?_, fun ticks hold short => ?_⟩
    · split <;> simp
    · rw [if_pos ((failureCounts_iff cause).mpr long), State.tryFails_of_left (s := s.elapse dt) linesFree left]
      exact ⟨by simp, by simp [State.agreesOutside_iff, follows]⟩
    · have passes : ¬failureCounts cause = true := fun fails =>
        absurd ((failureCounts_iff cause).mp fails ticks hold) (Nat.not_lt.mpr short)
      rw [if_neg passes]
      simp [State.agreesOutside_iff, follows]
  · exact ⟨_, exec_pausedExpiry runs, by simp, by simp, by simp [State.agreesOutside_iff, follows]⟩
end

section
/-!
SUPPORT. The first case of one step: a command waits in the queue.
-/

namespace Sys2Proof.Machine

/-- The rest of the queue is in place before the command at its front runs, and the timers are not consulted (assumption log 32). -/
theorem step_of_pending {c : Instr} {rest : List Instr} {s : State} (queue : s.pending = c :: rest) :
    step s = exec c (s.withPending rest) := by
  simp only [step, queue]

end Sys2Proof.Machine
end

section
open Sys2Proof.Machine

/-- Settles O1, by the case of the step in which a command waits (`step_of_pending`). -/
theorem stepRunsFrontCommand : Obligations.StepRunsFrontCommand :=
  fun _ _ _ queue => step_of_pending queue
end
